-- ==== Sys2Proof/Word.lean ====
section
/-! DEFINITION. The words the station handles: bytes, samples, check registers, counters. -/

namespace Sys2Proof

/-- A byte of a frame payload or of segment memory. -/
abbrev Byte := BitVec 8

/-- One 16-bit linear audio sample, in two's complement (R52). -/
abbrev Sample := BitVec 16

/-- A 32-bit word: counters (R197), CRC-32 registers (R162), seconds since reset (R135). -/
abbrev Word32 := BitVec 32

/-- A dictation line, 0 to 7. -/
abbrev LineNo := Fin 8

/-- An entry of the Letter Table, 0 to 63 (R1). -/
abbrev LetterIx := Fin 64

/-- A station number: 1 to 62, or 63 for all stations (R112). -/
abbrev Station := Nat

end Sys2Proof
end

