-- ==== Sys2Proof/Config.lean ====
section
/-! DEFINITION. What the part fixes (sizes, limits, times) and the free values the spec leaves open. -/

namespace Sys2Proof.Config

/-- Audio blocks of segment memory (R35). -/
def blockCount : Nat := 32768
/-- Bytes of one audio block (R35). -/
def blockBytes : Nat := 1024
/-- Most slices one block holds (R36, R38). -/
def blockSlices : Nat := 250
/-- Records of the Segment Record Pool (R8). -/
def poolRecords : Nat := 49152
/-- Most records of one chain (R7). -/
def chainLimit : Nat := 8192
/-- Most slices of one letter (R7). -/
def lengthLimit : Nat := 45000
/-- Reserve credit of a line at reset, and its most (R44). -/
def lineCredit : Nat := 128
/-- Last pass number a letter can have (R11). -/
def lastPass : Nat := 255
/-- Samples of one slice (R52). -/
def sliceSamples : Nat := 160
/-- Coded slices a Hold Buffer holds (R85). -/
def holdSlices : Nat := 3
/-- Frames the Control Queue holds (R129). -/
def controlFrames : Nat := 16
/-- Attempts of one frame (R127). -/
def frameAttempts : Nat := 16
/-- The fault count at which the link detaches (R122). -/
def faultLimit : Nat := 256
/-- The highest letter number (R140). -/
def lastNumber : Nat := 16777215
/-- Destination of a frame for all stations (R112). -/
def allStations : Station := 63
/-- Cursor step of a short press and of one wind step (R20). -/
def shortPress : Nat := 100
def windStep : Nat := 5

/-- Times in milliseconds, each with its rule. -/
def listenMs : Nat := 2000            -- R192
def beaconMs : Nat := 1000            -- R134
def silenceMs : Nat := 3500           -- R138
def authorDigitMs : Nat := 10000      -- R73
def seekDigitMs : Nat := 5000         -- R75
def waitMs : Nat := 10000             -- R79
def windMs : Nat := 20                -- R81
def claimWaitMs : Nat := 100          -- R145
def objectionUnits : Nat := 5000      -- R151: 50 ms in units of 10 µs
def locateQueuedMs : Nat := 1000      -- R155
def collectMs : Nat := 150            -- R155
def acceptMs : Nat := 300             -- R158
def receiveMs : Nat := 500            -- R160
def takeMs : Nat := 2000              -- R164
def checkMs : Nat := 2000             -- R161
def offerAnswerMs : Nat := 500        -- R176
def endAnswerMs : Nat := 2000         -- R180
def retryMs : Nat := 1000             -- R177
/-- A line-active level is taken when it has held this many 10 µs units, 20 ms (R69). -/
def lineActiveHold : Nat := 2000
/-- Samples of a valid pair that make a key (R97), samples without it that release one (R98), and the
down run at which a key is held (R100). -/
def keySamples : Nat := 320
def gapSamples : Nat := 240
def heldSamples : Nat := 4800
/-- Bit times of a MUTED station's hold-off (R122). -/
def holdOffBits : Nat := 16
/-- Dominant bits of an error burst (R119). -/
def burstBits : Nat := 12

/-! ### Free values: no body, so no proof can know them (log 6). -/

/-- The caution flag of a Beacon built while the link is DETACHED: R122 and R135 give it for
CAUTION, MUTED and NORMAL alone. Applied to the index of free values. -/
opaque detachedCaution : Nat → Bool
/-- The two bytes a line-states answer carries for an absent author code (R196, R201). -/
opaque absentAuthor : Nat → LineNo → BitVec 16
/-- The two bytes a line-states answer carries for the cursor of a line without a letter. -/
opaque absentCursor : Nat → LineNo → BitVec 16

end Sys2Proof.Config
end

