-- ==== Sys2Proof/Syntax.lean ====
section
/-! DEFINITION. The commands of spec/opcode_table.json, one constructor per row, and the types of
their operands: keys, slices, frames and the contents of frames. -/

namespace Sys2Proof

/-- The sixteen keys, by keypad legend (R96). -/
inductive Key where
  | k0 | k1 | k2 | k3 | k4 | k5 | k6 | k7 | k8 | k9 | kA | kB | kC | kD | star | hash
deriving DecidableEq, Repr

/-- A digit key, 0 to 9. -/
abbrev Digit := Fin 10

/-- The wind keys: key 4 and key 5 (R81). -/
inductive Wind where
  | rewind | forward
deriving DecidableEq, Repr

/-- One line's inbound slice as the Tone Unit hands it on (R102). -/
structure InSlice where
  samples : List Sample
  toneTouched : Bool
  speech : Bool
deriving DecidableEq, Repr

/-- The error kinds of R118. -/
inductive ErrKind where
  | insertion | form | check | acknowledge | bit | stuck
deriving DecidableEq, Repr

/-- A frame as it crosses the bus: its header fields and payload bytes (R112). -/
structure Frame where
  cls : BitVec 3
  kind : BitVec 5
  sender : BitVec 6
  dest : BitVec 6
  payload : List Byte
deriving DecidableEq, Repr

/-- Coding tiers (R55). -/
inductive Tier where
  | a | b | c
deriving DecidableEq, Repr

inductive Priority where
  | normal | urgent
deriving DecidableEq, Repr

inductive RecMode where
  | insert | overwrite
deriving DecidableEq, Repr

inductive RecKind where
  | dictation | instruction
deriving DecidableEq, Repr

/-- Station classes (R135, R201). -/
inductive StationClass where
  | squeeze | filing | console
deriving DecidableEq, Repr

/-- Reasons of a Fetch Cancel (R201). -/
inductive CancelReason where
  | timeout | noMemory | check
deriving DecidableEq, Repr

/-- Reasons of a Fetch Refuse (R159, R201). -/
inductive RefuseReason where
  | busy | closed | unknown
deriving DecidableEq, Repr

/-- Answers of a Check Answer (R169, R201). -/
inductive CheckReply where
  | settling | receiving | notHeld
deriving DecidableEq, Repr

/-- Reasons of a Settings Refused (R195). -/
inductive SettingsReason where
  | alreadySet | active
deriving DecidableEq, Repr

/-- The contents of a Beacon (R135, R201). -/
structure BeaconBody where
  cls : StationClass
  /-- the station state code: 2 is ACTIVE -/
  state : Nat
  caution : Bool
  next : Nat
  capacity : Nat
  held : Nat
  closed : Nat
  seconds : Nat
deriving DecidableEq, Repr

/-- The snapshot a Fetch Accept carries (R159). -/
structure Snapshot where
  number : Nat
  author : Nat
  priority : Priority
  mode : RecMode
  instrNext : Bool
  cursor : Nat
  length : Nat
  passCount : Nat
  records : Nat
  bytes : Nat
  blocks : Nat
deriving DecidableEq, Repr

/-- The contents of an Offer (R176). -/
structure OfferBody where
  number : Nat
  author : Nat
  priority : Priority
  unfinished : Bool
  length : Nat
  records : Nat
  bytes : Nat
deriving DecidableEq, Repr

/-- The contents of a Settings frame, each field as its code in the payload (R201). -/
structure SettingsBody where
  tier : Nat
  errMode : Nat
  pauseCap : Nat
  autoPause : Nat
  holdLimit : Nat
  pacingGap : Nat
  lineMask : Nat
  floor : Nat
  preferred : Nat
deriving DecidableEq, Repr

/-- The contents of a Transfer Data or Letter Data frame: where its items start, how many items it
carries (a record header counts as one), and their bytes (R161, R178, R202). -/
structure DataBody where
  number : Nat
  record : Nat
  slice : Nat
  items : Nat
  bytes : List Byte
deriving DecidableEq, Repr

/-- The service kinds a squeeze station discards (R196). -/
inductive ServiceKind where
  | settingsRefused | queryAnswer | event
deriving DecidableEq, Repr

/-- A command. One constructor for each row of spec/opcode_table.json, in the table's order. -/
inductive Instr where
  | stationReset (stn : Fin 64) (rate : Fin 4)
  | listenTimerExpiry
  | secondsSinceResetTick
  | lineActiveRising (line : LineNo)
  | lineClear (line : LineNo)
  | slicePeriodEnd (inbound : List InSlice)
  | autoPause (line : LineNo)
  | keyReleased (line : LineNo) (key : Key)
  | keyBecomeHeld (line : LineNo) (key : Key)
  | refusedKey (line : LineNo) (key : Key)
  | authorDigit (line : LineNo) (digit : Digit)
  | authorEnter (line : LineNo)
  | authorDigitTimeout (line : LineNo)
  | newLetter (line : LineNo)
  | resume (line : LineNo)
  | seekDigit (line : LineNo) (digit : Digit)
  | seekEnter (line : LineNo)
  | seekDigitTimeout (line : LineNo)
  | record (line : LineNo)
  | stop (line : LineNo)
  | play (line : LineNo)
  | windShortPress (line : LineNo) (wind : Wind)
  | windHeld (line : LineNo) (wind : Wind)
  | windStep (line : LineNo)
  | windRelease (line : LineNo) (wind : Wind)
  | goToStart (line : LineNo)
  | goToEnd (line : LineNo)
  | insertOverwriteToggle (line : LineNo)
  | instructionMark (line : LineNo)
  | priority (line : LineNo)
  | endOfLetter (line : LineNo)
  | discardPass (line : LineNo)
  | hold (line : LineNo)
  | promptEnded (line : LineNo)
  | heldTimerExpiry (letter : LetterIx)
  | waitTimerExpiry (line : LineNo)
  | beaconTimerExpiry
  | beacon (sender : Station) (body : BeaconBody)
  | silenceTimerExpiry (station : Station)
  | numberClaimCompletes (number : Nat)
  | claimWaitTimerExpiry
  | numberClaim (sender : Station) (number : Nat)
  | claimObjection (sender : Station) (number : Nat) (claimer : Station)
  | objectionWindowExpiry (number : Nat)
  | locateCompletes (tag : BitVec 8)
  | locateQueuedTimeout (line : LineNo)
  | collectionWindowExpiry (line : LineNo)
  | locate (sender : Station) (author k : Nat) (tag : BitVec 8)
  | locateAnswer (sender : Station) (tag : BitVec 8) (author : Nat) (numbers : List Nat)
  | fetch (sender : Station) (number author : Nat)
  | fetchAccept (sender : Station) (snapshot : Snapshot)
  | fetchRefuse (sender : Station) (number : Nat) (reason : RefuseReason)
  | fetchAcceptCompletes (transfer : Nat)
  | transferDataCompletes (transfer : Nat) (data : DataBody)
  | transferEndCompletes (transfer : Nat)
  | transferData (sender : Station) (data : DataBody)
  | transferEnd (sender : Station) (number : Nat) (check : Word32)
  | acceptTimerExpiry
  | receiveTimerExpiry
  | fetchCancel (sender : Station) (number : Nat) (reason : CancelReason)
  | take (sender : Station) (number : Nat)
  | released (sender : Station) (number : Nat)
  | takeUnknown (sender : Station) (number : Nat)
  | takeTimerExpiry (number : Nat)
  | checkTimerExpiry
  | transferCheck (sender : Station) (number : Nat)
  | checkAnswer (sender : Station) (number : Nat) (reply : CheckReply)
  | offerCompletes (delivery : Nat)
  | offerAccept (sender : Station) (number tag : Nat)
  | offerRefuse (sender : Station) (number reason : Nat)
  | offerAnswerTimeout
  | retryTimerExpiry
  | letterDataCompletes (delivery : Nat) (data : DataBody)
  | letterEndCompletes (delivery : Nat)
  | filed (sender : Station) (number tag : Nat)
  | deliveryRejected (sender : Station) (number tag reason : Nat)
  | letterEndAnswerTimeout
  | offer (sender : Station) (body : OfferBody)
  | settings (sender dest : Station) (body : SettingsBody)
  | queryCounters (sender dest : Station)
  | queryErrorRecord (sender dest : Station)
  | queryLetterSummary (sender dest : Station)
  | queryLineStates (sender dest : Station)
  | queryClearCounters (sender dest : Station)
  | queryUnknownKind (sender dest : Station) (kind : Nat)
  | serviceFrameDiscard (sender : Station) (kind : ServiceKind)
  | frameReception (frame : Frame)
  | transmitArbiterChoose
  | lostArbitration
  | frameSuccess
  | frameAttemptFailed (kinds : List ErrKind)
  | receiveError (kinds : List ErrKind)
  | linkRecovery
  | stuckEvent
  | busViewIdle
  | holdOffExpiry
  | windKeyRecognised (line : LineNo) (wind : Wind)
  | keyIgnoredInIdle (line : LineNo) (key : Key)
  | currentFrameReattempt
deriving DecidableEq, Repr

end Sys2Proof
end

