-- ==== Sys2Proof/WellFormed.lean ====
section
/-! DEFINITION. Which operands a command can carry: the ranges the spec gives each field. -/

namespace Sys2Proof

/-- A station that can send a frame (R112, R204). -/
def Station.isSender (s : Station) : Bool := 1 ≤ s && s ≤ 62

/-- A frame's destination: one station, or all of them (R112). -/
def Station.isDest (s : Station) : Bool := 1 ≤ s && s ≤ 63

/-- A letter number a frame can carry (R205). -/
def numberOk (n : Nat) : Bool := 1 ≤ n && n ≤ Config.lastNumber

/-- An author code (R205). -/
def authorOk (n : Nat) : Bool := n ≤ 9999

/-- A delivery tag (R205). -/
def tagOk (n : Nat) : Bool := n ≤ 3

namespace BeaconBody
/-- The ranges of a Beacon's fields in its layout (R201). -/
def wf (b : BeaconBody) : Bool :=
  b.state ≤ 255 && b.next ≤ Config.lastNumber && b.capacity ≤ 65535 && b.held ≤ 255 &&
    b.closed ≤ 255 && b.seconds ≤ 4294967295
end BeaconBody

namespace Snapshot
/-- The ranges a Fetch Accept passes the receiver checks with (R205) and its layout holds (R201). -/
def wf (p : Snapshot) : Bool :=
  numberOk p.number && authorOk p.author && p.length ≤ Config.lengthLimit && p.cursor ≤ p.length &&
    p.passCount ≤ 255 && p.records ≤ Config.chainLimit && p.bytes ≤ 16777215 && p.blocks ≤ 65535
end Snapshot

namespace OfferBody
/-- The ranges of an Offer's fields (R201, R205). -/
def wf (o : OfferBody) : Bool :=
  numberOk o.number && authorOk o.author && o.length ≤ 65535 && o.records ≤ 65535 &&
    o.bytes ≤ 16777215
end OfferBody

namespace SettingsBody
/-- The ranges of a Settings frame's fields in its layout (R201); values outside the ranges of R194
are well formed and take their defaults. -/
def wf (b : SettingsBody) : Bool :=
  b.tier ≤ 3 && b.errMode ≤ 3 && b.pauseCap ≤ 255 && b.autoPause ≤ 255 && b.holdLimit ≤ 255 &&
    b.pacingGap ≤ 255 && b.lineMask ≤ 255 && b.floor ≤ 16777215 && b.preferred ≤ 63
end SettingsBody

namespace DataBody
/-- The ranges of a Transfer Data frame's fields (R201). -/
def wf (d : DataBody) : Bool :=
  numberOk d.number && d.record ≤ 65535 && d.slice ≤ 255 && d.items ≤ 255 && d.bytes.length ≤ 241
end DataBody

/-- A slice holds 160 samples (R52). -/
def InSlice.wf (x : InSlice) : Bool := x.samples.length == Config.sliceSamples

/-- A frame carries at most 248 payload bytes (R112). -/
def Frame.wf (f : Frame) : Bool := f.payload.length ≤ 248

namespace Instr

/-- The operands of each command lie in the ranges the spec gives them. -/
def wf : Instr → Bool
  | .slicePeriodEnd inbound => inbound.length == 8 && inbound.all InSlice.wf
  | .seekDigit _ _ | .authorDigit _ _ => true
  | .beacon sender body => sender.isSender && body.wf
  | .silenceTimerExpiry station => station.isSender
  | .numberClaimCompletes number => 1 ≤ number && number < Config.lastNumber
  | .numberClaim sender number => sender.isSender && numberOk number
  | .claimObjection sender number claimer =>
      sender.isSender && numberOk number && claimer ≤ 255
  | .objectionWindowExpiry number => numberOk number
  | .locate sender author k _ => sender.isSender && authorOk author && 1 ≤ k && k ≤ 9
  | .locateAnswer sender _ author numbers =>
      sender.isSender && authorOk author && 1 ≤ numbers.length && numbers.length ≤ 8 &&
        numbers.all numberOk
  | .fetch sender number author => sender.isSender && numberOk number && authorOk author
  | .fetchAccept sender snapshot => sender.isSender && snapshot.wf
  | .fetchRefuse sender number _ => sender.isSender && numberOk number
  | .transferDataCompletes _ data => data.wf
  | .transferData sender data => sender.isSender && data.wf
  | .transferEnd sender number _ => sender.isSender && numberOk number
  | .fetchCancel sender number _ => sender.isSender && numberOk number
  | .take sender number | .released sender number | .takeUnknown sender number
  | .transferCheck sender number => sender.isSender && numberOk number
  | .takeTimerExpiry number => numberOk number
  | .checkAnswer sender number _ => sender.isSender && numberOk number
  | .offerAccept sender number tag => sender.isSender && numberOk number && tagOk tag
  | .offerRefuse sender number reason => sender.isSender && numberOk number && reason ≤ 255
  | .letterDataCompletes _ data => data.wf && data.bytes.length ≤ 240
  | .filed sender number tag => sender.isSender && numberOk number && tagOk tag
  | .deliveryRejected sender number tag reason =>
      sender.isSender && numberOk number && tagOk tag && reason ≤ 255
  | .offer sender body => sender.isSender && body.wf
  | .settings sender dest body => sender.isSender && dest.isDest && body.wf
  | .queryCounters sender dest | .queryErrorRecord sender dest | .queryLetterSummary sender dest
  | .queryLineStates sender dest | .queryClearCounters sender dest => sender.isSender && dest.isDest
  | .queryUnknownKind sender dest kind =>
      sender.isSender && dest.isDest && 5 ≤ kind && kind ≤ 255
  | .serviceFrameDiscard sender _ => sender.isSender
  | .frameReception frame => frame.wf
  | .frameAttemptFailed kinds => !kinds.isEmpty && !kinds.contains .stuck
  | .receiveError kinds =>
      !kinds.isEmpty && kinds.all (fun k => k == .insertion || k == .form || k == .check)
  | .stationReset _ _ | .listenTimerExpiry | .secondsSinceResetTick | .lineActiveRising _
  | .lineClear _ | .autoPause _ | .keyReleased _ _ | .keyBecomeHeld _ _ | .refusedKey _ _
  | .authorEnter _ | .authorDigitTimeout _ | .newLetter _ | .resume _ | .seekEnter _
  | .seekDigitTimeout _ | .record _ | .stop _ | .play _ | .windShortPress _ _ | .windHeld _ _
  | .windStep _ | .windRelease _ _ | .goToStart _ | .goToEnd _ | .insertOverwriteToggle _
  | .instructionMark _ | .priority _ | .endOfLetter _ | .discardPass _ | .hold _ | .promptEnded _
  | .heldTimerExpiry _ | .waitTimerExpiry _ | .beaconTimerExpiry | .claimWaitTimerExpiry
  | .locateCompletes _ | .locateQueuedTimeout _ | .collectionWindowExpiry _
  | .fetchAcceptCompletes _ | .transferEndCompletes _ | .acceptTimerExpiry | .receiveTimerExpiry
  | .checkTimerExpiry | .offerCompletes _ | .offerAnswerTimeout | .retryTimerExpiry
  | .letterEndCompletes _ | .letterEndAnswerTimeout | .transmitArbiterChoose | .lostArbitration
  | .frameSuccess | .linkRecovery | .stuckEvent | .busViewIdle | .holdOffExpiry
  | .windKeyRecognised _ _ | .keyIgnoredInIdle _ _ | .currentFrameReattempt => true

end Instr

/-- The command's operands are well formed. -/
abbrev WellFormed (i : Instr) : Prop := i.wf = true

end Sys2Proof
end

