-- ==== Sys2Proof/Machine/Filters.lean ====
section
/-! DEFINITION. The filters of the Tone Unit's detectors: cascades of second-order sections, and the bank
of filters the station has (R92 to R95; log 12). -/

namespace Sys2Proof.Machine

/-- A second-order section: its coefficients in units of 1 / 2^40, the first of the denominator being
1. -/
structure Biquad where
  b0 : Int
  b1 : Int
  b2 : Int
  a1 : Int
  a2 : Int
deriving DecidableEq, Repr

/-- The station's own filters: the eight keypad filters in rising frequency (R94), and the high-pass and
the low-pass section of the speech detector (R95). -/
structure FilterBank where
  keypad : Vector (List Biquad) 8
  highPass : List Biquad
  lowPass : List Biquad
deriving DecidableEq, Repr

/-- The unit of the coefficients. -/
def Biquad.unit : Int := 1099511627776

/-- A section's next output from the new input, its last two inputs and its last two outputs. -/
def Biquad.out (q : Biquad) (x : Int) (ins outs : Int × Int) : Int :=
  (q.b0 * x + q.b1 * ins.1 + q.b2 * ins.2 - q.a1 * outs.1 - q.a2 * outs.2) / Biquad.unit

/-- One value through a cascade: the new history and the output. The history holds the last two values
(the newer first) at the cascade's input and after each section; what it does not list is zero
(R92, R93). -/
def cascadeStep : List Biquad → List (Int × Int) → Int → List (Int × Int) × Int
  | [], h, x => ([(x, (h.headD (0, 0)).1)], x)
  | q :: rest, h, x =>
      let ins := h.headD (0, 0)
      let r := cascadeStep rest h.tail (q.out x ins (h.tail.headD (0, 0)))
      ((x, ins.1) :: r.1, r.2)

/-- The filter values of one sample step: the filters work on samples in units of 1/65,536. -/
def filterScale : Int := 65536

/-- The cascade of a detector: 0 to 7 are the keypad filters, 8 is the speech detector, whose level is
measured after its second section (R94, R95). -/
def FilterBank.sections (k : FilterBank) (j : Fin 9) : List Biquad :=
  if h : j.val < 8 then k.keypad[j.val] else k.highPass ++ k.lowPass

/-- The filter of 620 Hz. -/
def keypadFilter620 : List Biquad := [
    ⟨4339834149, 0, -4339834149, -1947161302641, 1097614924071⟩,
    ⟨4339834149, 0, -4339834149, -1941624966065, 1094911045817⟩,
    ⟨4339834149, 0, -4339834149, -1937086967705, 1094872849557⟩,
    ⟨4339834149, 0, -4339834149, -1936239633277, 1097576636868⟩]

/-- The filter of 700 Hz. -/
def keypadFilter700 : List Biquad := [
    ⟨4898874801, 0, -4898874801, -1879977918510, 1097369908262⟩,
    ⟨4898874801, 0, -4898874801, -1873407515439, 1094318290097⟩,
    ⟨4898874801, 0, -4898874801, -1867694696710, 1094276244101⟩,
    ⟨4898874801, 0, -4898874801, -1866217274597, 1097327749110⟩]

/-- The filter of 780 Hz. -/
def keypadFilter780 : List Biquad := [
    ⟨5457701734, 0, -5457701734, -1805551180564, 1097124752306⟩,
    ⟨5457701734, 0, -5457701734, -1797901907609, 1093725654031⟩,
    ⟨5457701734, 0, -5457701734, -1790905089291, 1093680158868⟩,
    ⟨5457701734, 0, -5457701734, -1788685688366, 1097079120634⟩]

/-- The filter of 860 Hz. -/
def keypadFilter860 : List Biquad := [
    ⟨6016314997, 0, -6016314997, -1724170049940, 1096879430206⟩,
    ⟨6016314997, 0, -6016314997, -1715407161770, 1093133110934⟩,
    ⟨6016314997, 0, -6016314997, -1707027720383, 1093084619497⟩,
    ⟨6016314997, 0, -6016314997, -1703959208977, 1096830778321⟩]

/-- The filter of 1,250 Hz. -/
def keypadFilter1250 : List Biquad := [
    ⟨8736502696, 0, -8736502696, -1238998207235, 1095680150966⟩,
    ⟨8736502696, 0, -8736502696, -1224659542378, 1090244820045⟩,
    ⟨8736502696, 0, -8736502696, -1208526457838, 1090190122558⟩,
    ⟨8736502696, 0, -8736502696, -1199997275216, 1095625191147⟩]

/-- The filter of 1,380 Hz. -/
def keypadFilter1380 : List Biquad := [
    ⟨9642108688, 0, -9642108688, -1049796202607, 1095278718353⟩,
    ⟨9642108688, 0, -9642108688, -1033691256448, 1089281737947⟩,
    ⟨9642108688, 0, -9642108688, -1014779134593, 1089228956314⟩,
    ⟨9642108688, 0, -9642108688, -1004050598160, 1095225657733⟩]

/-- The filter of 1,520 Hz. -/
def keypadFilter1520 : List Biquad := [
    ⟨10616750277, 0, -10616750277, -834213032892, 1094845144173⟩,
    ⟨10616750277, 0, -10616750277, -816348639915, 1088244064740⟩,
    ⟨10616750277, 0, -10616750277, -794454463432, 1088196225596⟩,
    ⟨10616750277, 0, -10616750277, -781225060946, 1094797027127⟩]

/-- The filter of 1,680 Hz. -/
def keypadFilter1680 : List Biquad := [
    ⟨11729832215, 0, -11729832215, -556401336711, 1087057166219⟩,
    ⟨11729832215, 0, -11729832215, -576021761086, 1094347688060⟩,
    ⟨11729832215, 0, -11729832215, -531216569512, 1087019307714⟩,
    ⟨11729832215, 0, -11729832215, -515036696602, 1094309587190⟩]

/-- The speech detector's two sections (R95). -/
def speechHighPass : List Biquad := [
    ⟨908338621875, -1816677243751, 908338621875, -2105127360490, 1060272182733⟩,
    ⟨908338621875, -1816677243751, 908338621875, -1351933503585, 482650153209⟩,
    ⟨908338621875, -1816677243751, 908338621875, -1940142350138, 928048602988⟩]

def speechLowPass : List Biquad := [
    ⟨621568955335, 1243137910670, 621568955335, 545572316247, 222964590564⟩,
    ⟨621568955335, 1243137910670, 621568955335, 1461323375958, 864558396569⟩]

/-- The bank at reset: "any filters that meet those bounds conform" (R95); these were computed to meet
them (DESIGN CHOICE, log 12). -/
def FilterBank.reset : FilterBank where
  keypad := #v[keypadFilter620, keypadFilter700, keypadFilter780, keypadFilter860, keypadFilter1250,
    keypadFilter1380, keypadFilter1520, keypadFilter1680]
  highPass := speechHighPass
  lowPass := speechLowPass

end Sys2Proof.Machine
end

