-- ==== Sys2Proof/Machine/State.lean ====
section
/-! DEFINITION. The state of the station: every register, table, list and timer of the spec, the
queue of commands, and the state after reset. -/

namespace Sys2Proof.Machine

/-! ### Station Control (R190) -/

inductive StationState where
  | unnumbered | listen | active
deriving DecidableEq, Repr

inductive BitRate where
  | mbit2_5 | mbit5 | mbit10
deriving DecidableEq, Repr

inductive ErrMode where
  | firstError | allErrors
deriving DecidableEq, Repr

/-- The nine Settings fields (R194). -/
structure Settings where
  tier : Tier
  pauseCap : Nat
  autoPause : Nat
  holdLimit : Nat
  pacingGap : Nat
  errMode : ErrMode
  lineMask : BitVec 8
  floor : Nat
  preferred : Station
deriving DecidableEq, Repr

/-- The twelve counters, in the order of R197. -/
structure Counters where
  lettersOpened : Word32
  lettersFiled : Word32
  slicesCommitted : Word32
  silenceSlices : Word32
  cappedSlices : Word32
  discardedTone : Word32
  framesSent : Word32
  framesReceived : Word32
  arbitrationLosses : Word32
  framesAbandoned : Word32
  eventsLost : Word32
  objectionsIgnored : Word32
deriving DecidableEq, Repr

/-- The Station Control context (R190), with the seconds-since-reset count of R135. -/
structure StationCtl where
  number : Option Station
  rate : Option BitRate
  state : StationState
  listen : Option Nat
  accepted : Bool
  settings : Settings
  eventDest : Option Station
  eventSeq : BitVec 16
  seconds : Word32
deriving DecidableEq, Repr

/-! ### Frames and the Link Unit (R110) -/

/-- What a frame says, by frame kind (R200, R201). -/
inductive Msg where
  | claimObjection (number : Nat) (claimer : Station)
  | fetchCancel (number : Nat) (reason : CancelReason)
  | transferCheck (number : Nat)
  | checkAnswer (number : Nat) (reply : CheckReply)
  | numberClaim (number : Nat)
  | locate (author k : Nat) (tag : BitVec 8)
  | locateAnswer (tag : BitVec 8) (author : Nat) (numbers : List Nat)
  | fetch (number author : Nat)
  | fetchAccept (snapshot : Snapshot)
  | fetchRefuse (number : Nat) (reason : RefuseReason)
  | take (number : Nat)
  | released (number : Nat)
  | takeUnknown (number : Nat)
  | offer (body : OfferBody)
  | offerAccept (number tag : Nat)
  | offerRefuse (number reason : Nat)
  | filed (number tag : Nat)
  | deliveryRejected (number tag reason : Nat)
  | beacon (body : BeaconBody)
  | transferData (data : DataBody)
  | transferEnd (number : Nat) (check : Word32)
  | letterData (priority : Priority) (resume : Bool) (tag : Nat) (data : DataBody)
  | letterEnd (priority : Priority) (number tag : Nat) (check : Word32)
  | settings (body : SettingsBody)
  | settingsRefused (reason : SettingsReason)
  | query (kind : Nat)
  | queryAnswer (kind status : Nat) (content : List Byte)
  | event (kind : Nat) (seq : BitVec 16) (seconds : Word32) (details : List Byte)
deriving DecidableEq, Repr

/-- A frame waiting to be sent: its destination, its contents, and the name of the delivery or
transfer that placed it (0 for every other frame; log 14). -/
structure QFrame where
  dest : Station
  msg : Msg
  owner : Nat
deriving DecidableEq, Repr

/-- The four sources of the transmitter (R126). -/
inductive Source where
  | control | beacon | transfer | delivery
deriving DecidableEq, Repr

/-- The current frame (R110). -/
structure Current where
  frame : QFrame
  source : Source
  fails : Nat
deriving DecidableEq, Repr

inductive BusView where
  | joining | idle | inFrame | errorWait | stuckWait
deriving DecidableEq, Repr

inductive LinkState where
  | normal | caution | muted | detached
deriving DecidableEq, Repr

/-- The frame in progress as the station has received it (implied by R111 to R114): the frame bits
with inserted bits removed (start bit first), the run of equal bits on the bus, whether the next
bit is an inserted one, and how many bits of the acknowledge slot and end field have passed. -/
structure Scan where
  data : List Bool
  run : Nat
  level : Bool
  inserted : Bool
  tail : Nat
deriving DecidableEq, Repr

/-- The Link Unit context (R110). The link state is a function of the fault count (R122), and the
error record mode and the pacing gap are fields of the Settings (log 20). -/
structure Link where
  view : BusView
  fault : Nat
  recessiveRun : Nat
  dominantRun : Nat
  recoveryRuns : Nat
  errors : List ErrKind
  control : List QFrame
  beacon : Option BeaconBody
  current : Option Current
  offTransfer : Option QFrame
  offDelivery : Option QFrame
  /-- the delivery of the last delivery-stream frame completed, and the 10 µs units since then -/
  lastDelivery : Option (Nat × Nat)
  holdOff : Option Nat
  /-- the station is sending its current frame -/
  sending : Bool
  /-- the frame that ended last on the bus was this station's -/
  wasOwn : Bool
  /-- the bits of the current frame still to send, inserted bits included (recessive is true) -/
  tx : List Bool
  rx : Option Scan
  /-- the dominant bits of an error burst still to drive, and the bits before it starts -/
  burst : Nat
  burstDelay : Nat
deriving DecidableEq, Repr

/-- What leaves by the Pool Bus: Station Control, the counters and the Link Unit. -/
structure Bus where
  ctl : StationCtl
  counters : Counters
  link : Link
deriving DecidableEq, Repr

/-! ### Letters (R2, R7) -/

inductive LetterState where
  | open | held | transitOut | transitIn | settling | closed | delivering | suspended | stranded
deriving DecidableEq, Repr

/-- A segment record (R7). -/
structure SegRec where
  block : Nat
  first : Nat
  count : Nat
  pass : Nat
  kind : RecKind
deriving DecidableEq, Repr

/-- A pass in progress (R2, R11). -/
structure Pass where
  number : Nat
  mode : RecMode
  kind : RecKind
deriving DecidableEq, Repr

/-- Delivery progress (R2, R31). The running check is the register of R162. -/
structure Progress where
  record : Nat
  slice : Nat
  crc : Word32
  filing : Station
  tag : Option Nat
deriving DecidableEq, Repr

/-- One letter of the Letter Table (R2). Its length is computed from its chain (R7, log 20). -/
structure Letter where
  number : Nat
  author : Nat
  state : LetterState
  line : Option LineNo
  priority : Priority
  unfinished : Bool
  instrNext : Bool
  mode : RecMode
  cursor : Nat
  chain : List SegRec
  passCount : Nat
  pass : Option Pass
  held : Option Nat
  attempts : Nat
  partner : Option Station
  progress : Option Progress
deriving DecidableEq, Repr

/-! ### Segment memory (R36, R44) -/

/-- Who writes a FILLING block (R35). -/
inductive Filler where
  | line (l : LineNo)
  | transfer
deriving DecidableEq, Repr

/-- The Block Table entry of a block that is not FREE (R36). FILLING while it has a filler, SEALED
when it has none. -/
structure Block where
  num : Nat
  refs : Nat
  pass : Nat
  firstSeq : Nat
  slices : Nat
  bytes : Nat
  owner : LetterIx
  filler : Option Filler
deriving DecidableEq, Repr

/-- Segment memory: the SDRAM as (address, byte) pairs, the Block Table (the blocks not FREE, in
rising order), the accounts, the pool's free count and the pressure tier. -/
structure Segment where
  mem : List Host.Cell
  blocks : List Block
  credits : Vector Nat 8
  reservation : Nat
  poolFree : Nat
  tier : Tier
deriving DecidableEq, Repr

/-! ### Lines, Coder, Tone Unit (R70, R53, R92) -/

inductive LineState where
  | idle | author | select | seek | locate | fetch | ready | recording | playing | winding
deriving DecidableEq, Repr

/-- The state a WINDING line returns to (R81). -/
inductive ReturnState where
  | ready | playing
deriving DecidableEq, Repr

/-- A coding state: predictor and step index (R53). -/
structure Coding where
  predictor : Int
  index : Nat
deriving DecidableEq, Repr

/-- A coded slice: a voiced slice record without its continuation mark, or silence (R54, R60). -/
inductive Coded where
  | voiced (tier : Tier) (entry : Coding) (codes : List Byte)
  | silence
deriving DecidableEq, Repr

/-- An entry of a Hold Buffer (R85). -/
structure HoldSlice where
  coded : Coded
  toneTouched : Bool
  speech : Bool
  exit : Coding
deriving DecidableEq, Repr

/-- A line's context (R70). The prompt in progress is held in the Tone Unit context. -/
structure Line where
  state : LineState
  author : Option Nat
  entry : List Digit
  seek : Option Nat
  attached : Option LetterIx
  locate : Option (BitVec 8)
  fetchRef : Option LetterIx
  ret : Option ReturnState
  hold : List HoldSlice
  filling : Option Nat
  digitTimer : Option Nat
  waitTimer : Option Nat
  windTimer : Option Nat
  autoRun : Nat
  key : Option Key
deriving DecidableEq, Repr

/-- A line's Coder context (R53). -/
structure Coder where
  coding : Coding
  exit : Option Coding
  silence : Nat
deriving DecidableEq, Repr

/-- The prompts (R104). -/
inductive Prompt where
  | ready | accepted | refused | wait | ending | paused | memoryFull
deriving DecidableEq, Repr

/-- A prompt in progress (R92): whether it is in an on-phase, its repeat number and the samples
left in the phase. -/
structure PromptRun where
  prompt : Prompt
  on : Bool
  rep : Nat
  left : Nat
deriving DecidableEq, Repr

/-- One detector: its filter's internal history (`cascadeStep`), its last 40 output values (oldest
first), its level as the sum of their squares, and its on or off state (R92, R93). -/
structure Detector where
  history : List (Int × Int)
  window : List Int
  level : Nat
  on : Bool
deriving DecidableEq, Repr

/-- A line's Tone Unit context (R92). A candidate pair is held as the key it stands for. -/
structure Tone where
  input : List Sample
  detectors : Vector Detector 9
  candidate : Option Key
  candidateRun : Nat
  keyDown : Option Key
  heldMark : Bool
  downRun : Nat
  gapRun : Nat
  toneTouched : Bool
  speech : Bool
  /-- a key was down at some moment of the slice period (R84) -/
  keySeen : Bool
  prompt : Option PromptRun
deriving DecidableEq, Repr

/-- A line port (R52, R65, R69). -/
structure Port where
  active : Bool
  /-- 10 µs units for which the line-active input has shown the other level -/
  activeRun : Nat
  inbound : List Sample
  outbound : Option (List Sample)
  out : Sample
deriving DecidableEq, Repr

/-! ### Pool Protocol Unit (R136, R140, R154, R173) -/

/-- A Peer Table entry (R136). -/
structure Peer where
  station : Station
  cls : StationClass
  last : BeaconBody
  silence : Nat
  present : Bool
deriving DecidableEq, Repr

inductive ClaimFrame where
  | none | queued | current
deriving DecidableEq, Repr

/-- An objection window entry (R151): the time left is in units of 10 µs, since the 50 ms count from the
claim's completion (log 39). -/
structure WindowEntry where
  number : Nat
  letter : LetterIx
  left : Nat
deriving DecidableEq, Repr

/-- The number context (R140) with the pending-number list (R143) and the beacon timer (R134). -/
structure Numbers where
  next : Nat
  link : Option (Nat × Bool)
  frame : ClaimFrame
  run : Nat
  wait : Option Nat
  window : List WindowEntry
  exhausted : Bool
  waiting : List LetterIx
  beacon : Option Nat
deriving DecidableEq, Repr

/-- A Locate collection (R154). -/
structure Collection where
  line : LineNo
  tag : BitVec 8
  author : Nat
  k : Nat
  collecting : Bool
  timer : Nat
  pairs : List (Station × Nat)
deriving DecidableEq, Repr

/-- The header of the record being repacked (R163). -/
structure RepackHeader where
  pass : Nat
  count : Nat
  kind : RecKind
deriving DecidableEq, Repr

/-- The incoming transfer (R154). It is AWAITING ACCEPT while it has no snapshot, RECEIVING once it
has one. -/
structure Incoming where
  letter : LetterIx
  number : Nat
  giver : Station
  snapshot : Option Snapshot
  record : Nat
  slice : Nat
  header : Option RepackHeader
  crc : Word32
  timer : Nat
  name : Nat
deriving DecidableEq, Repr

/-- A settling list entry (R154). -/
structure Settle where
  letter : LetterIx
  number : Nat
  giver : Station
  timer : Nat
deriving DecidableEq, Repr

inductive OutPhase where
  | accepted | streaming | halted | ended
deriving DecidableEq, Repr

/-- The outgoing transfer (R154). -/
structure Outgoing where
  letter : LetterIx
  number : Nat
  taker : Station
  phase : OutPhase
  record : Nat
  slice : Nat
  crc : Word32
  timer : Option Nat
  outstanding : Bool
  name : Nat
deriving DecidableEq, Repr

/-- The transfer engine's context (R154). -/
structure Transfer where
  collections : List Collection
  nextTag : BitVec 8
  incoming : Option Incoming
  settling : List Settle
  outgoing : Option Outgoing
  releases : List (Nat × Station)
deriving DecidableEq, Repr

inductive DeliveryPhase where
  | offered | streaming | ended
deriving DecidableEq, Repr

/-- The last slice sent (R173). -/
structure LastSlice where
  block : Nat
  slice : Nat
  voiced : Bool
deriving DecidableEq, Repr

/-- The active delivery (R173). -/
structure Active where
  letter : LetterIx
  name : Nat
  phase : DeliveryPhase
  timer : Option Nat
  suspendPending : Bool
  resume : Bool
  last : Option LastSlice
deriving DecidableEq, Repr

/-- An unconfirmed-end entry (R173). -/
structure Unconfirmed where
  number : Nat
  filing : Station
  tag : Nat
deriving DecidableEq, Repr

/-- The delivery engine's context (R173). The suspended delivery is its letter and its name. -/
structure Delivery where
  active : Option Active
  suspended : Option (LetterIx × Nat)
  retry : Option Nat
  unconfirmed : List Unconfirmed
deriving DecidableEq, Repr

/-! ### The clocks outside (log 2) -/

/-- A tick of one of the three clocks, with the pin levels sampled at it: a frame sync with the
eight inbound samples (R52), 10 µs of the station timebase with the eight line-active levels
(R69), or a bus bit with the level the other stations make (recessive is true; R111) and whether a
disturbance turns the level this station sees (log 22); and RESETN going low (R190; its rise is the
command STATION_RESET). -/
inductive Tick where
  | frameSync (inbound : Vector Sample 8)
  | timebase (lineActive : Vector Bool 8)
  | busBit (others disturbed : Bool)
  | resetLow
deriving DecidableEq, Repr

/-! ### The whole station -/

structure State where
  bus : Bus
  lines : Vector Line 8
  coders : Vector Coder 8
  tones : Vector Tone 8
  ports : Vector Port 8
  /-- frames counted in the slice period (R52) -/
  frames : Nat
  letters : Vector (Option Letter) 64
  seg : Segment
  peers : List Peer
  nums : Numbers
  xfer : Transfer
  deliv : Delivery
  /-- RESETN is held low (R190) -/
  resetHeld : Bool
  /-- the station's own filters, which nothing changes (log 12) -/
  filters : FilterBank
  /-- 10 µs units of the running millisecond, and milliseconds of the running second -/
  sub10us : Nat
  subMs : Nat
  /-- the name the next delivery or transfer gets (log 14) -/
  streamId : Nat
  /-- the index of the next free value (log 6) -/
  freeIdx : Nat
  /-- the steps the station's own units owe, oldest first (log 1) -/
  reports : List Instr
  /-- the clock ticks waiting outside (log 2) -/
  ticks : List Tick
  /-- the commands waiting, first in, first out -/
  pending : List Instr
deriving DecidableEq, Repr

/-- Why the station could stop. -/
inductive Fault where
  /-- An access to a segment memory address outside the 32 MiB of R35. Raised by no command of the
  table: every address is computed from the number of a block the Block Table gave, which is below
  32,768. Safe: it could only stop a run. -/
  | outsideSegmentMemory
deriving DecidableEq, Repr

/-- Why a command has no meaning here. -/
inductive Refusal where
  /-- Raised by an arm of the dispatch whose command has no meaning yet. Safe: it stops the run. -/
  | notModelled (mnemonic : String)
deriving DecidableEq, Repr

/-! ### Reset values -/

/-- The Settings defaults (R194). -/
def Settings.default : Settings where
  tier := .a
  pauseCap := 100
  autoPause := 30
  holdLimit := 60
  pacingGap := 20
  errMode := .firstError
  lineMask := 255#8
  floor := 0
  preferred := 0

/-- All counters 0 (R197). -/
def Counters.zero : Counters :=
  ⟨0#32, 0#32, 0#32, 0#32, 0#32, 0#32, 0#32, 0#32, 0#32, 0#32, 0#32, 0#32⟩

/-- The bit rate of a RATE strap (R191). -/
def BitRate.ofStrap (rate : Nat) : Option BitRate :=
  match rate with
  | 0 => some .mbit2_5
  | 1 => some .mbit5
  | 2 => some .mbit10
  | _ => none

/-- The straps name a station (R191). -/
def strapsGood (stn rate : Nat) : Bool := stn != 0 && stn != 63 && rate != 3

/-- Station Control after reset with these straps (R190, R191). -/
def StationCtl.reset (stn rate : Nat) : StationCtl where
  number := if strapsGood stn rate then some stn else none
  rate := BitRate.ofStrap rate
  state := if strapsGood stn rate then .listen else .unnumbered
  listen := if strapsGood stn rate then some Config.listenMs else none
  accepted := false
  settings := .default
  eventDest := none
  eventSeq := 0#16
  seconds := 0#32

/-- The Link Unit after reset (R110). -/
def Link.reset : Link where
  view := .joining
  fault := 0
  recessiveRun := 0
  dominantRun := 0
  recoveryRuns := 0
  errors := []
  control := []
  beacon := none
  current := none
  offTransfer := none
  offDelivery := none
  lastDelivery := none
  holdOff := none
  sending := false
  wasOwn := false
  tx := []
  rx := none
  burst := 0
  burstDelay := 0

/-- A line's context after reset and after a line clear (R70). -/
def Line.reset : Line where
  state := .idle
  author := none
  entry := []
  seek := none
  attached := none
  locate := none
  fetchRef := none
  ret := none
  hold := []
  filling := none
  digitTimer := none
  waitTimer := none
  windTimer := none
  autoRun := 0
  key := none

/-- The coding state at the start of a pass and after silence (R53, R54). -/
def Coding.zero : Coding := ⟨0, 0⟩

/-- A Coder context after reset (R53). -/
def Coder.reset : Coder := ⟨.zero, none, 0⟩

/-- A detector after reset: windows of zeros, off (R93). -/
def Detector.reset : Detector := ⟨[], List.replicate 40 0, 0, false⟩

/-- A Tone Unit context after reset (R92). -/
def Tone.reset : Tone where
  input := List.replicate 40 0#16
  detectors := Vector.replicate 9 .reset
  candidate := none
  candidateRun := 0
  keyDown := none
  heldMark := false
  downRun := 0
  gapRun := 0
  toneTouched := false
  speech := false
  keySeen := false
  prompt := none

/-- A line port after reset (R52, R65); the line-active level is a pin's (log 3). -/
def Port.reset : Port := ⟨false, 0, [], none, 0#16⟩

/-- Segment memory after reset (R35, R43, R44, R49). -/
def Segment.reset : Segment where
  mem := []
  blocks := []
  credits := Vector.replicate 8 Config.lineCredit
  reservation := 0
  poolFree := Config.poolRecords
  tier := .a

/-- The number context after reset (R140, R143, R134). -/
def Numbers.reset : Numbers where
  next := 0
  link := none
  frame := .none
  run := 0
  wait := none
  window := []
  exhausted := false
  waiting := []
  beacon := none

/-- The transfer engine after reset (R154). -/
def Transfer.reset : Transfer where
  collections := []
  nextTag := 0#8
  incoming := none
  settling := []
  outgoing := none
  releases := []

/-- The delivery engine after reset (R173). -/
def Delivery.reset : Delivery := ⟨none, none, none, []⟩

/-- The station right after reset with the straps reading `stn` and `rate` (R190). -/
def State.resetWith (stn rate : Nat) : State where
  bus := ⟨.reset stn rate, .zero, .reset⟩
  lines := Vector.replicate 8 .reset
  coders := Vector.replicate 8 .reset
  tones := Vector.replicate 8 .reset
  ports := Vector.replicate 8 .reset
  frames := 0
  letters := Vector.replicate 64 none
  seg := .reset
  peers := []
  nums := .reset
  xfer := .reset
  deliv := .reset
  resetHeld := false
  filters := .reset
  sub10us := 0
  subMs := 0
  streamId := 0
  freeIdx := 0
  reports := []
  ticks := []
  pending := []

/-- The station right after reset, strapped as station 1 at 2.5 Mbit/s (DESIGN CHOICE, log 3). -/
def State.reset : State := State.resetWith 1 0

end Sys2Proof.Machine
end

