-- ==== Sys2Proof/Machine/Operands.lean ====
section
/-! DEFINITION. The operand forms of the Pool Bus: byte order, frame kinds, classes and payloads,
written and read (R199 to R205). -/

namespace Sys2Proof

open Machine

/-! ### Byte order: most significant byte first (R199) -/

def be8 (n : Nat) : List Byte := [BitVec.ofNat 8 n]
def be16 (n : Nat) : List Byte := [BitVec.ofNat 8 (n / 256), BitVec.ofNat 8 n]
def be24 (n : Nat) : List Byte :=
  [BitVec.ofNat 8 (n / 65536), BitVec.ofNat 8 (n / 256), BitVec.ofNat 8 n]
def be32 (n : Nat) : List Byte :=
  [BitVec.ofNat 8 (n / 16777216), BitVec.ofNat 8 (n / 65536), BitVec.ofNat 8 (n / 256),
    BitVec.ofNat 8 n]

def rd16 (a b : Byte) : Nat := a.toNat * 256 + b.toNat
def rd24 (a b c : Byte) : Nat := (a.toNat * 256 + b.toNat) * 256 + c.toNat
def rd32 (a b c d : Byte) : Nat := ((a.toNat * 256 + b.toNat) * 256 + c.toNat) * 256 + d.toNat

/-- A byte with one bit set when the flag is. -/
def flagBit (flag : Bool) (bit : Nat) : Nat := if flag then 2 ^ bit else 0

/-! ### Codes -/

def Tier.code : Tier → Nat
  | .a => 0
  | .b => 1
  | .c => 2

def Tier.ofCode : Nat → Option Tier
  | 0 => some .a
  | 1 => some .b
  | 2 => some .c
  | _ => none

def StationClass.code : StationClass → Nat
  | .squeeze => 0
  | .filing => 1
  | .console => 2

def StationClass.ofCode : Nat → Option StationClass
  | 0 => some .squeeze
  | 1 => some .filing
  | 2 => some .console
  | _ => none

def CancelReason.code : CancelReason → Nat
  | .timeout => 0
  | .noMemory => 1
  | .check => 2

def CancelReason.ofCode : Nat → Option CancelReason
  | 0 => some .timeout
  | 1 => some .noMemory
  | 2 => some .check
  | _ => none

def RefuseReason.code : RefuseReason → Nat
  | .busy => 0
  | .closed => 1
  | .unknown => 2

def RefuseReason.ofCode : Nat → Option RefuseReason
  | 0 => some .busy
  | 1 => some .closed
  | 2 => some .unknown
  | _ => none

def CheckReply.code : CheckReply → Nat
  | .settling => 0
  | .receiving => 1
  | .notHeld => 2

def CheckReply.ofCode : Nat → Option CheckReply
  | 0 => some .settling
  | 1 => some .receiving
  | 2 => some .notHeld
  | _ => none

def SettingsReason.code : SettingsReason → Nat
  | .alreadySet => 0
  | .active => 1

def SettingsReason.ofCode : Nat → Option SettingsReason
  | 0 => some .alreadySet
  | 1 => some .active
  | _ => none

def Machine.LinkState.code : LinkState → Nat
  | .normal => 0
  | .caution => 1
  | .muted => 2
  | .detached => 3

/-- The line-state codes of a line-states answer, 0 IDLE to 9 WINDING (R201). -/
def Machine.LineState.code : LineState → Nat
  | .idle => 0
  | .author => 1
  | .select => 2
  | .seek => 3
  | .locate => 4
  | .fetch => 5
  | .ready => 6
  | .recording => 7
  | .playing => 8
  | .winding => 9

/-- The error record mode byte (R201). -/
def Machine.ErrMode.code : ErrMode → Nat
  | .firstError => 0
  | .allErrors => 1

/-- The bit of an error kind in the error-record answer (R201). -/
def ErrKind.bitNo : ErrKind → Nat
  | .insertion => 0
  | .form => 1
  | .check => 2
  | .acknowledge => 3
  | .bit => 4
  | .stuck => 5

/-! ### Frame kinds and classes (R132, R200) -/

def Machine.Msg.kind : Msg → Nat
  | .claimObjection .. => 0x00
  | .fetchCancel .. => 0x01
  | .transferCheck .. => 0x02
  | .checkAnswer .. => 0x03
  | .numberClaim .. => 0x04
  | .locate .. => 0x05
  | .locateAnswer .. => 0x06
  | .fetch .. => 0x07
  | .fetchAccept .. => 0x08
  | .fetchRefuse .. => 0x09
  | .take .. => 0x0A
  | .released .. => 0x0B
  | .takeUnknown .. => 0x0C
  | .offer .. => 0x0D
  | .offerAccept .. => 0x0E
  | .offerRefuse .. => 0x0F
  | .filed .. => 0x10
  | .deliveryRejected .. => 0x11
  | .beacon .. => 0x12
  | .transferData .. => 0x13
  | .transferEnd .. => 0x14
  | .letterData .. => 0x15
  | .letterEnd .. => 0x16
  | .settings .. => 0x17
  | .settingsRefused .. => 0x18
  | .query .. => 0x19
  | .queryAnswer .. => 0x1A
  | .event .. => 0x1B

/-- The class of a letter's delivery frames (R132). -/
def Priority.streamClass : Priority → Nat
  | .urgent => 5
  | .normal => 6

def Machine.Msg.cls : Msg → Nat
  | .claimObjection .. | .fetchCancel .. | .transferCheck .. | .checkAnswer .. => 0
  | .numberClaim .. => 1
  | .locate .. | .locateAnswer .. | .fetch .. | .fetchAccept .. | .fetchRefuse .. | .take ..
  | .released .. | .takeUnknown .. | .offer .. | .offerAccept .. | .offerRefuse .. | .filed ..
  | .deliveryRejected .. => 2
  | .beacon .. => 3
  | .transferData .. | .transferEnd .. => 4
  | .letterData p .. => p.streamClass
  | .letterEnd p .. => p.streamClass
  | .settings .. | .settingsRefused .. | .query .. | .queryAnswer .. | .event .. => 7

/-- An Event frame, as R129 tells it from a protocol frame. -/
def Machine.Msg.isEvent : Msg → Bool
  | .event .. => true
  | _ => false

/-! ### Payloads (R201) -/

def BeaconBody.payload (b : BeaconBody) : List Byte :=
  be8 b.cls.code ++ be8 b.state ++ be8 (flagBit b.caution 0) ++ be24 b.next ++ be16 b.capacity ++
    be8 b.held ++ be8 b.closed ++ be32 b.seconds

def Snapshot.payload (p : Snapshot) : List Byte :=
  be24 p.number ++ be16 p.author ++
    be8 (flagBit (p.priority == .urgent) 7 + flagBit (p.mode == .overwrite) 6 + flagBit p.instrNext 5) ++
    be16 p.cursor ++ be16 p.length ++ be8 p.passCount ++ be16 p.records ++ be24 p.bytes ++ be16 p.blocks

def OfferBody.payload (o : OfferBody) : List Byte :=
  be24 o.number ++ be16 o.author ++
    be8 (flagBit (o.priority == .urgent) 7 + flagBit o.unfinished 6) ++
    be16 o.length ++ be16 o.records ++ be24 o.bytes

def SettingsBody.payload (b : SettingsBody) : List Byte :=
  be8 (b.tier * 64 + b.errMode) ++ be8 b.pauseCap ++ be8 b.autoPause ++ be8 b.holdLimit ++
    be8 b.pacingGap ++ be8 b.lineMask ++ be24 b.floor ++ be8 b.preferred

/-- The payload of each frame kind, the fields in the order they are sent (R201). -/
def Machine.Msg.payload : Msg → List Byte
  | .claimObjection n c => be24 n ++ be8 c
  | .fetchCancel n r => be24 n ++ be8 r.code
  | .transferCheck n => be24 n
  | .checkAnswer n r => be24 n ++ be8 r.code
  | .numberClaim n => be24 n
  | .locate a k t => be16 a ++ be8 k ++ [t]
  | .locateAnswer t a ns => [t] ++ be16 a ++ be8 ns.length ++ ns.flatMap be24
  | .fetch n a => be24 n ++ be16 a
  | .fetchAccept p => p.payload
  | .fetchRefuse n r => be24 n ++ be8 r.code
  | .take n => be24 n
  | .released n => be24 n
  | .takeUnknown n => be24 n
  | .offer o => o.payload
  | .offerAccept n t => be24 n ++ be8 t
  | .offerRefuse n r => be24 n ++ be8 r
  | .filed n t => be24 n ++ be8 t
  | .deliveryRejected n t r => be24 n ++ be8 t ++ be8 r
  | .beacon b => b.payload
  | .transferData d => be24 d.number ++ be16 d.record ++ be8 d.slice ++ be8 d.items ++ d.bytes
  | .transferEnd n c => be24 n ++ be32 c.toNat
  | .letterData _ r t d =>
      be24 d.number ++ be8 (flagBit r 7 + t) ++ be16 d.record ++ be8 d.slice ++ be8 d.items ++ d.bytes
  | .letterEnd _ n t c => be24 n ++ be8 t ++ be32 c.toNat
  | .settings b => b.payload
  | .settingsRefused r => be8 r.code
  | .query k => be8 k
  | .queryAnswer k st content => be8 k ++ be8 st ++ content
  | .event k q t details => be8 k ++ be16 q.toNat ++ be32 t.toNat ++ details

/-- The frame a station sends for a message (R112, R200). -/
def Machine.Msg.toFrame (m : Msg) (sender dest : Station) : Frame where
  cls := BitVec.ofNat 3 m.cls
  kind := BitVec.ofNat 5 m.kind
  sender := BitVec.ofNat 6 sender
  dest := BitVec.ofNat 6 dest
  payload := m.payload

/-! ### Reading payloads, with the receiver checks of R204 and R205 -/

/-- A letter number, which may not be 0 (R205). -/
def okNumber (n : Nat) : Option Nat := if n = 0 then none else some n
/-- An author code, at most 9,999 (R205). -/
def okAuthor (n : Nat) : Option Nat := if n ≤ 9999 then some n else none
/-- A delivery tag, 0 to 3 (R205). -/
def okTag (n : Nat) : Option Nat := if n ≤ 3 then some n else none

/-- A payload that is one letter number. -/
def readNumber : List Byte → Option Nat
  | [a, b, c] => okNumber (rd24 a b c)
  | _ => none

/-- A payload that is a letter number and one more byte. -/
def readNumberByte : List Byte → Option (Nat × Nat)
  | [a, b, c, d] => (okNumber (rd24 a b c)).map (·, d.toNat)
  | _ => none

/-- The numbers of a Locate Answer, three bytes each. -/
def readNumbers : List Byte → Option (List Nat)
  | [] => some []
  | a :: b :: c :: rest =>
      (okNumber (rd24 a b c)).bind fun n => (readNumbers rest).map (n :: ·)
  | _ => none

def readLocate : List Byte → Option Msg
  | [a, b, k, t] =>
      (okAuthor (rd16 a b)).bind fun au =>
        if 1 ≤ k.toNat ∧ k.toNat ≤ 9 then some (.locate au k.toNat t) else none
  | _ => none

def readLocateAnswer : List Byte → Option Msg
  | t :: a :: b :: n :: rest =>
      (okAuthor (rd16 a b)).bind fun au =>
        if 1 ≤ n.toNat ∧ n.toNat ≤ 8 ∧ rest.length = 3 * n.toNat then
          (readNumbers rest).map (.locateAnswer t au ·)
        else none
  | _ => none

def readFetch : List Byte → Option Msg
  | [a, b, c, d, e] =>
      (okNumber (rd24 a b c)).bind fun n => (okAuthor (rd16 d e)).map (.fetch n ·)
  | _ => none

def readFetchAccept : List Byte → Option Msg
  | [a, b, c, d, e, f, g, h, i, j, k, l, m, n, o, p, q, r] =>
      (okNumber (rd24 a b c)).bind fun num => (okAuthor (rd16 d e)).bind fun au =>
        if rd16 i j ≤ Config.lengthLimit ∧ rd16 g h ≤ rd16 i j ∧ rd16 l m ≤ Config.chainLimit then
          some (.fetchAccept
            { number := num
              author := au
              priority := if f.getLsbD 7 then .urgent else .normal
              mode := if f.getLsbD 6 then .overwrite else .insert
              instrNext := f.getLsbD 5
              cursor := rd16 g h
              length := rd16 i j
              passCount := k.toNat
              records := rd16 l m
              bytes := rd24 n o p
              blocks := rd16 q r })
        else none
  | _ => none

def readOffer : List Byte → Option Msg
  | [a, b, c, d, e, f, g, h, i, j, k, l, m] =>
      (okNumber (rd24 a b c)).bind fun num => (okAuthor (rd16 d e)).map fun au =>
        .offer
          { number := num
            author := au
            priority := if f.getLsbD 7 then .urgent else .normal
            unfinished := f.getLsbD 6
            length := rd16 g h
            records := rd16 i j
            bytes := rd24 k l m }
  | _ => none

def readDeliveryRejected : List Byte → Option Msg
  | [a, b, c, t, r] =>
      (okNumber (rd24 a b c)).bind fun n => (okTag t.toNat).map (.deliveryRejected n · r.toNat)
  | _ => none

def readBeacon : List Byte → Option Msg
  | [c, s, f, n1, n2, n3, c1, c2, h, k, t1, t2, t3, t4] =>
      (StationClass.ofCode c.toNat).map fun cls =>
        .beacon
          { cls := cls
            state := s.toNat
            caution := f.getLsbD 0
            next := rd24 n1 n2 n3
            capacity := rd16 c1 c2
            held := h.toNat
            closed := k.toNat
            seconds := rd32 t1 t2 t3 t4 }
  | _ => none

def readTransferData : List Byte → Option Msg
  | a :: b :: c :: r1 :: r2 :: s :: i :: rest =>
      (okNumber (rd24 a b c)).bind fun n =>
        if rest.length ≤ 241 then
          some (.transferData
            { number := n, record := rd16 r1 r2, slice := s.toNat, items := i.toNat, bytes := rest })
        else none
  | _ => none

def readTransferEnd : List Byte → Option Msg
  | [a, b, c, w, x, y, z] =>
      (okNumber (rd24 a b c)).map (.transferEnd · (BitVec.ofNat 32 (rd32 w x y z)))
  | _ => none

def readLetterData (p : Priority) : List Byte → Option Msg
  | a :: b :: c :: f :: r1 :: r2 :: s :: i :: rest =>
      (okNumber (rd24 a b c)).bind fun n =>
        if rest.length ≤ 240 then
          some (.letterData p (f.getLsbD 7) (f.toNat % 4)
            { number := n, record := rd16 r1 r2, slice := s.toNat, items := i.toNat, bytes := rest })
        else none
  | _ => none

def readLetterEnd (p : Priority) : List Byte → Option Msg
  | [a, b, c, t, w, x, y, z] =>
      (okNumber (rd24 a b c)).bind fun n =>
        (okTag t.toNat).map (.letterEnd p n · (BitVec.ofNat 32 (rd32 w x y z)))
  | _ => none

def readSettings : List Byte → Option Msg
  | [m, pc, ap, hl, pg, lm, f1, f2, f3, pf] =>
      some (.settings
        { tier := m.toNat / 64
          errMode := m.toNat % 4
          pauseCap := pc.toNat
          autoPause := ap.toNat
          holdLimit := hl.toNat
          pacingGap := pg.toNat
          lineMask := lm.toNat
          floor := rd24 f1 f2 f3
          preferred := pf.toNat % 64 })
  | _ => none

def readQueryAnswer : List Byte → Option Msg
  | k :: st :: content => some (.queryAnswer k.toNat st.toNat content)
  | _ => none

def readEvent : List Byte → Option Msg
  | k :: q1 :: q2 :: t1 :: t2 :: t3 :: t4 :: details =>
      some (.event k.toNat (BitVec.ofNat 16 (rd16 q1 q2)) (BitVec.ofNat 32 (rd32 t1 t2 t3 t4)) details)
  | _ => none

/-- The priority a stream class stands for (R132). -/
def Priority.ofClass : Nat → Option Priority
  | 5 => some .urgent
  | 6 => some .normal
  | _ => none

/-- The payload of a frame of the given class and kind code, read with the checks of R205; none
where R204 or R205 fails the frame. -/
def readMsg (cls kind : Nat) (p : List Byte) : Option Msg :=
  match kind with
  | 0x00 => (readNumberByte p).map fun x => .claimObjection x.1 x.2
  | 0x01 => (readNumberByte p).bind fun x => (CancelReason.ofCode x.2).map (.fetchCancel x.1 ·)
  | 0x02 => (readNumber p).map .transferCheck
  | 0x03 => (readNumberByte p).bind fun x => (CheckReply.ofCode x.2).map (.checkAnswer x.1 ·)
  | 0x04 => (readNumber p).map .numberClaim
  | 0x05 => readLocate p
  | 0x06 => readLocateAnswer p
  | 0x07 => readFetch p
  | 0x08 => readFetchAccept p
  | 0x09 => (readNumberByte p).bind fun x => (RefuseReason.ofCode x.2).map (.fetchRefuse x.1 ·)
  | 0x0A => (readNumber p).map .take
  | 0x0B => (readNumber p).map .released
  | 0x0C => (readNumber p).map .takeUnknown
  | 0x0D => readOffer p
  | 0x0E => (readNumberByte p).bind fun x => (okTag x.2).map (.offerAccept x.1 ·)
  | 0x0F => (readNumberByte p).map fun x => .offerRefuse x.1 x.2
  | 0x10 => (readNumberByte p).bind fun x => (okTag x.2).map (.filed x.1 ·)
  | 0x11 => readDeliveryRejected p
  | 0x12 => readBeacon p
  | 0x13 => readTransferData p
  | 0x14 => readTransferEnd p
  | 0x15 => (Priority.ofClass cls).bind fun pr => readLetterData pr p
  | 0x16 => (Priority.ofClass cls).bind fun pr => readLetterEnd pr p
  | 0x17 => readSettings p
  | 0x18 => match p with
    | [r] => (SettingsReason.ofCode r.toNat).map .settingsRefused
    | _ => none
  | 0x19 => match p with
    | [k] => some (.query k.toNat)
    | _ => none
  | 0x1A => readQueryAnswer p
  | 0x1B => readEvent p
  | _ => none

/-- A received frame, checked against its header and field by field (R204, R205); none where it is
discarded. -/
def Frame.read (f : Frame) : Option Msg :=
  if f.sender.toNat = 0 ∨ f.sender.toNat = 63 ∨ f.dest.toNat = 0 ∨ 248 < f.payload.length then none
  else
    (readMsg f.cls.toNat f.kind.toNat f.payload).bind fun m =>
      if m.cls = f.cls.toNat then some m else none

/-- The row of the table that a frame handed up starts (R116, R196); none for a frame that no row
takes (class 5 and 6 frames are not handed up). -/
def Machine.Msg.row (m : Msg) (sender dest : Station) : Option Instr :=
  match m with
  | .claimObjection n c => some (.claimObjection sender n c)
  | .fetchCancel n r => some (.fetchCancel sender n r)
  | .transferCheck n => some (.transferCheck sender n)
  | .checkAnswer n r => some (.checkAnswer sender n r)
  | .numberClaim n => some (.numberClaim sender n)
  | .locate a k t => some (.locate sender a k t)
  | .locateAnswer t a ns => some (.locateAnswer sender t a ns)
  | .fetch n a => some (.fetch sender n a)
  | .fetchAccept p => some (.fetchAccept sender p)
  | .fetchRefuse n r => some (.fetchRefuse sender n r)
  | .take n => some (.take sender n)
  | .released n => some (.released sender n)
  | .takeUnknown n => some (.takeUnknown sender n)
  | .offer o => some (.offer sender o)
  | .offerAccept n t => some (.offerAccept sender n t)
  | .offerRefuse n r => some (.offerRefuse sender n r)
  | .filed n t => some (.filed sender n t)
  | .deliveryRejected n t r => some (.deliveryRejected sender n t r)
  | .beacon b => some (.beacon sender b)
  | .transferData d => some (.transferData sender d)
  | .transferEnd n c => some (.transferEnd sender n c)
  | .letterData .. => none
  | .letterEnd .. => none
  | .settings b => some (.settings sender dest b)
  | .settingsRefused _ => some (.serviceFrameDiscard sender .settingsRefused)
  | .query 0 => some (.queryCounters sender dest)
  | .query 1 => some (.queryErrorRecord sender dest)
  | .query 2 => some (.queryLetterSummary sender dest)
  | .query 3 => some (.queryLineStates sender dest)
  | .query 4 => some (.queryClearCounters sender dest)
  | .query k => some (.queryUnknownKind sender dest k)
  | .queryAnswer .. => some (.serviceFrameDiscard sender .queryAnswer)
  | .event .. => some (.serviceFrameDiscard sender .event)

end Sys2Proof
end

