-- ==== Sys2Proof/Machine/Flags.lean ====
section
/-! DEFINITION. The computed statuses: link state from the fault count, the error record, coding and
pressure tiers, the Settings a frame gives. -/

namespace Sys2Proof

open Machine

/-! ### Link state and fault count (R121, R122) -/

/-- The link state a fault count stands for (R122). -/
def Machine.LinkState.ofFault (count : Nat) : LinkState :=
  if count < 96 then .normal
  else if count < 128 then .caution
  else if count < Config.faultLimit then .muted
  else .detached

/-- The link state (R122). -/
def Machine.Link.state (k : Link) : LinkState := .ofFault k.fault

/-- The fault count after a rise of `n`: it stops at 256 and stays there until recovery (R121). -/
def faultUp (n count : Nat) : Nat := min Config.faultLimit (count + n)

/-- The fault count after a fall of 1: never below 0, and unmoved at 256 (R121). -/
def faultDown (count : Nat) : Nat := if count < Config.faultLimit then count - 1 else count

/-- The station drives error bursts in this link state (R117). -/
def Machine.LinkState.bursts : LinkState → Bool
  | .normal | .caution => true
  | .muted | .detached => false

/-! ### Error record (R125) -/

/-- All error kinds, in the order of the answer's bits (R201). -/
def ErrKind.all : List ErrKind := [.insertion, .form, .check, .acknowledge, .bit, .stuck]

/-- The error record after the kinds of one frame or stuck event (R125). A set is listed in the order
of `ErrKind.all`. -/
def errorsAfter (mode : ErrMode) (record kinds : List ErrKind) : List ErrKind :=
  match mode, record with
  | .firstError, _ :: _ => record
  | _, _ => ErrKind.all.filter fun k => record.contains k || kinds.contains k

/-- The error-record byte of the answer (R201). -/
def errorsByte (record : List ErrKind) : Nat := (record.map fun k => 2 ^ k.bitNo).sum

/-! ### Tiers (R49, R55) -/

/-- The worse of two tiers: C, then B, then A (R55). -/
def Tier.worse (x y : Tier) : Tier := if x.code < y.code then y else x

/-- The pressure tier after one evaluation (R49). -/
def pressureAfter (tier : Tier) (inUse : Nat) : Tier :=
  match tier with
  | .a => if 24576 ≤ inUse then .b else .a
  | .b => if 28672 ≤ inUse then .c else if inUse < 20480 then .a else .b
  | .c => if inUse < 24576 then .b else .c

/-- The bits of one code at each tier (R57). -/
def Tier.width : Tier → Nat
  | .a => 4
  | .b => 3
  | .c => 2

/-- The largest magnitude at each tier (R57). -/
def Tier.magnitude : Tier → Nat
  | .a => 7
  | .b => 3
  | .c => 1

/-- The stored size of a voiced slice record (R60). -/
def Tier.stored : Tier → Nat
  | .a => 84
  | .b => 64
  | .c => 44

/-! ### Settings (R194) -/

/-- A field in its range, or its default. -/
def inRange (low high default value : Nat) : Nat :=
  if low ≤ value ∧ value ≤ high then value else default

/-- The Settings an accepted frame gives (R194). -/
def Machine.Settings.ofBody (b : SettingsBody) : Settings where
  tier := (Tier.ofCode b.tier).getD .a
  pauseCap := inRange 25 250 100 b.pauseCap
  autoPause := inRange 5 120 30 b.autoPause
  holdLimit := inRange 1 240 60 b.holdLimit
  pacingGap := b.pacingGap
  errMode := if b.errMode = 1 then .allErrors else .firstError
  lineMask := BitVec.ofNat 8 b.lineMask
  floor := b.floor
  preferred := inRange 0 62 0 b.preferred

/-- The Settings enable a line (R69). -/
def Machine.Settings.enables (x : Settings) (l : LineNo) : Bool := x.lineMask.getLsbD l.val

/-- The auto-pause limit in slices, 50 to a second (R88). -/
def Machine.Settings.autoPauseSlices (x : Settings) : Nat := x.autoPause * 50

/-- The hold limit in milliseconds (R27, R194). -/
def Machine.Settings.holdMs (x : Settings) : Nat := x.holdLimit * 60000

end Sys2Proof
end

