-- ==== Sys2Proof/Machine/Wire.lean ====
section
/-! DEFINITION. Frames as bits on the bus: the check fields, bit insertion, and what a station sees
of a frame in progress (R111 to R118, R162). A recessive bit is true (1), a dominant one false (0). -/

namespace Sys2Proof

open Machine

/-! ### Bits -/

/-- The `n` low bits of a number, most significant first (R112). -/
def bitsOf : Nat → Nat → List Bool
  | 0, _ => []
  | n + 1, v => v.testBit n :: bitsOf n v

/-- The number that bits spell, most significant first. -/
def numOf (bits : List Bool) : Nat := bits.foldl (fun v b => 2 * v + b.toNat) 0

/-- Bytes as bits, each byte most significant bit first. -/
def byteBits (bytes : List Byte) : List Bool := bytes.flatMap fun b => bitsOf 8 b.toNat

/-- Bits packed into bytes, each byte filled from its most significant bit (R202). -/
def packBits : List Bool → List Byte
  | a :: b :: c :: d :: e :: f :: g :: h :: rest =>
      BitVec.ofNat 8 (numOf [a, b, c, d, e, f, g, h]) :: packBits rest
  | _ => []

/-! ### Checks -/

/-- One bit into a check register: it shifts one place toward its most significant end, and the
polynomial's lower coefficients are combined in when its top bit and the data bit differ (R113, R162). -/
def crcBit {w : Nat} (poly reg : BitVec w) (b : Bool) : BitVec w :=
  if reg.msb != b then (reg <<< 1) ^^^ poly else reg <<< 1

/-- CRC-16: x^16 + x^15 + x^2 + 1, from all ones, sent as it stands (R113). -/
def crc16 (bits : List Bool) : BitVec 16 := bits.foldl (crcBit 0x8005#16) 0xFFFF#16

/-- The starting register of a letter's check (R162). -/
def crc32Start : Word32 := 0xFFFFFFFF#32

/-- Bytes into a letter's running check, each most significant bit first (R162). -/
def crc32 (reg : Word32) (bytes : List Byte) : Word32 :=
  (byteBits bytes).foldl (crcBit 0x04C11DB7#32) reg

/-- The check of a letter: every bit of the register inverted (R162). -/
def crc32Final (reg : Word32) : Word32 := ~~~reg

/-! ### A frame's bits -/

/-- The bits the check covers: identifier, destination, length, payload (R112, R113). -/
def Frame.covered (f : Frame) : List Bool :=
  bitsOf 3 f.cls.toNat ++ bitsOf 5 f.kind.toNat ++ bitsOf 6 f.sender.toNat ++
    bitsOf 6 f.dest.toNat ++ bitsOf 8 f.payload.length ++ byteBits f.payload

/-- The frame bits from the start bit to the last check bit, before insertion (R112). -/
def Frame.bits (f : Frame) : List Bool :=
  false :: (f.covered ++ bitsOf 16 (crc16 f.covered).toNat)

/-- Bit insertion: after 7 equal bits one of the opposite level, which is the first of the next run
(R114). `run` and `level` describe the bits sent so far. -/
def insertBits : Nat → Bool → List Bool → List Bool
  | run, level, [] => if run = 7 then [!level] else []
  | run, level, b :: rest =>
      if run = 7 then
        (!level) :: b :: insertBits (if b = !level then 2 else 1) b rest
      else b :: insertBits (if b = level then run + 1 else 1) b rest

/-- The bits a sender drives from the start bit to the last check bit, inserted bits included. -/
def Frame.wire (f : Frame) : List Bool := insertBits 0 true f.bits

/-! ### Receiving (R114, R116, R118) -/

/-- The scan of a frame of which no bit has been seen. -/
def Machine.Scan.empty : Scan := ⟨[], 0, true, false, 0⟩

/-- The payload length, once the length field is in. -/
def Machine.Scan.payloadLength (s : Scan) : Option Nat :=
  if 29 ≤ s.data.length then some (numOf ((s.data.drop 21).take 8)) else none

/-- How many frame bits stand from the start bit to the last check bit (R112). -/
def Machine.Scan.total (s : Scan) : Option Nat := s.payloadLength.map fun n => 45 + 8 * n

/-- The next bit is a frame bit or an inserted one, not yet the acknowledge slot. -/
def Machine.Scan.inBody (s : Scan) : Bool :=
  s.inserted || match s.total with
    | none => true
    | some t => s.data.length < t

/-- The frame a complete scan spells. -/
def Machine.Scan.frame (s : Scan) : Frame where
  cls := BitVec.ofNat 3 (numOf ((s.data.drop 1).take 3))
  kind := BitVec.ofNat 5 (numOf ((s.data.drop 4).take 5))
  sender := BitVec.ofNat 6 (numOf ((s.data.drop 9).take 6))
  dest := BitVec.ofNat 6 (numOf ((s.data.drop 15).take 6))
  payload := packBits ((s.data.drop 29).take (8 * s.payloadLength.getD 0))

/-- The received check equals the one computed over the bits received (R113). -/
def Machine.Scan.checkPasses (s : Scan) : Bool :=
  let body := 28 + 8 * s.payloadLength.getD 0
  numOf (((s.data.drop 1).drop body).take 16) == (crc16 ((s.data.drop 1).take body)).toNat

/-- What one more bit makes of a frame in progress. -/
inductive Machine.Seen where
  | going (s : Scan)
  | error (kinds : List ErrKind) (s : Scan)
  | complete (s : Scan)
deriving DecidableEq, Repr

/-- One more bus bit of a frame, with the errors a receiver detects at it (R114, R118). -/
def Machine.Scan.push (s : Scan) (b : Bool) : Seen :=
  if s.inserted then
    if b = s.level then .error [.insertion] s
    else .going { s with run := 1, level := b, inserted := false }
  else if s.inBody then
    let run := if b = s.level ∧ s.run ≠ 0 then s.run + 1 else 1
    let s' := { s with data := s.data ++ [b], run := run, level := b, inserted := run == 7 }
    if s'.data.length = 29 ∧ 248 < s'.payloadLength.getD 0 then .error [.form] s'
    else if s'.total = some s'.data.length ∧ s'.checkPasses = false then .error [.check] s'
    else .going s'
  else
    let s' := { s with tail := s.tail + 1 }
    if s.tail = 0 then .going s'
    else if b = false then .error [.form] s'
    else if s.tail = 9 then .complete s'
    else .going s'

/-- What the sender of a frame sees at one bit, besides what `Scan.push` makes of it: nothing, lost
arbitration, or an error of its own (R114, R115, R116, R118). -/
inductive Machine.SenderSees where
  | same
  | lost
  | error (kinds : List ErrKind)
deriving DecidableEq, Repr

/-- The sender's view of one bit: the scan before it, the level it sent and the level on the bus. -/
def Machine.Scan.senderSees (s : Scan) (sent bus : Bool) : SenderSees :=
  if s.inBody then
    if sent = bus then .same
    else if sent = true then
      if 1 ≤ s.data.length ∧ s.data.length ≤ 14 then .lost
      else if s.inserted then .error [.insertion, .bit]
      else .error [.bit]
    else if s.inserted then .error [.insertion, .bit]
    else .error [.bit]
  else if s.tail = 0 then
    if bus = true then .error [.acknowledge] else .same
  else if bus = false then .error [.form]
  else .same

end Sys2Proof
end

