-- ==== Sys2Proof/Machine/Coder.lean ====
section
/-! DEFINITION. The Coder's numerics: the step table, coding and decoding of a slice, and the bytes
of slice records (R54 to R64, R202). -/

namespace Sys2Proof

open Machine

/-- The step table (R56), row by row as the spec prints it. -/
def stepTable : List Nat :=
  [16, 18, 20, 22, 24, 27, 30, 33] ++
  [37, 41, 46, 51, 57, 64, 72, 81] ++
  [91, 102, 114, 128, 144, 162, 182, 204] ++
  [229, 257, 289, 325, 365, 410, 461, 518] ++
  [582, 654, 735, 826, 929, 1045, 1175, 1321] ++
  [1486, 1671, 1879, 2113, 2377, 2674, 3008, 3384] ++
  [3807, 4282, 4817, 5419, 6096, 6858, 7715, 8679] ++
  [9763, 10983, 12355, 13899, 15636, 17590, 19788, 22261]

/-- step(i) of R56. -/
def stepAt (i : Nat) : Nat := stepTable.getD i 22261

/-- The largest and smallest sample (R52). -/
def clampSample (x : Int) : Int := max (-32768) (min 32767 x)

/-- How far the step index moves at a tier and magnitude (R59). -/
def indexMove (tier : Tier) (m : Nat) : Int :=
  match tier with
  | .a => if m ≤ 1 then -1 else if m ≤ 3 then 0 else if m ≤ 5 then 1 else 2
  | .b => (m : Int) - 1
  | .c => if m = 0 then -1 else 1

/-- The step index after a move, clamped to 0 to 63 (R59). -/
def moveIndex (index : Nat) (move : Int) : Nat := (max 0 (min 63 ((index : Int) + move))).toNat

/-- The coding state after a code: the reconstructed sample, clamped, becomes the predictor, and the
step index adapts (R58, R59). -/
def reconstruct (tier : Tier) (c : Coding) (negative : Bool) (m : Nat) : Coding :=
  let step := stepAt c.index
  let amount : Int := (m * step + step / 2 : Nat)
  { predictor := clampSample (if negative then c.predictor - amount else c.predictor + amount)
    index := moveIndex c.index (indexMove tier m) }

/-- The sign and magnitude of one sample's code (R57). -/
def sampleCode (tier : Tier) (c : Coding) (x : Int) : Bool × Nat :=
  let d := x - c.predictor
  (decide (d < 0), min tier.magnitude (d.natAbs / stepAt c.index))

/-- A code as bits: the sign, then the magnitude (R202). -/
def codeBits (tier : Tier) (code : Bool × Nat) : List Bool :=
  code.1 :: bitsOf (tier.width - 1) code.2

/-- The code bits of samples from a coding state, and the exit state (R57 to R59). -/
def codeSamples (tier : Tier) : Coding → List Int → List Bool × Coding
  | c, [] => ([], c)
  | c, x :: xs =>
      let code := sampleCode tier c x
      let rest := codeSamples tier (reconstruct tier c code.1 code.2) xs
      (codeBits tier code ++ rest.1, rest.2)

/-- A slice's 160 samples as numbers; a shorter list is filled with zeros (log 24). -/
def sliceInts (samples : List Sample) : List Int :=
  ((samples.map BitVec.toInt) ++ List.replicate Config.sliceSamples 0).take Config.sliceSamples

/-- The Coder's result for a slice (R54): a silence slice, or a voiced slice at the given tier. -/
def codeSlice (tier : Tier) (entry : Coding) (speech : Bool) (samples : List Sample) : Coded × Coding :=
  if speech then
    let r := codeSamples tier entry (sliceInts samples)
    (.voiced tier entry (packBits r.1), r.2)
  else (.silence, .zero)

/-! ### Slice records (R60, R61, R202) -/

/-- The first byte of a voiced slice record: kind, tier, continuation mark, form (R202). -/
def voicedHead (tier : Tier) (mark short : Bool) : Byte :=
  BitVec.ofNat 8 (64 + tier.code * 16 + flagBit mark 3 + flagBit short 2)

/-- A 16-bit number's two bytes, in two's complement (R199). -/
def int16Bytes (x : Int) : List Byte := be16 (BitVec.ofInt 16 x).toNat

/-- A voiced slice record in full form (R60, R202). -/
def voicedRecord (tier : Tier) (mark : Bool) (entry : Coding) (codes : List Byte) : List Byte :=
  voicedHead tier mark false :: BitVec.ofNat 8 entry.index :: (int16Bytes entry.predictor ++ codes)

/-- A silence record, and a silence item (R61, R202). -/
def silenceRecord (count : Nat) : List Byte := [0x80#8, BitVec.ofNat 8 count]

/-- A record header item (R202). -/
def headerItem (pass count : Nat) (kind : RecKind) : List Byte :=
  [BitVec.ofNat 8 (0xC0 + flagBit (kind == .instruction) 0), BitVec.ofNat 8 pass, BitVec.ofNat 8 count]

/-- What a slice record's or item's first byte says it is: bits 7 to 6 (R202). -/
inductive ItemKind where
  | voiced | silence | header | unknown
deriving DecidableEq, Repr

def itemKind (b : Byte) : ItemKind :=
  match b.toNat / 64 with
  | 1 => .voiced
  | 2 => .silence
  | 3 => .header
  | _ => .unknown

/-- The tier in a voiced record's first byte; code 3 names none (R202, R206). -/
def headTier (b : Byte) : Option Tier := Tier.ofCode (b.toNat / 16 % 4)

/-- The continuation mark in a voiced record's first byte (R202). -/
def headMark (b : Byte) : Bool := b.getLsbD 3

/-! ### Decoding (R64) -/

/-- The samples that code bits stand for, from an entry state, at most `n` of them (R64). -/
def decodeBits (tier : Tier) : Nat → Coding → List Bool → List Sample
  | 0, _, _ => []
  | n + 1, c, bits =>
      let code := bits.take tier.width
      let c' := reconstruct tier c (code.headD false) (numOf code.tail)
      BitVec.ofInt 16 c'.predictor :: decodeBits tier n c' (bits.drop tier.width)

/-- The 160 samples of a voiced slice record's bytes (R64). -/
def decodeVoiced (bytes : List Byte) : List Sample :=
  match bytes with
  | head :: index :: p1 :: p2 :: codes =>
      let tier := (headTier head).getD .c
      decodeBits tier Config.sliceSamples
        ⟨(BitVec.ofNat 16 (rd16 p1 p2)).toInt, index.toNat⟩ (byteBits codes)
  | _ => List.replicate Config.sliceSamples 0#16

/-- 160 zero samples (R64, R65). -/
def zeroSlice : List Sample := List.replicate Config.sliceSamples 0#16

end Sys2Proof
end

