-- ==== Sys2Proof/Machine/Prompts.lean ====
section
/-! DEFINITION. The prompts: tones, cadences, and the samples the generator sends (R104 to R106). -/

namespace Sys2Proof

open Machine

/-- A prompt's two tones in Hz (R104). -/
def Machine.Prompt.tones : Prompt → Nat × Nat
  | .ready | .accepted => (440, 880)
  | .refused | .memoryFull => (330, 500)
  | .wait => (400, 600)
  | .ending => (880, 1100)
  | .paused => (500, 1100)

/-- A prompt's on time in samples, eight to a millisecond (R104, R105). -/
def Machine.Prompt.onSamples : Prompt → Nat
  | .ready => 8 * 150
  | .accepted => 8 * 80
  | .refused => 8 * 400
  | .wait | .paused | .memoryFull => 8 * 100
  | .ending => 8 * 300

/-- A prompt's off time in samples, where it has an off-phase (R104). -/
def Machine.Prompt.offSamples : Prompt → Nat
  | .accepted => 8 * 80
  | .wait => 8 * 900
  | .paused | .memoryFull => 8 * 100
  | .ready | .refused | .ending => 0

/-- A prompt's repeats; Wait has no last one (R104). -/
def Machine.Prompt.repeats : Prompt → Option Nat
  | .ready | .refused | .ending => some 1
  | .accepted => some 2
  | .paused => some 3
  | .memoryFull => some 5
  | .wait => none

/-- A prompt as it is asked for: the on-phase of repeat 1 (R105). -/
def Machine.PromptRun.start (p : Prompt) : PromptRun := ⟨p, true, 1, p.onSamples⟩

/-- A quarter wave of 8,231 sin(2 pi k / 800) for k from 0 to 200, times 65,536, rounded. The sum of
two of its values rounds to the integer R106 gives for every sample of every prompt (DEDUCED, log 23). -/
def sineTable : List Int :=
  [0, 4236605, 8472948, 12708769, 16943806, 21177797, 25410483, 29641601, 33870890, 38098090, 42322940, 46545180, 50764548, 54980785, 59193630, 63402824, 67608107, 71809220, 76005903, 80197898] ++
  [84384945, 88566788, 92743167, 96913826, 101078506, 105236951, 109388905, 113534111, 117672314, 121803258, 125926689, 130042352, 134149994, 138249361, 142340199, 146422258, 150495284, 154559027, 158613236, 162657662] ++
  [166692053, 170716163, 174729742, 178732542, 182724318, 186704822, 190673810, 194631035, 198576255, 202509226, 206429705, 210337451, 214232222, 218113778, 221981880, 225836289, 229676768, 233503078, 237314986, 241112254] ++
  [244894650, 248661939, 252413890, 256150270, 259870851, 263575401, 267263692, 270935497, 274590590, 278228745, 281849737, 285453344, 289039342, 292607511, 296157631, 299689482, 303202847, 306697509, 310173252, 313629863] ++
  [317067127, 320484833, 323882770, 327260729, 330618500, 333955878, 337272655, 340568628, 343843593, 347097348, 350329693, 353540427, 356729354, 359896276, 363040997, 366163325, 369263066, 372340029, 375394024, 378424863] ++
  [381432360, 384416327, 387376582, 390312942, 393225226, 396113253, 398976847, 401815829, 404630026, 407419263, 410183369, 412922173, 415635505, 418323200, 420985090, 423621012, 426230802, 428814301, 431371349, 433901788] ++
  [436405461, 438882215, 441331897, 443754355, 446149441, 448517006, 450856904, 453168991, 455453125, 457709164, 459936969, 462136403, 464307331, 466449618, 468563132, 470647743, 472703322, 474729743, 476726880, 478694610] ++
  [480632812, 482541367, 484420156, 486269064, 488087976, 489876781, 491635368, 493363628, 495061456, 496728745, 498365395, 499971302, 501546369, 503090499, 504603595, 506085565, 507536317, 508955762, 510343813, 511700383] ++
  [513025388, 514318748, 515580383, 516810214, 518008165, 519174164, 520308137, 521410015, 522479731, 523517217, 524522410, 525495248, 526435672, 527343622, 528219043, 529061881, 529872084, 530649602, 531394387, 532106393] ++
  [532785577, 533431895, 534045309, 534625781, 535173274, 535687756, 536169193, 536617558, 537032821, 537414957, 537763943, 538079757, 538362380, 538611795, 538827985, 539010937, 539160641, 539277087, 539360268, 539410179] ++
  [539426816]

/-- The sine of phase k of 800, times 8,231 and 65,536. -/
def sineAt (k : Nat) : Int :=
  let k := k % 800
  if k ≤ 200 then sineTable.getD k 0
  else if k ≤ 400 then sineTable.getD (400 - k) 0
  else if k ≤ 600 then -sineTable.getD (k - 400) 0
  else -sineTable.getD (800 - k) 0

/-- The nearest integer of x / 65,536, halves away from zero (R106). -/
def roundSample (x : Int) : Int :=
  let m : Int := ((2 * x.natAbs + 65536) / 131072 : Nat)
  if x < 0 then -m else m

/-- Outbound sample n of an on-phase (R106). A phase step of 10 Hz at 8,000 samples a second is one
800th of a turn. -/
def Machine.Prompt.sample (p : Prompt) (n : Nat) : Sample :=
  BitVec.ofInt 16 (roundSample (sineAt (p.tones.1 / 10 * n) + sineAt (p.tones.2 / 10 * n)))

/-- The sample a prompt in progress sends next (R105, R106). -/
def Machine.PromptRun.sample (r : PromptRun) : Sample :=
  if r.on then r.prompt.sample (r.prompt.onSamples - r.left) else 0#16

/-- The prompt after one outbound sample; none when the last on-phase has run out (R105). -/
def Machine.PromptRun.next (r : PromptRun) : Option PromptRun :=
  if 1 < r.left then some { r with left := r.left - 1 }
  else if r.on then
    if r.prompt.repeats = some r.rep then none
    else some { r with on := false, left := r.prompt.offSamples }
  else some { r with on := true, rep := r.rep + 1, left := r.prompt.onSamples }

end Sys2Proof
end

