-- ==== Sys2Proof/Machine/Ops.lean ====
section
/-! DEFINITION. The named operations every unit uses: one part of the state changed at a time, the
byte memory, the Control Queue, events, fault count, prompts. -/

namespace Sys2Proof.Machine

/-- What a command answers. -/
abbrev Result := Host.Outcome State Fault Refusal

/-! ### Changing one part of the state -/

namespace State

def onBus (s : State) (f : Bus → Bus) : State := { s with bus := f s.bus }
def onSeg (s : State) (f : Segment → Segment) : State := { s with seg := f s.seg }
def onNums (s : State) (f : Numbers → Numbers) : State := { s with nums := f s.nums }
def onXfer (s : State) (f : Transfer → Transfer) : State := { s with xfer := f s.xfer }
def onDeliv (s : State) (f : Delivery → Delivery) : State := { s with deliv := f s.deliv }
def onLine (s : State) (l : LineNo) (f : Line → Line) : State :=
  { s with lines := s.lines.set l (f s.lines[l]) }
def onCoder (s : State) (l : LineNo) (f : Coder → Coder) : State :=
  { s with coders := s.coders.set l (f s.coders[l]) }
def onTone (s : State) (l : LineNo) (f : Tone → Tone) : State :=
  { s with tones := s.tones.set l (f s.tones[l]) }
def onPort (s : State) (l : LineNo) (f : Port → Port) : State :=
  { s with ports := s.ports.set l (f s.ports[l]) }
/-- Change the letter of an entry, if the entry holds one. -/
def onLetter (s : State) (i : LetterIx) (f : Letter → Letter) : State :=
  { s with letters := s.letters.set i (s.letters[i].map f) }
/-- Give an entry a letter, or make it FREE. -/
def setLetter (s : State) (i : LetterIx) (x : Option Letter) : State :=
  { s with letters := s.letters.set i x }

/-- A step the station's own units owe joins the list of reports (log 1). -/
def report (s : State) (i : Instr) : State := { s with reports := s.reports ++ [i] }

/-- A command that stands among the reports is that step: it leaves the list (log 1). -/
def taken (s : State) (i : Instr) : State := { s with reports := s.reports.erase i }

/-- A timer or prompt that starts anew has not run out: the step its last running out owed is not taken
any more (R74, R76, R107). -/
def cancel (s : State) (i : Instr) : State := { s with reports := s.reports.filter (· ≠ i) }

/-- The station state is ACTIVE (R190). -/
def isActive (s : State) : Bool := s.bus.ctl.state == .active
/-- The station has a number, so it is in LISTEN or ACTIVE (R191). -/
def isNumbered (s : State) : Bool := s.bus.ctl.state != .unnumbered
/-- The link is DETACHED (R122). -/
def isDetached (s : State) : Bool := s.bus.link.state == .detached

/-- Every context at its reset value, with these straps. What waits outside (commands, ticks, the
line-active levels) stays, the filters are the station's own, and free values already used are not used
again (R190, log 3). -/
def afresh (s : State) (stn rate : Nat) : State :=
  { State.resetWith stn rate with
    ports := s.ports.map fun p => { Port.reset with active := p.active, activeRun := p.activeRun }
    filters := s.filters
    freeIdx := s.freeIdx
    ticks := s.ticks
    pending := s.pending }

end State

/-- Apply an operation when a condition holds. -/
def when (c : Bool) (f : State → State) (s : State) : State := if c then f s else s

/-- All lines and all Letter Table entries, lowest first. -/
def allLines : List LineNo := List.finRange 8
def allLetters : List LetterIx := List.finRange 64

/-! ### The SDRAM: bytes at addresses in canonical form -/

/-- What a byte that nothing has written reads as (DESIGN CHOICE, log 5). -/
def Memory.unlisted : Byte := 0#8

/-- Memory holds addresses in rising order and no byte equal to what an unlisted one reads as. -/
def Memory.wf : List Host.Cell → Bool
  | [] => true
  | [(_, v)] => v != Memory.unlisted
  | (a, v) :: (b, w) :: rest => v != Memory.unlisted && a < b && Memory.wf ((b, w) :: rest)

/-- Read one byte. -/
def Memory.read : List Host.Cell → Nat → Byte
  | [], _ => Memory.unlisted
  | (b, v) :: rest, a => if a = b then v else Memory.read rest a

/-- Write one byte, keeping the canonical form. -/
def Memory.write : List Host.Cell → Nat → Byte → List Host.Cell
  | [], a, v => if v = Memory.unlisted then [] else [(a, v)]
  | (b, w) :: rest, a, v =>
      if a < b then
        if v = Memory.unlisted then (b, w) :: rest else (a, v) :: (b, w) :: rest
      else if a = b then
        if v = Memory.unlisted then rest else (a, v) :: rest
      else (b, w) :: Memory.write rest a v

/-- Write bytes from an address on. -/
def Memory.writeBytes (mem : List Host.Cell) (a : Nat) : List Byte → List Host.Cell
  | [] => mem
  | v :: rest => Memory.writeBytes (Memory.write mem a v) (a + 1) rest

/-- Read `n` bytes from an address on. -/
def Memory.readBytes (mem : List Host.Cell) (a : Nat) : Nat → List Byte
  | 0 => []
  | n + 1 => Memory.read mem a :: Memory.readBytes mem (a + 1) n

/-! ### Events (R198) -/

/-- The outcome a claim-objection event carries (R152, R201). -/
inductive ObjectionOutcome where
  | takenBack | refused | tooLate
deriving DecidableEq, Repr

/-- The reason a transfer-cancelled event carries (R167, R201). -/
inductive TransferReason where
  | timeout | refused (r : RefuseReason) | noMemory | check | partnerRestarted
deriving DecidableEq, Repr

/-- The events and their details (R198). -/
inductive Event where
  | linkState (old new : LinkState) (count : Nat)
  | stuckBus
  | frameAbandoned (cls kind : Nat) (dest : Station)
  | memoryFull (l : LineNo)
  | lengthLimit (l : LineNo)
  | chainLimit (l : LineNo)
  | pressureTier (old new : Tier) (inUse : Nat)
  | letterFiled (number : Nat) (filing : Station)
  | letterStranded (number : Nat) (filing : Station)
  | closedUnfinished (number author : Nat)
  | objection (number : Nat) (sender : Station) (outcome : ObjectionOutcome)
  | exhausted (next : Nat)
  | transferCancelled (number : Nat) (giver : Station) (reason : TransferReason)
  | peerRestart (station : Station) (cls : StationClass)
deriving DecidableEq, Repr

/-- The event kind code: the row of R198's table, from 0 (R201). -/
def Event.code : Event → Nat
  | .linkState .. => 0
  | .stuckBus => 1
  | .frameAbandoned .. => 2
  | .memoryFull _ => 3
  | .lengthLimit _ => 4
  | .chainLimit _ => 5
  | .pressureTier .. => 6
  | .letterFiled .. => 7
  | .letterStranded .. => 8
  | .closedUnfinished .. => 9
  | .objection .. => 10
  | .exhausted _ => 11
  | .transferCancelled .. => 12
  | .peerRestart .. => 13

def ObjectionOutcome.code : ObjectionOutcome → Nat
  | .takenBack => 0
  | .refused => 1
  | .tooLate => 2

def TransferReason.code : TransferReason → Nat
  | .timeout => 0
  | .refused .busy => 1
  | .refused .closed => 2
  | .refused .unknown => 3
  | .noMemory => 4
  | .check => 5
  | .partnerRestarted => 6

/-- The details' bytes (R201). -/
def Event.details : Event → List Byte
  | .linkState old new count => be8 old.code ++ be8 new.code ++ be16 count
  | .stuckBus => []
  | .frameAbandoned c k d => be8 c ++ be8 k ++ be8 d
  | .memoryFull l | .lengthLimit l | .chainLimit l => be8 l.val
  | .pressureTier old new inUse => be8 old.code ++ be8 new.code ++ be16 inUse
  | .letterFiled n f | .letterStranded n f => be24 n ++ be8 f
  | .closedUnfinished n a => be24 n ++ be16 a
  | .objection n st o => be24 n ++ be8 st ++ be8 o.code
  | .exhausted n => be24 n
  | .transferCancelled n g r => be24 n ++ be8 g ++ be8 r.code
  | .peerRestart st c => be8 st ++ be8 c.code

namespace Bus

/-- Change the counters. -/
def count (f : Counters → Counters) (b : Bus) : Bus := { b with counters := f b.counters }

/-- Change the Link Unit context. -/
def onLink (f : Link → Link) (b : Bus) : Bus := { b with link := f b.link }

/-- An event was lost (R129, R198). -/
def lose (b : Bus) : Bus := b.count fun c => { c with eventsLost := c.eventsLost + 1 }

/-- A frame joins the tail of the Control Queue. -/
def push (q : QFrame) (b : Bus) : Bus := b.onLink fun k => { k with control := k.control ++ [q] }

/-- Raise an event: the event sequence rises, and an Event frame for the event destination joins the
Control Queue, or the event is counted as lost (R198, R129). -/
def raise (e : Event) (b : Bus) : Bus :=
  let seq := b.ctl.eventSeq + 1
  let b := { b with ctl := { b.ctl with eventSeq := seq } }
  match b.ctl.eventDest with
  | none => b.lose
  | some d =>
      if b.link.control.length < Config.controlFrames then
        b.push ⟨d, .event e.code seq b.ctl.seconds e.details, 0⟩
      else b.lose

/-- A protocol frame can join the Control Queue: it has room, or holds an Event frame to give up
(R129). -/
def accepts (b : Bus) : Bool :=
  b.link.control.length < Config.controlFrames || b.link.control.any (·.msg.isEvent)

/-- The Control Queue without its oldest Event frame (R129). -/
def dropEvent (b : Bus) : Bus :=
  b.onLink fun k => { k with control := k.control.eraseP (·.msg.isEvent) }

/-- An abandoned frame is counted and its event raised (R128). -/
def abandon (q : QFrame) (b : Bus) : Bus :=
  (b.count fun c => { c with framesAbandoned := c.framesAbandoned + 1 }).raise
    (.frameAbandoned q.msg.cls q.msg.kind q.dest)

/-- Place a protocol frame in the Control Queue (R129). A frame that finds the queue full of protocol
frames is treated as abandoned; what its owner then does is the caller's, who asks `accepts` first. -/
def place (q : QFrame) (b : Bus) : Bus :=
  if b.link.control.length < Config.controlFrames then b.push q
  else if b.link.control.any (·.msg.isEvent) then (b.dropEvent.lose).push q
  else b.abandon q

/-- The fault count takes a new value: the link state follows at once, a change raises an event, and
leaving MUTED stops the hold-off (R121, R122). What DETACHED does besides is `enterDetached`. -/
def setFault (n : Nat) (b : Bus) : Bus :=
  let old := b.link.state
  let new := LinkState.ofFault n
  let b := b.onLink fun k =>
    { k with fault := n, holdOff := if old = .muted ∧ new ≠ .muted then none else k.holdOff }
  if old = new then b else b.raise (.linkState old new n)

/-- Error kinds enter the error record by its mode (R125). -/
def recordErrors (kinds : List ErrKind) (b : Bus) : Bus :=
  b.onLink fun k => { k with errors := errorsAfter b.ctl.settings.errMode k.errors kinds }

end Bus

namespace State

/-- Raise an event (R198). -/
def raise (s : State) (e : Event) : State := s.onBus (Bus.raise e)

/-- Place a protocol frame whose owner does nothing when it is dropped or abandoned (R129). -/
def place (s : State) (dest : Station) (m : Msg) : State := s.onBus (Bus.place ⟨dest, m, 0⟩)

/-- Change the counters. -/
def count (s : State) (f : Counters → Counters) : State := s.onBus (Bus.count f)

/-! ### Prompts (R105, R107) -/

/-- A line asks for a prompt: it replaces one in progress, whose end is then owed no more, and starts at
the next outbound sample (R105, R107). A slice being sent is cut off (R67, R108). -/
def prompt (s : State) (l : LineNo) (p : Prompt) : State :=
  ((s.cancel (.promptEnded l)).onTone l fun t => { t with prompt := some (.start p) }).onPort l
    fun q => { q with outbound := none }

/-- The line changes its state. -/
def goto (s : State) (l : LineNo) (x : LineState) : State := s.onLine l fun c => { c with state := x }

/-- The line with this fetch reference waits in FETCH (R78). -/
def fetchingLine (s : State) (i : LetterIx) : Option LineNo :=
  allLines.find? fun l => s.lines[l].state == .fetch && s.lines[l].fetchRef == some i

/-- The entry that carries a letter number (R29: at most one does). -/
def findNumber (s : State) (n : Nat) : Option LetterIx :=
  if n = 0 then none
  else allLetters.find? fun i => (s.letters[i].map (·.number)) == some n

/-- The lowest-indexed FREE entry (R1). -/
def freeEntry (s : State) : Option LetterIx := allLetters.find? fun i => s.letters[i].isNone

/-- The state of the letter of an entry. -/
def stateOf (s : State) (i : LetterIx) : Option LetterState := s.letters[i].map (·.state)

/-- The Peer Table entry of a station (R136). -/
def peer (s : State) (st : Station) : Option Peer := s.peers.find? fun p => p.station == st

/-- The station is present in the Peer Table (R137). -/
def isPresent (s : State) (st : Station) : Bool := (s.peer st).any (·.present)

end State

end Sys2Proof.Machine
end

