-- ==== Sys2Proof/Machine/Segments.lean ====
section
/-! DEFINITION. The Segment Memory Unit: the Block Table, the accounts, the pool, the pressure tier,
and the slice records inside blocks (R35 to R51). -/

namespace Sys2Proof.Machine

namespace Segment

/-- The Block Table entry of a block that is not FREE. -/
def find (g : Segment) (b : Nat) : Option Block := g.blocks.find? fun x => x.num == b

/-- Change a block's entry. -/
def update (g : Segment) (b : Nat) (f : Block → Block) : Segment :=
  { g with blocks := g.blocks.map fun x => if x.num = b then f x else x }

/-- The number of FREE blocks (R44). -/
def free (g : Segment) : Nat := Config.blockCount - g.blocks.length

/-- Blocks in use: FILLING or SEALED (R49). -/
def inUse (g : Segment) : Nat := g.blocks.length

/-- The sum of the eight line reserve credits (R44). -/
def creditSum (g : Segment) : Nat := g.credits.toList.sum

/-- Common availability (R44). -/
def common (g : Segment) : Nat := g.free - g.creditSum - g.reservation

/-- The lowest-numbered FREE block, from `n` on, of a table in rising order (R37). -/
def lowestFrom (n : Nat) : List Block → Nat
  | [] => n
  | x :: rest => if x.num = n then lowestFrom (n + 1) rest else n

/-- A block's entry put in its place in the table. -/
def insertBlock (x : Block) : List Block → List Block
  | [] => [x]
  | y :: rest => if x.num < y.num then x :: y :: rest else y :: insertBlock x rest

/-- A freed block raises the credit of the lowest-numbered line below 128; with all credits full it
raises common availability (R46). -/
def refill (credits : Vector Nat 8) : Vector Nat 8 :=
  match allLines.find? fun l => credits[l] < Config.lineCredit with
  | some l => credits.set l (credits[l] + 1)
  | none => credits

/-- Records taken from the pool, and returned to it (R43). -/
def takeRecords (n : Nat) (g : Segment) : Segment := { g with poolFree := g.poolFree - n }
def returnRecords (n : Nat) (g : Segment) : Segment := { g with poolFree := g.poolFree + n }

end Segment

namespace State

/-- The pressure tier is evaluated on the blocks now in use, and a change raises an event (R49). -/
def evalPressure (s : State) : State :=
  let new := pressureAfter s.seg.tier s.seg.inUse
  { s with
    seg := { s.seg with tier := new }
    bus := if new = s.seg.tier then s.bus
           else s.bus.raise (.pressureTier s.seg.tier new s.seg.inUse) }

/-- A block becomes FREE: it leaves the table, a credit or common availability rises, and the
pressure tier is evaluated (R41, R46). A block that is FREE already stays so. -/
def freeBlock (s : State) (b : Nat) : State :=
  if (s.seg.find b).isSome then
    (s.onSeg fun g =>
      { g with blocks := g.blocks.filter (·.num ≠ b), credits := Segment.refill g.credits }).evalPressure
  else s

/-- One more record names a block (R41). -/
def incRef (s : State) (b : Nat) : State := s.onSeg (·.update b fun x => { x with refs := x.refs + 1 })

/-- One record less names a block: a SEALED block whose count reaches 0 is freed (R41). -/
def decRef (s : State) (b : Nat) : State :=
  let s := s.onSeg (·.update b fun x => { x with refs := x.refs - 1 })
  when ((s.seg.find b).any fun x => x.refs == 0 && x.filler.isNone) (·.freeBlock b) s

/-- Seal a FILLING block; one whose count is 0 is freed at once (R40). A block that is not FILLING is
left as it is. -/
def sealBlock (s : State) (b : Nat) : State :=
  match s.seg.find b with
  | none => s
  | some x =>
      if x.filler.isSome then
        when (x.refs == 0) (·.freeBlock b) (s.onSeg (·.update b fun y => { y with filler := none }))
      else s

/-- Give the lowest-numbered FREE block to a filler (R37). -/
def giveBlock (s : State) (owner : LetterIx) (filler : Filler) (pass firstSeq : Nat) : State :=
  let x : Block := ⟨Segment.lowestFrom 0 s.seg.blocks, 0, pass, firstSeq, 0, 0, owner, some filler⟩
  (s.onSeg fun g => { g with blocks := Segment.insertBlock x g.blocks }).evalPressure

/-- A recording line's block request can be granted (R45). -/
def lineMayTake (s : State) (l : LineNo) : Bool :=
  0 < s.seg.free && (0 < s.seg.common || 0 < s.seg.credits[l])

/-- A granted request of a line draws on common availability, or on the line's credit (R45). -/
def chargeLine (s : State) (l : LineNo) : State :=
  s.onSeg fun g => if 0 < g.common then g else { g with credits := g.credits.set l (g.credits[l] - 1) }

/-- A block request of the transfer engine can be granted (R48). -/
def transferMayTake (s : State) : Bool := 0 < s.seg.free && (0 < s.seg.reservation || 0 < s.seg.common)

/-- A granted request of the transfer engine draws on the reservation, or on common availability
(R48). -/
def chargeTransfer (s : State) : State := s.onSeg fun g => { g with reservation := g.reservation - 1 }

end State

/-! ### Slice records inside a block (R39, R42) -/

/-- A slice record as it stands in a block: its byte offset, the index of its first slice, the slices
it covers, its size, and whether it is voiced. -/
structure Stored where
  offset : Nat
  index : Nat
  span : Nat
  size : Nat
  voiced : Bool
deriving DecidableEq, Repr

/-- The records of a block from a byte offset to its bytes used, counting one index to a voiced record
and n to a silence record of count n (R42). The fuel bounds the walk by the block's bytes. -/
def walkBlock (mem : List Host.Cell) (base used : Nat) : Nat → Nat → Nat → List Stored
  | 0, _, _ => []
  | fuel + 1, off, ix =>
      if off < used then
        let head := Memory.read mem (base + off)
        match itemKind head with
        | .voiced =>
            let size := ((headTier head).getD .c).stored
            ⟨off, ix, 1, size, true⟩ :: walkBlock mem base used fuel (off + size) (ix + 1)
        | .silence =>
            let n := (Memory.read mem (base + off + 1)).toNat
            ⟨off, ix, n, 2, false⟩ :: walkBlock mem base used fuel (off + 2) (ix + n)
        | _ => []
      else []

namespace Segment

/-- The slice records of a block, in order. -/
def records (g : Segment) (x : Block) : List Stored :=
  walkBlock g.mem (x.num * Config.blockBytes) x.bytes Config.blockBytes 0 0

/-- The silence record that ends a block, if its last record is one (R38, R61). -/
def trailingSilence (g : Segment) (x : Block) : Option Stored :=
  (g.records x).getLast?.filter fun r => !r.voiced

/-- The record that covers a slice index of a block (R42). -/
def covering (g : Segment) (x : Block) (i : Nat) : Option Stored :=
  (g.records x).find? fun r => r.index ≤ i && i < r.index + r.span

/-- The bytes of a record of a block. -/
def bytesOf (g : Segment) (x : Block) (r : Stored) : List Byte :=
  Memory.readBytes g.mem (x.num * Config.blockBytes + r.offset) r.size

/-- The bytes a coded slice adds to a block (R38). -/
def addedBytes (g : Segment) (x : Block) : Coded → Nat
  | .voiced tier _ _ => tier.stored
  | .silence => if (g.trailingSilence x).isSome then 0 else 2

/-- The slice fits in the block (R38). -/
def fits (g : Segment) (x : Block) (c : Coded) : Bool :=
  x.slices < Config.blockSlices && x.bytes + g.addedBytes x c ≤ Config.blockBytes

/-- Write a voiced record at the end of a block (R39). -/
def appendVoiced (g : Segment) (b : Nat) (bytes : List Byte) : Segment :=
  match g.find b with
  | none => g
  | some x =>
      { g with mem := Memory.writeBytes g.mem (b * Config.blockBytes + x.bytes) bytes }.update b
        fun y => { y with slices := y.slices + 1, bytes := y.bytes + bytes.length }

/-- Write a silence slice at the end of a block: it joins the silence record there, or opens a new one
(R39, R61). -/
def appendSilence (g : Segment) (b : Nat) : Segment :=
  match g.find b with
  | none => g
  | some x =>
      match g.trailingSilence x with
      | some r =>
          { g with mem := Memory.write g.mem (b * Config.blockBytes + r.offset + 1)
                            (BitVec.ofNat 8 (r.span + 1)) }.update b
            fun y => { y with slices := y.slices + 1 }
      | none =>
          { g with mem := Memory.writeBytes g.mem (b * Config.blockBytes + x.bytes) (silenceRecord 1) }.update b
            fun y => { y with slices := y.slices + 1, bytes := y.bytes + 2 }

/-- The 160 samples of a slice of a block (R42, R64). -/
def decodeSlice (g : Segment) (b i : Nat) : List Sample :=
  match g.find b with
  | none => zeroSlice
  | some x =>
      match g.covering x i with
      | some r => if r.voiced then decodeVoiced (g.bytesOf x r) else zeroSlice
      | none => zeroSlice

end Segment

/-! ### Items of a stream (R159, R161, R178) -/

/-- A slice record of a segment record, from a slice of it on: where it stands in the block, how many
of its slices lie in the range, and its full-form bytes as sent. -/
structure Item where
  block : Nat
  slice : Nat
  span : Nat
  voiced : Bool
  bytes : List Byte
deriving DecidableEq, Repr

namespace Segment

/-- The part of a stored record that lies in the slice range from `lo` to below `hi`, as an item: a
voiced record whole, a silence record with the count of its slices in the range (R161). -/
def clip (g : Segment) (x : Block) (lo hi : Nat) (r : Stored) : Option Item :=
  let a := max lo r.index
  let e := min hi (r.index + r.span)
  if a < e then
    some ⟨x.num, a, e - a, r.voiced, if r.voiced then g.bytesOf x r else silenceRecord (e - a)⟩
  else none

/-- The items of a segment record from slice `k` of it on (R161). -/
def items (g : Segment) (r : SegRec) (k : Nat) : List Item :=
  match g.find r.block with
  | none => []
  | some x => (g.records x).filterMap (g.clip x (r.first + k) (r.first + r.count))

/-- The record bytes of a segment record, in full form (R159). -/
def recordBytes (g : Segment) (r : SegRec) : Nat := ((g.items r 0).map (·.bytes.length)).sum

end Segment

end Sys2Proof.Machine
end

