-- ==== Sys2Proof/Machine/Letters.lean ====
section
/-! DEFINITION. The Letter Unit: chains and their edits, recording passes, freeing, holding
(R1 to R34). -/

namespace Sys2Proof.Machine

/-! ### Chains (R7, R9, R10) -/

/-- The sum of the counts of records: a letter's length (R7). -/
def chainLength (c : List SegRec) : Nat := (c.map (·.count)).sum

/-- A letter's length (R7). -/
def Letter.length (x : Letter) : Nat := chainLength x.chain

/-- A chain cut at a position, a record that holds the position inside it being split in two (R9). -/
def chainSplit : List SegRec → Nat → List SegRec × List SegRec
  | [], _ => ([], [])
  | r :: rest, k =>
      if k = 0 then ([], r :: rest)
      else if k < r.count then
        ([{ r with count := k }], { r with first := r.first + k, count := r.count - k } :: rest)
      else
        let p := chainSplit rest (k - r.count)
        (r :: p.1, p.2)

/-- The record that holds a position inside it (R7). -/
def chainInside : List SegRec → Nat → Option SegRec
  | [], _ => none
  | r :: rest, k =>
      if k = 0 then none else if k < r.count then some r else chainInside rest (k - r.count)

/-- The record that covers a position, and the slice of it (R66). -/
def chainAt : List SegRec → Nat → Option (SegRec × Nat)
  | [], _ => none
  | r :: rest, k => if k < r.count then some (r, k) else chainAt rest (k - r.count)

/-- The slice at an index of a block extends the last record of a chain's front (R13). -/
def extendsLast (front : List SegRec) (block index : Nat) : Bool :=
  match front.getLast? with
  | some r => r.block == block && r.first + r.count == index
  | none => false

/-- The last record of a chain's front grows by one slice (R13). -/
def growLast (front : List SegRec) : List SegRec :=
  match front.getLast? with
  | some r => front.dropLast ++ [{ r with count := r.count + 1 }]
  | none => front

/-- The first record after the insertion point loses its front slice; at count 0 it is removed
(R10). -/
def trimFront : List SegRec → List SegRec
  | [] => []
  | r :: rest =>
      if r.count ≤ 1 then rest else { r with first := r.first + 1, count := r.count - 1 } :: rest

/-- The block of the record that trimming removes, if it removes one (R10). -/
def trimRemoves : List SegRec → Option Nat
  | [] => none
  | r :: _ => if r.count ≤ 1 then some r.block else none

/-! ### A commit (R12 to R14) -/

/-- Why a commit fails (R16, R17, R18). -/
inductive PassFail where
  | length | chain | memory
deriving DecidableEq, Repr

/-- The event a failed commit raises (R16, R17, R18). -/
def PassFail.event : PassFail → LineNo → Event
  | .length, l => .lengthLimit l
  | .chain, l => .chainLimit l
  | .memory, l => .memoryFull l

/-- The prompt a failed commit sounds (R16, R17, R18). -/
def PassFail.prompt : PassFail → Prompt
  | .length | .chain => .refused
  | .memory => .memoryFull

/-- The chain edit of one commit: what the records before and after the insertion point become, the
records taken from the pool, the block a split names once more, whether a new record is placed, and the
block of a record the trim removes (R13, R14). -/
structure ChainEdit where
  chain : List SegRec
  taken : Nat
  splitBlock : Option Nat
  placed : Bool
  removed : Option Nat
deriving DecidableEq, Repr

/-- The chain edit that places slice `index` of `block` at a letter's cursor (R13, R14). -/
def chainEdit (x : Letter) (p : Pass) (block index : Nat) : ChainEdit :=
  let cut := chainSplit x.chain x.cursor
  let inside := chainInside x.chain x.cursor
  let ext := inside.isNone && extendsLast cut.1 block index
  let front := if ext then growLast cut.1 else cut.1 ++ [⟨block, index, 1, p.number, p.kind⟩]
  let overwriting := p.mode == .overwrite
  { chain := front ++ (if overwriting then trimFront cut.2 else cut.2)
    taken := (if inside.isSome then 1 else 0) + (if ext then 0 else 1)
    splitBlock := inside.map (·.block)
    placed := !ext
    removed := if overwriting then trimRemoves cut.2 else none }

namespace State

/-- Where a line's slice lands: at the end of its filling block, or none for "a new block" (R38). -/
def landing (s : State) (l : LineNo) (c : Coded) : Option Block :=
  (s.lines[l].filling.bind s.seg.find).filter fun x => s.seg.fits x c

/-- The records a commit needs: one for a split at the cursor, one for a new record (R12 step 3). -/
def recordsNeeded (x : Letter) (land : Option Block) : Nat :=
  let inside := chainInside x.chain x.cursor
  let ext := match land with
    | some b => inside.isNone && extendsLast (chainSplit x.chain x.cursor).1 b.num b.slices
    | none => false
  (if inside.isSome then 1 else 0) + (if ext then 0 else 1)

/-- The first check a commit fails, in the order of R12; none when it is placed. -/
def commitFails (s : State) (l : LineNo) (x : Letter) (p : Pass) (c : Coded) : Option PassFail :=
  let land := s.landing l c
  let need := recordsNeeded x land
  if (p.mode = .insert ∨ x.length ≤ x.cursor) ∧ Config.lengthLimit ≤ x.length then some .length
  else if s.seg.poolFree < need ∨ Config.chainLimit < x.chain.length + need then some .chain
  else if land.isNone ∧ s.lineMayTake l = false then some .memory
  else none

/-- The line is given a new filling block, and its previous one is sealed in the same step (R12 step 4,
R37). -/
def takeFilling (s : State) (l : LineNo) (i : LetterIx) (pass : Nat) : State :=
  let prev := s.lines[l].filling.bind s.seg.find
  let firstSeq := match prev with
    | some x => x.firstSeq + x.slices
    | none => 0
  let new := Segment.lowestFrom 0 s.seg.blocks
  let s := (s.chargeLine l).giveBlock i (.line l) pass firstSeq
  let s := match prev with
    | some x => s.sealBlock x.num
    | none => s
  s.onLine l fun c => { c with filling := some new }

/-- Write a committed slice into a block, its continuation mark set against the line's committed exit
state, which then becomes the slice's exit state (R39, R62). -/
def writeSlice (s : State) (l : LineNo) (b : Nat) (h : HoldSlice) : State :=
  match h.coded with
  | .voiced tier entry codes =>
      let mark := s.coders[l].exit == some entry
      (s.onSeg (·.appendVoiced b (voicedRecord tier mark entry codes))).onCoder l
        fun c => { c with exit := some h.exit }
  | .silence => (s.onSeg (·.appendSilence b)).onCoder l fun c => { c with exit := none }

/-- Edit the chain of a letter and the counts of the blocks concerned (R13, R14, R41, R43). -/
def editChain (s : State) (i : LetterIx) (e : ChainEdit) (block : Nat) : State :=
  let s := s.onLetter i fun x => { x with chain := e.chain, cursor := x.cursor + 1 }
  let s := s.onSeg (Segment.takeRecords e.taken)
  let s := match e.splitBlock with
    | some b => s.incRef b
    | none => s
  let s := when e.placed (·.incRef block) s
  match e.removed with
  | some b => (s.onSeg (Segment.returnRecords 1)).decRef b
  | none => s

/-- Steps 4 and 5 of a commit that passes its checks (R12). -/
def commitPlace (s : State) (l : LineNo) (i : LetterIx) (x : Letter) (p : Pass) (h : HoldSlice) : State :=
  let s := when (s.landing l h.coded).isNone (·.takeFilling l i p.number) s
  match s.lines[l].filling.bind s.seg.find with
  | none => s
  | some b =>
      let s := (s.writeSlice l b.num h).editChain i (chainEdit x p b.num b.slices) b.num
      s.count fun c => { c with slicesCommitted := c.slicesCommitted + 1 }

/-- The letter a line works on and its pass in progress (R5, R6). -/
def passOf (s : State) (l : LineNo) : Option (LetterIx × Letter × Pass) :=
  s.lines[l].attached.bind fun i => s.letters[i].bind fun x => x.pass.map fun p => (i, x, p)


end State

end Sys2Proof.Machine

namespace Sys2Proof.Machine

/-- A coded slice is silence. -/
def Coded.isSilence : Coded → Bool
  | .silence => true
  | .voiced .. => false

namespace State

/-- A slice leaves the Hold Buffer toward commit: the pause cap holds it back, or it is committed, or
its commit fails (R63, R12). With no pass in progress nothing is committed (R6). -/
def leaveHold (s : State) (l : LineNo) (h : HoldSlice) : State × Option PassFail :=
  match s.passOf l with
  | none => (s, none)
  | some (i, x, p) =>
      if h.coded.isSilence = true ∧ s.bus.ctl.settings.pauseCap ≤ s.coders[l].silence then
        (s.count fun c => { c with cappedSlices := c.cappedSlices + 1 }, none)
      else
        match s.commitFails l x p h.coded with
        | some f => (s, some f)
        | none =>
            let s := s.commitPlace l i x p h
            if h.coded.isSilence then
              ((s.onCoder l fun c => { c with silence := c.silence + 1 }).count
                fun c => { c with silenceSlices := c.silenceSlices + 1 }, none)
            else (s.onCoder l fun c => { c with silence := 0 }, none)

/-- Commit Hold Buffer entries, oldest first, up to the first that fails (R87). -/
def flushHold (l : LineNo) : List HoldSlice → State → State × Option PassFail
  | [], s => (s, none)
  | h :: rest, s =>
      match s.leaveHold l h with
      | (s, some f) => (s, some f)
      | (s, none) => flushHold l rest s

/-- End Pass: the filling block is sealed, the pass in progress removed, the Hold Buffer empty, and the
Coder's pass state cleared (R15, R53, R85). -/
def endPass (s : State) (l : LineNo) : State :=
  let s := match s.lines[l].filling with
    | some b => s.sealBlock b
    | none => s
  let s := s.onLine l fun c => { c with filling := none, hold := [] }
  let s := match s.lines[l].attached with
    | some i => s.onLetter i fun x => { x with pass := none }
    | none => s
  s.onCoder l fun c => { c with exit := none, silence := 0 }

/-- The end of a pass that a failed commit brought: its event is raised (R16, R17, R18). -/
def failPass (s : State) (l : LineNo) (f : PassFail) : State := (s.endPass l).raise (f.event l)

/-- A pass ends by a key, by auto-pause or by line clear: the Hold Buffer is committed and End Pass
sent; a failure raises its event and is told to the caller (R87). -/
def finishPass (s : State) (l : LineNo) : State × Option PassFail :=
  match flushHold l s.lines[l].hold s with
  | (s, some f) => (s.failPass l f, some f)
  | (s, none) => (s.endPass l, none)

/-- The pass ends and the line goes to READY; a failed flush sounds its prompt, otherwise the given
prompt, if any, sounds (R87, R88). -/
def closePass (s : State) (l : LineNo) (p : Option Prompt) : State :=
  let r := s.finishPass l
  let s := r.1.goto l .ready
  match r.2, p with
  | some f, _ => s.prompt l f.prompt
  | none, some q => s.prompt l q
  | none, none => s

/-! ### Freeing, holding (R4, R26, R27, R28) -/

/-- Records leave their chain: each goes back to the pool and lowers its block's count (R4, R19). -/
def dropRecords : List SegRec → State → State
  | [], s => s
  | r :: rest, s => dropRecords rest ((s.onSeg (Segment.returnRecords 1)).decRef r.block)

/-- Seal the FILLING blocks of a list (R40). -/
def sealAll : List Nat → State → State
  | [], s => s
  | b :: rest, s => sealAll rest (s.sealBlock b)

/-- Free a letter: its records last first, the blocks it was filling, its place in the lists, and its
entry (R4, R40, R143, R151). -/
def freeLetter (s : State) (i : LetterIx) : State :=
  match s.letters[i] with
  | none => s
  | some x =>
      let s := dropRecords x.chain.reverse s
      let s := sealAll ((s.seg.blocks.filter fun b => b.owner == i && b.filler.isSome).map (·.num)) s
      let s := s.onNums fun n =>
        { n with waiting := n.waiting.filter (· ≠ i), window := n.window.filter (·.letter ≠ i) }
      s.setLetter i none

/-- A letter becomes HELD, without a line, its held timer at the full hold limit (R26, R27, R28). -/
def holdLetter (s : State) (i : LetterIx) : State :=
  let ms := s.bus.ctl.settings.holdMs
  (s.cancel (.heldTimerExpiry i)).onLetter i fun x =>
    { x with state := .held, line := none, partner := none, held := some ms }

/-- A letter becomes OPEN on a line, its held timer stopped (R34, R33). -/
def attachLetter (s : State) (i : LetterIx) (l : LineNo) : State :=
  (s.onLetter i fun x => { x with state := .open, line := some l, partner := none, held := none }).onLine l
    fun c => { c with attached := some i, state := .ready }

/-- The line lets its letter go. -/
def detachLine (s : State) (l : LineNo) : State := s.onLine l fun c => { c with attached := none }

/-! ### Discard pass (R19) -/

end State

/-- The highest pass number present in a chain; 0 for an empty chain (R19). -/
def highestPass (c : List SegRec) : Nat := (c.map (·.pass)).foldl max 0

/-- The position of the first record of a pass in a chain (R19). -/
def firstOfPass (pass : Nat) (c : List SegRec) : Nat := chainLength (c.takeWhile fun r => r.pass ≠ pass)

namespace State

/-- Discard the highest pass present in a letter's chain (R19). -/
def discardPass (s : State) (i : LetterIx) (x : Letter) : State :=
  let p := highestPass x.chain
  let kept := x.chain.filter fun r => r.pass ≠ p
  let s := s.onLetter i fun y =>
    { y with chain := kept, cursor := min (firstOfPass p x.chain) (chainLength kept) }
  dropRecords (x.chain.filter fun r => r.pass = p) s

end State

end Sys2Proof.Machine
end

