-- ==== Sys2Proof/Machine/Deliveries.lean ====
section
/-! DEFINITION. The delivery engine: the Delivery Queue, the choice of filing station, the Offer, the
stream, suspension and resumption, the ends of a delivery (R30, R31, R173 to R187). -/

namespace Sys2Proof.Machine

/-! ### The Delivery Queue (R30) -/

/-- A letter stands in the Delivery Queue: CLOSED with a number (R30). -/
def Letter.queued (x : Letter) : Bool := x.state == .closed && x.number != 0

/-- The queue's order: urgent first, then the lower number (R30). -/
def Letter.before (x y : Letter) : Bool :=
  (x.priority == .urgent && y.priority == .normal) || (x.priority == y.priority && x.number < y.number)

namespace State

/-- The earlier of two entries in the queue's order; an entry outside the queue is none. -/
def earlier (s : State) (best : Option LetterIx) (i : LetterIx) : Option LetterIx :=
  match s.letters[i] with
  | none => best
  | some x =>
      if x.queued then
        match best with
        | none => some i
        | some j => if (s.letters[j]).any (·.before x) then some j else some i
      else best

/-- The head of the Delivery Queue (R30). -/
def queueHead (s : State) : Option LetterIx := allLetters.foldl s.earlier none

end State

/-! ### Choosing a filing station (R175) -/

/-- The peer with the larger free capacity, the lower station number where two are equal. -/
def betterPeer (best : Option Peer) (p : Peer) : Option Peer :=
  match best with
  | none => some p
  | some q =>
      if q.last.capacity < p.last.capacity ∨
          (q.last.capacity = p.last.capacity ∧ p.station < q.station) then some p else some q

namespace State

/-- The filing station a delivery goes to, if one can be chosen (R175). -/
def chooseFiling (s : State) : Option Station :=
  let filing := s.peers.filter fun p => p.present && p.cls == .filing
  let pref := s.bus.ctl.settings.preferred
  if pref ≠ 0 ∧ filing.any (·.station == pref) then some pref
  else
    let clear := filing.filter fun p => !p.last.caution
    ((if clear.isEmpty then filing else clear).foldl betterPeer none).map (·.station)

/-! ### The stream (R178 to R181) -/

end State

/-- The last slice sent is the recorded predecessor of slice `i` of block `b` (R179). -/
def isPredecessor (g : Segment) (last : LastSlice) (b i : Nat) : Bool :=
  (last.block == b && last.slice + 1 == i) ||
    (i == 0 &&
      match g.find last.block, g.find b with
      | some c, some x =>
          last.slice + 1 == c.slices && c.pass == x.pass && c.firstSeq + c.slices == x.firstSeq
      | _, _ => false)

/-- A voiced item goes in short form (R179). -/
def goesShort (g : Segment) (resume : Bool) (last : Option LastSlice) (it : Item) : Bool :=
  it.voiced && !resume && headMark (it.bytes.headD 0#8) &&
    last.any fun x => x.voiced && isPredecessor g x it.block it.slice

/-- The bytes of an item as sent (R203). -/
def itemBytes (short : Bool) (it : Item) : List Byte :=
  if short then (it.bytes.headD 0#8 ||| 4#8) :: it.bytes.drop 4 else it.bytes

/-- The slice an item ends with (R180). -/
def Item.lastSlice (it : Item) : LastSlice := ⟨it.block, it.slice + it.span - 1, it.voiced⟩

/-- As many whole items as fit in `room` bytes, in the forms R179 gives: their bytes and number. -/
def packLetterItems (g : Segment) : Bool → Option LastSlice → Nat → List Item → List Byte × Nat
  | _, _, _, [] => ([], 0)
  | resume, last, room, it :: rest =>
      let bytes := itemBytes (goesShort g resume last it) it
      if bytes.length ≤ room then
        let p := packLetterItems g false (some it.lastSlice) (room - bytes.length) rest
        (bytes ++ p.1, p.2 + 1)
      else ([], 0)

/-- A stream position after some items of a record (R161, R180). -/
def streamAfter (r : SegRec) (record slice span : Nat) : Nat × Nat :=
  if r.count ≤ slice + span then (record + 1, 0) else (record, slice + span)

/-- The check register after the full-form bytes of items (R162, R180). -/
def crcItems (reg : Word32) (items : List Item) : Word32 :=
  items.foldl (fun c it => crc32 c it.bytes) reg

namespace State

/-- The Letter Data frame's contents at a position of a letter (R178). -/
def letterData (s : State) (x : Letter) (r : SegRec) (record slice : Nat) (resume : Bool)
    (last : Option LastSlice) : DataBody :=
  let head := if slice = 0 then headerItem r.pass r.count r.kind else []
  let p := packLetterItems s.seg resume last (240 - head.length) (s.seg.items r slice)
  ⟨x.number, record, slice, p.2 + (if slice = 0 then 1 else 0), head ++ p.1⟩

/-- The next frame of a delivery in STREAMING: a Letter Data frame, or the Letter End at the end of the
chain (R178, R180). -/
def deliveryFrame (s : State) (a : Active) (x : Letter) (p : Progress) : QFrame :=
  let tag := p.tag.getD 0
  match x.chain[p.record]? with
  | some r =>
      ⟨p.filing, .letterData x.priority a.resume tag (s.letterData x r p.record p.slice a.resume a.last), a.name⟩
  | none => ⟨p.filing, .letterEnd x.priority x.number tag (crc32Final p.crc), a.name⟩

/-- The active delivery with its letter and progress. -/
def activeOf (s : State) : Option (Active × Letter × Progress) :=
  s.deliv.active.bind fun a => s.letters[a.letter].bind fun x => x.progress.map fun p => (a, x, p)

/-- A frame of the named delivery is the link's current frame (R185). -/
def deliveryCurrent (s : State) (name : Nat) : Bool :=
  s.bus.link.current.any fun c => c.source == .delivery && c.frame.owner == name

/-- Withdraw the offered delivery frame (R131). -/
def withdrawDelivery (s : State) : State :=
  s.onBus (Bus.onLink fun k => { k with offDelivery := none })

/-- Offer the next frame of the active delivery in STREAMING (R178). -/
def offerDelivery (s : State) : State :=
  match s.activeOf with
  | some (a, x, p) =>
      if a.phase = .streaming then
        s.onBus (Bus.onLink fun k => { k with offDelivery := some (s.deliveryFrame a x p) })
      else s
  | none => s

/-! ### Ends, suspension, resumption -/

/-- Change the active delivery. -/
def onActive (s : State) (f : Active → Active) : State :=
  s.onDeliv fun d => { d with active := d.active.map f }

/-- No delivery is active (R177, R182, R187). -/
def clearActive (s : State) : State := (s.onDeliv fun d => { d with active := none }).withdrawDelivery

/-- The suspended delivery becomes the active one in STREAMING with the resume mark set, and its next
frame is offered (R186). -/
def resumeSuspended (s : State) : State :=
  match s.deliv.suspended with
  | some (i, name) =>
      let s := s.onLetter i fun x => { x with state := .delivering }
      let s := s.onDeliv fun d =>
        { d with suspended := none, active := some ⟨i, name, .streaming, none, false, true, none⟩ }
      s.offerDelivery
  | none => s

/-- The Offer ended without a delivery: refused, not answered, abandoned or dropped (R177). -/
def offerFailed (s : State) : State :=
  match s.deliv.active with
  | some a =>
      let s := (s.onLetter a.letter fun x => { x with progress := none }).clearActive
      ((s.cancel .retryTimerExpiry).onDeliv fun d =>
        { d with retry := some Config.retryMs }).resumeSuspended
  | none => s

/-- The contents of a letter's Offer (R176). -/
def offerBody (s : State) (x : Letter) : OfferBody :=
  ⟨x.number, x.author, x.priority, x.unfinished, x.length, x.chain.length,
    (x.chain.map s.seg.recordBytes).sum⟩

/-- Offer a letter to a filing station (R176). -/
def offerLetter (s : State) (i : LetterIx) (st : Station) : State :=
  match s.letters[i] with
  | none => s
  | some x =>
      let name := s.streamId
      let q : QFrame := ⟨st, .offer (s.offerBody x), name⟩
      let s := s.onLetter i fun y => { y with progress := some ⟨0, 0, crc32Start, st, none⟩ }
      let s := s.onDeliv fun d => { d with active := some ⟨i, name, .offered, none, false, false, none⟩ }
      let s := { s with streamId := name + 1 }
      let ok := s.bus.accepts
      let s := s.onBus (Bus.place q)
      if ok then s else s.offerFailed

/-- The active delivery's letter becomes SUSPENDED and keeps its progress (R185). -/
def suspendNow (s : State) : State :=
  match s.deliv.active with
  | some a =>
      let s := (s.onLetter a.letter fun x => { x with state := .suspended }).clearActive
      s.onDeliv fun d => { d with suspended := some (a.letter, a.name) }
  | none => s

/-- The letter and filing station a delivery can start with (R174). -/
def startable (s : State) : Option (LetterIx × Station) :=
  if s.isActive = true ∧ s.isDetached = false ∧ s.deliv.retry = none then
    s.queueHead.bind fun i => s.chooseFiling.map fun st => (i, st)
  else none

/-- The letter of an entry is urgent. -/
def isUrgent (s : State) (i : LetterIx) : Bool := s.letters[i].any (·.priority == .urgent)

/-- After a suspension: the urgent head is offered, or, if none can be, the suspended delivery resumes
(R185, R174). -/
def afterSuspend (s : State) : State :=
  match s.startable with
  | some (i, st) => if s.isUrgent i then s.offerLetter i st else s.resumeSuspended
  | none => s.resumeSuspended

/-- The engine looks for work (R174, R185). -/
def look (s : State) : State :=
  match s.startable with
  | none => s
  | some (i, st) =>
      match s.deliv.active with
      | none => if s.deliv.suspended.isNone then s.offerLetter i st else s.resumeSuspended
      | some a =>
          if s.isUrgent i = true ∧ s.isUrgent a.letter = false ∧ s.deliv.suspended = none ∧
              a.phase ≠ .ended then
            let s := s.onActive fun a => { a with suspendPending := true }
            if a.phase = .streaming then
              let s := s.withdrawDelivery
              if s.deliveryCurrent a.name then s else s.suspendNow.afterSuspend
            else s
          else s

/-- After the active delivery has ended: a suspended delivery resumes, and the engine looks for work
(R186, R174). -/
def afterEnd (s : State) : State :=
  (when (s.deliv.active.isNone && s.deliv.suspended.isSome) (·.resumeSuspended) s).look

/-- The engine goes on after a frame of the active delivery completed: a pending suspension takes place,
or the next frame is offered (R185, R180). -/
def streamOn (s : State) : State :=
  if s.deliv.active.any (·.suspendPending) then s.suspendNow.afterSuspend else s.offerDelivery

/-- An entry joins the unconfirmed-end list; the oldest leaves a list of four (R182). -/
def addUnconfirmed (s : State) (u : Unconfirmed) : State :=
  s.onDeliv fun d =>
    { d with unconfirmed :=
        (if d.unconfirmed.length < 4 then d.unconfirmed else d.unconfirmed.drop 1) ++ [u] }

/-- The unconfirmed-end entry of a letter's delivery, if it has a tag. -/
def noteUnconfirmed (s : State) (x : Letter) (p : Progress) : State :=
  match p.tag with
  | some t => s.addUnconfirmed ⟨x.number, p.filing, t⟩
  | none => s

/-- A letter goes back to CLOSED with no progress (R31). -/
def closeAgain (s : State) (i : LetterIx) : State :=
  s.onLetter i fun x => { x with state := .closed, progress := none }

/-- Abort the active delivery (R187). -/
def abortActive (s : State) : State :=
  match s.activeOf with
  | some (a, x, p) =>
      let s := when (a.phase == .ended) (·.noteUnconfirmed x p) s
      (s.closeAgain a.letter).clearActive
  | none => s

/-- Abort the suspended delivery (R187). -/
def abortSuspended (s : State) : State :=
  match s.deliv.suspended with
  | some (i, _) => (s.closeAgain i).onDeliv fun d => { d with suspended := none }
  | none => s

/-- The filing station of a letter's delivery is `st`. -/
def filesTo (s : State) (i : LetterIx) (st : Station) : Bool :=
  s.letters[i].any fun x => x.progress.any (·.filing == st)

/-- A filing station became absent: its deliveries are aborted, and the engine looks (R187, R138). -/
def filingAbsent (s : State) (st : Station) : State :=
  let sus := s.deliv.suspended.any fun x => s.filesTo x.1 st
  let act := s.deliv.active.any fun a => s.filesTo a.letter st
  if sus || act then (when act (·.abortActive) (when sus (·.abortSuspended) s)).afterEnd else s

/-- Every STRANDED letter is CLOSED again with attempts 0 (R184, R31). -/
def reviveStranded (s : State) : State :=
  { s with letters := s.letters.map fun x => x.map fun y =>
      if y.state = .stranded then { y with state := .closed, attempts := 0 } else y }

/-- A filing station is newly present: stranded letters are revived, and the engine looks (R184). -/
def filingPresent (s : State) : State := s.reviveStranded.look

/-- A letter was filed: it is freed, counted, and its event raised (R182, R183). -/
def fileLetter (s : State) (i : LetterIx) (number : Nat) (filing : Station) : State :=
  ((s.freeLetter i).count fun c => { c with lettersFiled := c.lettersFiled + 1 }).raise
    (.letterFiled number filing)

/-- The active delivery was rejected: attempts rise, and the letter is CLOSED again or, at 3, STRANDED
(R182, R31). -/
def rejectActive (s : State) : State :=
  match s.activeOf with
  | some (a, x, p) =>
      let n := x.attempts + 1
      let s := s.onLetter a.letter fun y =>
        { y with progress := none, attempts := n, state := if n < 3 then .closed else .stranded }
      let s := s.clearActive
      (if n < 3 then s else s.raise (.letterStranded x.number p.filing)).afterEnd
  | none => s

end State

end Sys2Proof.Machine
end

