-- ==== Sys2Proof/Machine/NumberOps.lean ====
section
/-! DEFINITION. Letter numbers and Beacons: the Next Number, the claim, the objection window, and the
Beacon the station builds (R134, R135, R140 to R152). -/

namespace Sys2Proof.Machine

namespace State

/-- The Next Number rises to the larger of itself and a value, at most 16,777,215; above the claim
link's number it makes the link invalid (R141). -/
def raiseNext (s : State) (v : Nat) : State :=
  s.onNums fun n =>
    let next := max n.next (min v Config.lastNumber)
    { n with
      next := next
      link := n.link.map fun k => (k.1, k.2 && next ≤ k.1) }

/-- A claim abandoned, or dropped from a full Control Queue, ends, and the 100 ms wait starts (R147). -/
def claimAbandoned (s : State) : State :=
  (s.cancel .claimWaitTimerExpiry).onNums fun n =>
    { n with link := none, frame := .none, run := 0, wait := some Config.claimWaitMs }

/-- Every condition of R144 holds but, perhaps, that the Next Number is below 16,777,215. -/
def claimDue (s : State) : Bool :=
  s.isActive && !s.nums.waiting.isEmpty && s.nums.link.isNone && s.nums.wait.isNone

/-- The claim for the Next Number is placed in the Control Queue (R144, R129). -/
def placeClaim (s : State) : State :=
  let ok := s.bus.accepts
  let n := s.nums.next
  let s := (s.onNums fun x => { x with link := some (n, true), frame := .queued }).place
    Config.allStations (.numberClaim n)
  if ok then s else s.claimAbandoned

/-- The station is out of numbers: the event is raised once (R149). -/
def exhaust (s : State) : State :=
  if s.nums.exhausted then s
  else (s.onNums fun n => { n with exhausted := true }).raise (.exhausted s.nums.next)

/-- Make a claim if R144 allows (R144, R149). -/
def makeClaim (s : State) : State :=
  if s.claimDue then
    if s.nums.next < Config.lastNumber then s.placeClaim else s.exhaust
  else s

/-- The claim ends without a wait: withdrawn, or completed (R145, R146). -/
def endClaim (s : State) : State := s.onNums fun n => { n with link := none, frame := .none }

/-- The Pool Protocol Unit's answer when its Number Claim is about to start (R145): the state after
it, and whether the attempt goes ahead. Withdrawing the frame itself is the link's. R145 returns the
withdrawal run to 0 whenever an attempt goes ahead, and the worked example of section 7.8 keeps it through
one; the model follows R145 (DEDUCED, log 36). -/
def consultClaim (s : State) : State × Bool :=
  if s.nums.waiting.isEmpty then (s.endClaim, false)
  else if s.nums.link.any (·.2) then
    (s.onNums fun n => { n with run := 0, frame := .current }, true)
  else if s.nums.run + 1 < 8 then
    ((s.endClaim.onNums fun n => { n with run := n.run + 1 }).makeClaim, false)
  else (s.claimAbandoned, false)

/-- The head of the pending-number list takes a number and opens its objection window; a CLOSED letter
joins the Delivery Queue, and the engine looks (R146, R29, R174). The head takes the number of a claim that
completed as R146 gives it, whatever the claim link's validity and whatever entry carries the number by then:
R29 and R141 say that no second entry gets it, and no rule says what to do where a transfer's entry got it
while the claim was on the bus (DEDUCED, log 42). -/
def assignNumber (s : State) (number : Nat) : State :=
  match s.nums.waiting with
  | [] => s
  | i :: rest =>
      let s := s.onLetter i fun x => { x with number := number }
      let s := s.onNums fun n =>
        { n with waiting := rest, window := n.window ++ [⟨number, i, Config.objectionUnits⟩] }
      when (s.stateOf i == some .closed) (·.look) s

/-- The letter of an objection window entry can give its number back (R29). -/
def givesBack (s : State) (i : LetterIx) : Bool :=
  s.letters[i].any fun x =>
    match x.state with
    | .open | .held => true
    | .closed => x.progress.isNone
    | _ => false

/-- A number is taken back: the letter's number is 0, and it heads the pending-number list (R29). -/
def takeBack (s : State) (i : LetterIx) : State :=
  (s.onLetter i fun x => { x with number := 0 }).onNums fun n => { n with waiting := i :: n.waiting }

/-- An objection is counted as ignored (R152). -/
def ignoreObjection (s : State) : State :=
  s.count fun c => { c with objectionsIgnored := c.objectionsIgnored + 1 }

/-- An objection that names this station for a number (R152). -/
def objectedTo (s : State) (sender : Station) (number : Nat) : State :=
  match s.nums.window.find? (·.number == number) with
  | none => s.ignoreObjection.raise (.objection number sender .tooLate)
  | some e =>
      let t := s.onNums fun n => { n with window := n.window.filter (·.number ≠ number) }
      if s.givesBack e.letter then
        (t.takeBack e.letter).makeClaim.raise (.objection number sender .takenBack)
      else t.ignoreObjection.raise (.objection number sender .refused)

/-! ### Beacons (R134, R135) -/

/-- How many letters are in one of the given states. -/
def countIn (s : State) (states : List LetterState) : Nat :=
  s.letters.toList.countP fun x => x.any fun y => states.contains y.state

/-- The caution flag of a Beacon built now (R122, R135); a free value while DETACHED (log 6). -/
def cautionFlag (s : State) : Bool :=
  match s.bus.link.state with
  | .normal => false
  | .caution | .muted => true
  | .detached => Config.detachedCaution s.freeIdx

/-- The Beacon as it is built now (R135). -/
def beaconBody (s : State) : BeaconBody where
  cls := .squeeze
  state := 2
  caution := s.cautionFlag
  next := s.nums.next
  capacity := s.seg.free
  held := s.countIn [.held]
  closed := s.countIn [.closed, .delivering, .suspended, .stranded]
  seconds := s.bus.ctl.seconds.toNat

/-- Place a Beacon in the slot, in place of one that waits there; a free value used is used up
(R130, R134). -/
def placeBeacon (s : State) : State :=
  let body := s.beaconBody
  { s.onBus (Bus.onLink fun k => { k with beacon := some body }) with
    freeIdx := s.freeIdx + (if s.isDetached then 1 else 0) }

/-! ### The event destination (R198) -/

/-- The lowest-numbered present console station. -/
def consoleOf (peers : List Peer) : Option Station :=
  ((peers.filter fun p => p.present && p.cls == .console).map (·.station)).min?

/-- Station Control chooses the event destination again (R198). -/
def chooseConsole (s : State) : State :=
  s.onBus fun b => { b with ctl := { b.ctl with eventDest := consoleOf s.peers } }

end State

end Sys2Proof.Machine
end

