-- ==== Sys2Proof/Machine/TransferOps.lean ====
section
/-! DEFINITION. The transfer engine: locating, picking, asking, the outgoing stream, repacking the
incoming one, settling, and what ends a transfer (R33, R34, R77 to R79, R154 to R171, R206). -/

namespace Sys2Proof.Machine

/-! ### Locating and picking (R155, R157, R77) -/

/-- What a collection gives its line (R157). -/
inductive Pick where
  | none
  | own (letter : LetterIx)
  | remote (station : Station) (number : Nat)
deriving DecidableEq, Repr

/-- A pair ranks before another: the higher number, then the lower station (R157). -/
def ranksBefore (p q : Station × Nat) : Bool :=
  q.2 < p.2 || (p.2 == q.2 && p.1 ≤ q.1)

/-- A pair put in its place in a ranking. -/
def rankInsert (p : Station × Nat) : List (Station × Nat) → List (Station × Nat)
  | [] => [p]
  | q :: rest => if ranksBefore p q then p :: q :: rest else q :: rankInsert p rest

/-- The ranking of collected pairs (R157). -/
def ranking (pairs : List (Station × Nat)) : List (Station × Nat) :=
  pairs.foldl (fun acc p => rankInsert p acc) []

/-- Pairs joined by a pair that is not there already (R157). -/
def addPair (pairs : List (Station × Nat)) (p : Station × Nat) : List (Station × Nat) :=
  if pairs.contains p then pairs else pairs ++ [p]

/-- A letter's fields at creation (R2). -/
def Letter.new (number author : Nat) (state : LetterState) (line : Option LineNo)
    (partner : Option Station) : Letter where
  number := number
  author := author
  state := state
  line := line
  priority := .normal
  unfinished := false
  instrNext := false
  mode := .insert
  cursor := 0
  chain := []
  passCount := 0
  pass := none
  held := none
  attempts := 0
  partner := partner
  progress := none

/-! ### The outgoing stream (R159, R161) -/

/-- As many whole items in full form as fit in `room` bytes: their bytes and number (R161). -/
def packItems : Nat → List Item → List Byte × Nat
  | _, [] => ([], 0)
  | room, it :: rest =>
      if it.bytes.length ≤ room then
        let p := packItems (room - it.bytes.length) rest
        (it.bytes ++ p.1, p.2 + 1)
      else ([], 0)

/-! ### Reading items (R202, R206) -/

/-- An item of a Transfer Data frame. -/
inductive RxItem where
  | header (pass count : Nat) (kind : RecKind)
  | voiced (bytes : List Byte)
  | silence (count : Nat)
deriving DecidableEq, Repr

/-- The first item of a payload and the bytes after it; none where it is malformed (R206). -/
def readItem (bytes : List Byte) : Option (RxItem × List Byte) :=
  match bytes with
  | [] => none
  | head :: rest =>
      match itemKind head with
      | .voiced =>
          (headTier head).bind fun tier =>
            if head.getLsbD 2 = false ∧ tier.stored ≤ bytes.length ∧ (rest.headD 0#8).toNat ≤ 63 then
              some (.voiced (bytes.take tier.stored), bytes.drop tier.stored)
            else none
      | .silence =>
          match rest with
          | n :: rest => if 1 ≤ n.toNat ∧ n.toNat ≤ 250 then some (.silence n.toNat, rest) else none
          | [] => none
      | .header =>
          match rest with
          | pass :: count :: rest =>
              some (.header pass.toNat count.toNat (if head.getLsbD 0 then .instruction else .dictation), rest)
          | _ => none
      | .unknown => none

/-- The items that fill a payload exactly; none where it is malformed (R206). -/
def readItems : Nat → List Byte → Option (List RxItem)
  | _, [] => some []
  | 0, _ :: _ => none
  | fuel + 1, b :: bytes =>
      (readItem (b :: bytes)).bind fun x => (readItems fuel x.2).map (x.1 :: ·)

/-- The slices of an item. -/
def RxItem.span : RxItem → Nat
  | .header .. => 0
  | .voiced _ => 1
  | .silence n => n

/-- The bytes an item brings into the running check (R162). A silence item's unassigned bits are not read
(R199): it is checked, and written, as the record of its count that a giver sends (DEDUCED, log 40). -/
def RxItem.checkBytes : RxItem → List Byte
  | .header .. => []
  | .voiced bytes => bytes
  | .silence n => silenceRecord n

/-- An item is a record header. -/
def RxItem.isHeader : RxItem → Bool
  | .header .. => true
  | _ => false

/-- The bytes a block holds after slice items join it (R39, R163): from the bytes used and whether it
ends with silence. -/
def bytesAfter : Nat → Bool → List RxItem → Nat
  | used, _, [] => used
  | used, _, .voiced bytes :: rest => bytesAfter (used + bytes.length) false rest
  | used, silent, .silence _ :: rest => bytesAfter (if silent then used else used + 2) true rest
  | used, silent, .header .. :: rest => bytesAfter used silent rest

/-- What a well-formed frame writes: the header of its record, and its slice items (R163, R206). -/
structure Repack where
  header : RepackHeader
  slices : List RxItem
deriving DecidableEq, Repr

/-- A header within the limits of the snapshot (R163). -/
def headerFits (snap : Snapshot) (record pass count : Nat) : Bool :=
  1 ≤ pass && pass ≤ snap.passCount && 1 ≤ count && count ≤ 250 && record < snap.records

/-- The header a frame's items belong to, and the slice items: a frame at slice index 0 brings its
header first, any other frame brings none (R163). -/
def splitItems (snap : Snapshot) (inc : Incoming) (items : List RxItem) : Option Repack :=
  if inc.slice = 0 then
    match items with
    | .header pass count kind :: rest =>
        if headerFits snap inc.record pass count = true ∧ rest.all (!·.isHeader) = true then
          some ⟨⟨pass, count, kind⟩, rest⟩
        else none
    | _ => none
  else if items.all (!·.isHeader) = true then inc.header.map fun h => ⟨h, items⟩
  else none

namespace State

/-- The line hears Refused and is in SELECT (R77, R78, R79). -/
def backToSelect (s : State) (l : LineNo) : State := (s.goto l .select).prompt l .refused

/-- A letter lands on a line in READY with the Ready prompt (R34, R78). -/
def landOn (s : State) (l : LineNo) (i : LetterIx) : State :=
  (((s.onLine l fun c => { c with fetchRef := none, waitTimer := none }).attachLetter i l)).prompt l .ready

/-! ### What the incoming transfer's end does (R167) -/

/-- Seal the blocks a letter is filling (R40). -/
def sealOwned (s : State) (i : LetterIx) : State :=
  sealAll ((s.seg.blocks.filter fun b => b.owner == i && b.filler.isSome).map (·.num)) s

/-- The incoming transfer ends: no transfer, the reservation 0 (R48). -/
def endIncoming (s : State) : State :=
  (s.onXfer fun x => { x with incoming := none }).onSeg fun g => { g with reservation := 0 }

/-- Place a Fetch Cancel when there is a reason for one (R167). -/
def placeCancel (s : State) (giver : Station) (number : Nat) : Option CancelReason → State
  | some r => s.place giver (.fetchCancel number r)
  | none => s

/-- The fetching line of an entry is told that the transfer failed (R78). -/
def tellFailed (s : State) (i : LetterIx) : State :=
  match s.fetchingLine i with
  | some l =>
      (s.onLine l fun c => { c with fetchRef := none, waitTimer := none }).backToSelect l
  | none => s

/-- The incoming transfer fails (R167). The line is told from the lines as they stand before the
entry is freed. -/
def incomingFail (s : State) (cancel : Option CancelReason) (why : TransferReason) : State :=
  match s.xfer.incoming with
  | none => s
  | some inc =>
      (((((s.freeLetter inc.letter).endIncoming).tellFailed inc.letter).raise
        (.transferCancelled inc.number inc.giver why)).placeCancel inc.giver inc.number cancel)

/-! ### Picks (R77, R158) -/

/-- A remote pick that may ask for the letter: the FREE entry it takes (R158). -/
def fetchEntry (s : State) (st : Station) (number : Nat) : Option LetterIx :=
  if s.xfer.incoming.isSome || (s.findNumber number).isSome || !s.isPresent st then none
  else s.freeEntry

/-- Ask a giver for a letter (R158, R33). -/
def startFetch (s : State) (l : LineNo) (st : Station) (number author : Nat) : State :=
  match s.fetchEntry st number with
  | none => s.backToSelect l
  | some i =>
      let name := s.streamId
      let s := { s with streamId := name + 1 }
      let s := (s.setLetter i (some (.new number author .transitIn none (some st)))).raiseNext (number + 1)
      let s := s.onXfer fun x =>
        { x with incoming := some ⟨i, number, st, none, 0, 0, none, crc32Start, Config.acceptMs, name⟩ }
      let s := (s.cancel .acceptTimerExpiry).onLine l fun c => { c with state := .fetch, fetchRef := some i }
      let ok := s.bus.accepts
      let s := s.onBus (Bus.place ⟨st, .fetch number author, name⟩)
      if ok then s else s.incomingFail (some .timeout) .timeout

/-- A line acts on a pick (R77). -/
def actOnPick (s : State) (l : LineNo) (author : Nat) : Pick → State
  | .none => s.backToSelect l
  | .own i => if s.stateOf i = some .held then s.landOn l i else s.backToSelect l
  | .remote st number => s.startFetch l st number author

/-- A pick is handed to the line: one that is not for its locate in progress is discarded (R77). -/
def givePick (s : State) (c : Collection) (p : Pick) : State :=
  if s.lines[c.line].locate = some c.tag then
    (s.onLine c.line fun x => { x with locate := none }).actOnPick c.line c.author p
  else s

/-- A collection leaves the engine. -/
def dropCollection (s : State) (c : Collection) : State :=
  s.onXfer fun x => { x with collections := x.collections.filter (· ≠ c) }

/-- A QUEUED collection ends without a pick: its Locate was abandoned or dropped, or did not complete in
time (R155). -/
def endQueued (s : State) (tag : BitVec 8) : State :=
  match s.xfer.collections.find? fun c => c.tag == tag && !c.collecting with
  | some c => (s.dropCollection c).givePick c .none
  | none => s

/-- A line asks for the k-th most recent held letter of its author (R76, R155). -/
def requestLocate (s : State) (l : LineNo) (author k : Nat) : State :=
  let tag := s.xfer.nextTag
  let s := ((s.cancel (.locateQueuedTimeout l)).cancel (.collectionWindowExpiry l)).onXfer fun x =>
    { x with
      collections := x.collections.filter (·.line ≠ l) ++ [⟨l, tag, author, k, false, Config.locateQueuedMs, []⟩]
      nextTag := tag + 1 }
  let s := s.onLine l fun c => { c with state := .locate, locate := some tag, digitTimer := none }
  let ok := s.bus.accepts
  let s := s.place Config.allStations (.locate author k tag)
  if ok then s else s.endQueued tag

/-- The numbers of the HELD letters of an author that have one (R156, R157). -/
def heldNumbers (s : State) (author : Nat) : List Nat :=
  s.letters.toList.filterMap fun x => x.bind fun y =>
    if y.state = .held ∧ y.author = author ∧ y.number ≠ 0 then some y.number else none

/-- The pick of a collection whose window has run out (R157). -/
def pickOf (s : State) (c : Collection) : Pick :=
  let own := s.bus.ctl.number.getD 0
  let pairs := ((s.heldNumbers c.author).map fun n => (own, n)).foldl addPair c.pairs
  match (ranking pairs)[c.k - 1]? with
  | none => .none
  | some (st, n) =>
      if st = own then
        match s.findNumber n with
        | some i => .own i
        | none => .none
      else .remote st n

/-! ### The giver (R159, R161, R165, R168, R169) -/

/-- The snapshot of a letter (R159). -/
def snapshotOf (s : State) (x : Letter) : Snapshot where
  number := x.number
  author := x.author
  priority := x.priority
  mode := x.mode
  instrNext := x.instrNext
  cursor := x.cursor
  length := x.length
  passCount := x.passCount
  records := x.chain.length
  bytes := (x.chain.map s.seg.recordBytes).sum
  blocks := (x.chain.map fun r => (s.seg.recordBytes r + 1023) / 1024).sum

/-- Change the outgoing transfer. -/
def onOutgoing (s : State) (f : Outgoing → Outgoing) : State :=
  s.onXfer fun x => { x with outgoing := x.outgoing.map f }

/-- Withdraw the offered transfer frame (R131). -/
def withdrawTransfer (s : State) : State :=
  s.onBus (Bus.onLink fun k => { k with offTransfer := none })

/-- A Transfer Check is made, or put off while the partner is absent or the own link DETACHED (R169,
log 17). -/
def makeCheck (s : State) : State :=
  let s := s.cancel .checkTimerExpiry
  match s.xfer.outgoing with
  | none => s
  | some o =>
      if s.isDetached = false ∧ s.isPresent o.taker = true then
        (s.onOutgoing fun x => { x with timer := some Config.checkMs, outstanding := true }).place
          o.taker (.transferCheck o.number)
      else s.onOutgoing fun x => { x with timer := some Config.checkMs }

/-- The outgoing transfer halts (R168). -/
def haltOutgoing (s : State) : State :=
  (s.onOutgoing fun x => { x with phase := .halted }).withdrawTransfer

/-- A stream frame of the named transfer was abandoned: it halts, and a Transfer Check is made (R168,
R169). -/
def transferAbandoned (s : State) (name : Nat) : State :=
  if s.xfer.outgoing.any (·.name == name) then s.haltOutgoing.makeCheck else s

/-- The frame of the outgoing transfer that starts at its resume cursor (R161). -/
def transferFrame (s : State) (o : Outgoing) (x : Letter) : QFrame :=
  match x.chain[o.record]? with
  | some r =>
      let head := if o.slice = 0 then headerItem r.pass r.count r.kind else []
      let p := packItems (241 - head.length) (s.seg.items r o.slice)
      ⟨o.taker, .transferData
        ⟨x.number, o.record, o.slice, p.2 + (if o.slice = 0 then 1 else 0), head ++ p.1⟩, o.name⟩
  | none => ⟨o.taker, .transferEnd x.number (crc32Final o.crc), o.name⟩

/-- Offer the frame at the resume cursor (R161). -/
def offerTransfer (s : State) : State :=
  match s.xfer.outgoing with
  | none => s
  | some o =>
      match s.letters[o.letter] with
      | none => s
      | some x => s.onBus (Bus.onLink fun k => { k with offTransfer := some (s.transferFrame o x) })

/-- The outgoing transfer streams from its resume cursor (R161, R169). -/
def startStream (s : State) : State :=
  (s.onOutgoing fun x => { x with phase := .streaming }).offerTransfer

/-- The outgoing transfer is over. -/
def endOutgoing (s : State) : State := (s.onXfer fun x => { x with outgoing := none }).withdrawTransfer

/-- A HELD letter is lent out to the sender of a Fetch (R159, R32). -/
def lendLetter (s : State) (i : LetterIx) (x : Letter) (taker : Station) : State :=
  let name := s.streamId
  let snap := s.snapshotOf x
  let s := { s with streamId := name + 1 }
  let s := s.onLetter i fun y => { y with state := .transitOut, held := none, partner := some taker }
  let s := s.onXfer fun e =>
    { e with outgoing := some ⟨i, x.number, taker, .accepted, 0, 0, crc32Start, none, false, name⟩ }
  let ok := s.bus.accepts
  let s := s.onBus (Bus.place ⟨taker, .fetchAccept snap, name⟩)
  if ok then s else s.transferAbandoned name

/-- The giver's letter is let go: it is freed, the pair joins the Recent Release list, and Released is
answered (R165). -/
def releaseLetter (s : State) (i : LetterIx) (number : Nat) (taker : Station) : State :=
  let s := (s.freeLetter i).endOutgoing
  let s := s.onXfer fun x =>
    { x with releases :=
        (if x.releases.length < 8 then x.releases else x.releases.drop 1) ++ [(number, taker)] }
  s.place taker (.released number)

/-- The giver's letter returns to HELD, and the outgoing transfer ends (R32, R167). -/
def returnHeld (s : State) (i : LetterIx) : State := (s.holdLetter i).endOutgoing

/-- The TRANSIT-OUT letter of a number lent to a station. -/
def lentTo (s : State) (number : Nat) (st : Station) : Option LetterIx :=
  (s.findNumber number).filter fun i =>
    s.letters[i].any fun x => x.state == .transitOut && x.partner == some st

/-! ### Repacking (R163) -/

/-- Write one slice item into the block of a repacked record, and grow or place the record (R163). -/
def writeItem (s : State) (i : LetterIx) (b : Nat) (h : RepackHeader) (first : Bool) (it : RxItem) : State :=
  let s := match it with
    | .header .. => s
    | .voiced bytes => s.onSeg (·.appendVoiced b bytes)
    | .silence n => s.onSeg fun g => (List.range n).foldl (fun g _ => g.appendSilence b) g
  if first then
    when (s.letters[i].isSome) (fun s =>
      ((s.onLetter i fun x => { x with chain := x.chain ++ [⟨b, 0, it.span, h.pass, h.kind⟩] }).onSeg
        (Segment.takeRecords 1)).incRef b) s
  else
    s.onLetter i fun x =>
      match x.chain.getLast? with
      | some r => { x with chain := x.chain.dropLast ++ [{ r with count := r.count + it.span }] }
      | none => x

/-- Write slice items in order (R163). -/
def writeItems (i : LetterIx) (b : Nat) (h : RepackHeader) : Bool → List RxItem → State → State
  | _, [], s => s
  | first, it :: rest, s => writeItems i b h false rest (s.writeItem i b h first it)

/-- Write a frame's slice items into its record's block, and move the expected position (R163). -/
def repackInto (s : State) (inc : Incoming) (b : Nat) (p : Repack) : State :=
  let s := writeItems inc.letter b p.header (inc.slice == 0) p.slices s
  let written := inc.slice + (p.slices.map RxItem.span).sum
  let full := decide (p.header.count ≤ written)
  let s := s.onXfer fun x =>
    { x with incoming := x.incoming.map fun c =>
        { c with
          record := if full then c.record + 1 else c.record
          slice := if full then 0 else written
          header := if full then none else some p.header
          crc := p.slices.foldl (fun k it => crc32 k it.checkBytes) c.crc } }
  when full (·.sealBlock b) s

/-- The block a frame at a slice index above 0 goes on filling: that of the last record (R163). -/
def repackBlock (s : State) (i : LetterIx) : Option Block :=
  (s.letters[i].bind (·.chain.getLast?)).bind fun r => s.seg.find r.block

/-- A frame's items, checked whole (R163, R206); none where the frame is malformed. -/
def checkItems (s : State) (snap : Snapshot) (inc : Incoming) (d : DataBody) : Option Repack :=
  (readItems d.bytes.length d.bytes).bind fun items =>
    if items.length ≠ d.items then none
    else if items.isEmpty then some ⟨inc.header.getD ⟨0, Config.blockSlices + 1, .dictation⟩, []⟩
    else
      (splitItems snap inc items).bind fun p =>
        let here := if inc.slice = 0 then none else s.repackBlock inc.letter
        let used := match here with
          | some x => (x.bytes, (s.seg.trailingSilence x).isSome)
          | none => (0, false)
        if p.header.count < inc.slice + (p.slices.map RxItem.span).sum then none
        else if Config.blockBytes < bytesAfter used.1 used.2 p.slices then none
        else some p

/-- Write a checked frame, or fail for lack of memory (R163). The incoming transfer has at most one
FILLING block (R37): one that a header alone left behind is sealed, and so freed, first (log 18). -/
def repack (s : State) (inc : Incoming) (d : DataBody) (p : Repack) : State :=
  if d.items = 0 then s
  else if inc.slice = 0 then
    let s := s.sealOwned inc.letter
    if 0 < s.seg.poolFree ∧ s.transferMayTake = true then
      let b := Segment.lowestFrom 0 s.seg.blocks
      (s.chargeTransfer.giveBlock inc.letter .transfer p.header.pass 0).repackInto inc b p
    else s.incomingFail (some .noMemory) .noMemory
  else
    match s.repackBlock inc.letter with
    | some x => s.repackInto inc x.num p
    | none => s

/-- A position lies before another in a chain. -/
def positionBefore (r k r' k' : Nat) : Bool := r < r' || (r == r' && k < k')

/-- The receive timer starts again (R163). -/
def restartReceive (s : State) : State :=
  (s.cancel .receiveTimerExpiry).onXfer fun x => { x with incoming := x.incoming.map fun c => { c with timer := Config.receiveMs } }

/-- The taker takes a Transfer Data frame of its incoming transfer in RECEIVING (R163). -/
def takeData (s : State) (snap : Snapshot) (inc : Incoming) (d : DataBody) : State :=
  if positionBefore inc.record inc.slice d.record d.slice then s.incomingFail (some .check) .check
  else
    let s := s.restartReceive
    if positionBefore d.record d.slice inc.record inc.slice then s
    else
      match s.checkItems snap inc d with
      | none => s.incomingFail (some .check) .check
      | some p => s.repack inc d p

/-! ### Settling (R164, R166, R33) -/

/-- The line that takes the offer to attach a settled letter (R78). -/
def attachingLine (s : State) (i : LetterIx) : Option LineNo :=
  (s.fetchingLine i).filter fun l => s.lines[l].attached.isNone

/-- A letter of the settling list settles: OPEN on the line that waits for it, or HELD (R166, R33). -/
def settle (s : State) (e : Settle) : State :=
  let s := s.onXfer fun x => { x with settling := x.settling.filter (·.letter ≠ e.letter) }
  match s.attachingLine e.letter with
  | some l => s.landOn l e.letter
  | none => s.holdLetter e.letter

/-- The settling entry of a number from a giver. -/
def settlingOf (s : State) (number : Nat) (giver : Station) : Option Settle :=
  s.xfer.settling.find? fun e => e.number == number && e.giver == giver

/-- A good Transfer End (R164, R33, R79). -/
def finishIncoming (s : State) (inc : Incoming) (snap : Snapshot) : State :=
  let s := (s.sealOwned inc.letter).endIncoming
  let s := s.onLetter inc.letter fun x =>
    { x with state := .settling, cursor := min snap.cursor x.length }
  let s := (s.cancel (.takeTimerExpiry inc.number)).onXfer fun x =>
    { x with settling := x.settling ++ [⟨inc.letter, inc.number, inc.giver, Config.takeMs⟩] }
  let s := s.place inc.giver (.take inc.number)
  match s.fetchingLine inc.letter with
  | some l =>
      ((s.cancel (.waitTimerExpiry l)).onLine l fun c =>
        { c with waitTimer := some Config.waitMs }).prompt l .wait
  | none => s

/-! ### A seen restart of the partner (R170) -/

/-- At the giver: the letter lent to a restarted station returns to HELD. -/
def restartAtGiver (s : State) (st : Station) : State :=
  match s.xfer.outgoing with
  | some o => if o.taker = st then s.returnHeld o.letter else s
  | none => s

/-- At the taker: a transfer from a restarted giver fails. -/
def restartAtTaker (s : State) (st : Station) : State :=
  if s.xfer.incoming.any (·.giver == st) then s.incomingFail none .partnerRestarted else s

/-- A restart of a station resolves every transfer with it (R170). -/
def partnerRestart (s : State) (st : Station) : State :=
  let s := (s.restartAtGiver st).restartAtTaker st
  (s.xfer.settling.filter (·.giver == st)).foldl settle s

end State

end Sys2Proof.Machine
end

