-- ==== Sys2Proof/Machine/LinkOps.lean ====
section
/-! DEFINITION. The Link Unit's shared operations: faults, detaching, telling owners, the transmit
arbiter, starting a frame and ending one (R110 to R131). -/

namespace Sys2Proof.Machine

namespace Bus

/-- The bus view changes. -/
def view (v : BusView) (b : Bus) : Bus := b.onLink fun k => { k with view := v }

/-- The station drives nothing and follows no frame. -/
def quiet (b : Bus) : Bus :=
  b.onLink fun k => { k with sending := false, tx := [], rx := none, burst := 0, burstDelay := 0 }

/-- The effect of a first error on the bus side: ERROR WAIT, nothing decoded, and a burst if the link
state drives one, after `delay` bits (R119). -/
def errorWait (delay : Nat) (own : Bool) (b : Bus) : Bus :=
  b.quiet.onLink fun k =>
    { k with
      view := .errorWait
      wasOwn := own
      holdOff := if own then k.holdOff else none
      burst := if k.state.bursts then Config.burstBits else 0
      burstDelay := if k.state.bursts then delay else 0 }

/-- The bus view becomes IDLE; after a frame of this station's own, a MUTED link starts the hold-off
(R111, R122). -/
def idle (b : Bus) : Bus :=
  b.onLink fun k =>
    { k with
      view := .idle
      holdOff := if k.wasOwn = true ∧ k.state = .muted then some Config.holdOffBits else k.holdOff
      wasOwn := false }

/-- The bits between the bit an error is detected at and the burst: for a check error the acknowledge
slot, and before it the inserted bit that a run of 7 at the check's end brings (R114, R119). -/
def burstDelayOf (rx : Option Scan) (kinds : List ErrKind) : Nat :=
  if kinds.contains .check then (if rx.any (·.inserted) then 2 else 1) else 0

end Bus

namespace State

/-- A stream frame given back as not sent, and a Beacon dropped, at DETACHED; a Control Queue frame
stays current (R123). -/
def detachCurrent (c : Current) : Option Current :=
  match c.source with
  | .control => some c
  | .beacon | .transfer | .delivery => none

/-- What the link itself does on entry into DETACHED (R123). -/
def detachLink (k : Link) : Link :=
  { k with
    view := if k.view = .inFrame then .errorWait else k.view
    recoveryRuns := 0
    recessiveRun := 0
    holdOff := none
    current := k.current.bind detachCurrent
    offTransfer := none
    offDelivery := none
    sending := false
    tx := []
    rx := if k.view = .inFrame then none else k.rx
    burst := 0
    burstDelay := 0 }

/-- The outgoing transfer halts at a detach: in ACCEPTED or STREAMING, and in ENDED with a Transfer
Check outstanding (R168). -/
def haltsAtDetach (o : Outgoing) : Bool :=
  match o.phase with
  | .accepted | .streaming => true
  | .ended => o.outstanding
  | .halted => false

/-- The link enters DETACHED, and the engines are told (R123, R168, R187). -/
def enterDetached (s : State) : State :=
  let s := (s.cancel .linkRecovery).onBus (Bus.onLink detachLink)
  let s := when (s.xfer.outgoing.any haltsAtDetach) (·.haltOutgoing) s
  s.abortSuspended.abortActive

/-- The fault count takes a new value, with all that follows from the link state (R121 to R123). -/
def setFault (s : State) (n : Nat) : State :=
  let t := s.onBus (Bus.setFault n)
  when (!s.isDetached && t.isDetached) (·.enterDetached) t

/-- The fault count rises, and falls (R121). -/
def faultRises (s : State) (n : Nat) : State := s.setFault (faultUp n s.bus.link.fault)
def faultFalls (s : State) : State := s.setFault (faultDown s.bus.link.fault)

/-! ### Telling owners (R128, R129) -/

/-- The active delivery is the named one. -/
def activeIs (s : State) (name : Nat) : Bool := s.deliv.active.any (·.name == name)

/-- The owner of an abandoned frame acts (R128, R147, R155, R167, R168, R177, R187). -/
def tellAbandoned (s : State) (q : QFrame) : State :=
  match q.msg with
  | .numberClaim _ => s.claimAbandoned
  | .locate _ _ tag => s.endQueued tag
  | .fetch .. =>
      if s.xfer.incoming.any (·.name == q.owner) then s.incomingFail (some .timeout) .timeout else s
  | .fetchAccept _ | .transferData _ | .transferEnd .. => s.transferAbandoned q.owner
  | .offer _ =>
      if s.activeIs q.owner = true ∧ s.deliv.active.any (·.phase == .offered) = true then s.offerFailed else s
  | .letterData .. | .letterEnd .. => if s.activeIs q.owner then s.abortActive.afterEnd else s
  | _ => s

/-- The step a frame's owner takes when the frame completes (R116). -/
def completionOf (q : QFrame) : Option Instr :=
  match q.msg with
  | .numberClaim n => some (.numberClaimCompletes n)
  | .locate _ _ tag => some (.locateCompletes tag)
  | .fetchAccept _ => some (.fetchAcceptCompletes q.owner)
  | .offer _ => some (.offerCompletes q.owner)
  | .transferData d => some (.transferDataCompletes q.owner d)
  | .transferEnd .. => some (.transferEndCompletes q.owner)
  | .letterData _ _ _ d => some (.letterDataCompletes q.owner d)
  | .letterEnd .. => some (.letterEndCompletes q.owner)
  | _ => none

/-! ### Starting a frame (R115, R126, R127) -/

/-- A frame could start at this bit: the view IDLE, no hold-off, not DETACHED, nothing being sent, in
LISTEN or ACTIVE (R115, R126). -/
def canStart (s : State) : Bool :=
  s.isNumbered && s.bus.link.view == .idle && s.bus.link.holdOff.isNone && !s.isDetached && !s.bus.link.sending

/-- The delivery is the active one and its resume mark is set (R186). -/
def justResumed (s : State) (name : Nat) : Bool := s.deliv.active.any fun a => a.name == name && a.resume

/-- The offered delivery frame is ready: of another delivery than the last, past the pacing gap (R131), or
the first of a resumed delivery, which R131 and R186 hold back in no case, so that the model asks not
whether the urgent delivery completed a frame (DEDUCED, log 38). -/
def deliveryReady (s : State) (q : QFrame) : Bool :=
  match s.bus.link.lastDelivery with
  | some (name, elapsed) =>
      name != q.owner || s.bus.ctl.settings.pacingGap ≤ elapsed || s.justResumed q.owner
  | none => true

/-- A frame is a Settings Refused. -/
def isRefusal (q : QFrame) : Bool :=
  match q.msg with
  | .settingsRefused _ => true
  | _ => false

/-- The first ready frame, with its source, and the link without it (R126). -/
def arbiterTakes (s : State) : Option (Current × Link) :=
  let k := s.bus.link
  if s.isActive then
    match k.control, k.beacon, k.offTransfer, k.offDelivery.filter s.deliveryReady with
    | q :: rest, _, _, _ => some (⟨q, .control, 0⟩, { k with control := rest })
    | [], some b, _, _ => some (⟨⟨Config.allStations, .beacon b, 0⟩, .beacon, 0⟩, { k with beacon := none })
    | [], none, some q, _ => some (⟨q, .transfer, 0⟩, { k with offTransfer := none })
    | [], none, none, some q => some (⟨q, .delivery, 0⟩, { k with offDelivery := none })
    | [], none, none, none => none
  else
    (k.control.find? isRefusal).map fun q =>
      (⟨q, .control, 0⟩, { k with control := k.control.eraseP isRefusal })

/-- The station drives the start bit of its current frame (R115, R127). -/
def startFrame (s : State) (q : QFrame) : State :=
  let f := q.msg.toFrame (s.bus.ctl.number.getD 0) q.dest
  s.onBus (Bus.onLink fun k =>
    { k with view := .inFrame, sending := true, tx := f.wire, rx := some Scan.empty })

/-- A frame is the station's Number Claim, whose owner is consulted (R127). -/
def isClaim (q : QFrame) : Bool :=
  match q.msg with
  | .numberClaim _ => true
  | _ => false

/-- The current frame is removed. -/
def dropCurrent (s : State) : State := s.onBus (Bus.onLink fun k => { k with current := none })

/-- Consult the owner of a frame about to start: the state after it, and whether it starts (R127). -/
def consult (s : State) (q : QFrame) : State × Bool :=
  if isClaim q then
    let r := s.consultClaim
    (if r.2 then r.1 else r.1.dropCurrent, r.2)
  else (s, true)

/-- The arbiter chooses, consults and starts; after a withdrawal it chooses again at the same boundary
(R126, R127). The queue holds at most one claim, and the one made at a withdrawal is valid, so the fuel
of the queue's size is enough. -/
def choose : Nat → State → State
  | 0, s => s
  | fuel + 1, s =>
      match s.arbiterTakes with
      | none => s
      | some (c, k) =>
          let r := (s.onBus (Bus.onLink fun _ => { k with current := some c })).consult c.frame
          if r.2 then r.1.startFrame c.frame else choose fuel r.1

/-- The current frame starts again, unless its owner withdraws it; then the arbiter chooses (R127). -/
def reattempt (s : State) (c : Current) : State :=
  let r := s.consult c.frame
  if r.2 then r.1.startFrame c.frame else choose (Config.controlFrames + 2) r.1

/-! ### Ends of a frame (R116, R119, R121, R127, R128) -/

/-- The frame the station is sending; an UNNUMBERED station sends none (R117). -/
def sendingNow (s : State) : Option Current :=
  if s.isNumbered && s.bus.link.sending then s.bus.link.current else none

/-- A station that can follow another station's frame: it has a number, sends nothing, and its view is
IDLE (the start bit comes now) or IN FRAME (R111, R117). -/
def canFollow (s : State) : Bool :=
  s.isNumbered && !s.bus.link.sending && (s.bus.link.view == .idle || s.bus.link.view == .inFrame)

/-- The frame sent has completed: it stops being current, the view is IDLE, a delivery frame is noted
(R116, R131). -/
def frameDone (s : State) (c : Current) : State :=
  ((s.cancel .holdOffExpiry).onBus fun b => (b.quiet.onLink fun k =>
    { k with
      current := none
      wasOwn := true
      lastDelivery := if c.source = .delivery then some (c.frame.owner, 0) else k.lastDelivery }).idle)

/-- The failed attempt is the 16th: the frame is abandoned and its owner told (R128). -/
def abandonCurrent (s : State) (q : QFrame) : State :=
  (s.dropCurrent.onBus (Bus.abandon q)).tellAbandoned q

/-- A failed attempt is counted (R127). -/
def countAttempt (s : State) (c : Current) : State :=
  if c.fails + 1 < Config.frameAttempts then
    s.onBus (Bus.onLink fun k => { k with current := some { c with fails := c.fails + 1 } })
  else s.abandonCurrent c.frame

/-- The row a received frame starts, if it is handed up (R116, R204, R205). -/
def handsUp (s : State) (f : Frame) : Option Instr :=
  let dest := f.dest.toNat
  if (some dest = s.bus.ctl.number ∨ dest = Config.allStations) ∧ f.cls ≠ 5#3 ∧ f.cls ≠ 6#3 then
    f.read.bind fun m => m.row f.sender.toNat dest
  else none

/-- Report steps, in order. -/
def reportAll (s : State) (is : List Instr) : State := { s with reports := s.reports ++ is }

/-- Report a step, if there is one. -/
def reportSome (s : State) : Option Instr → State
  | some i => s.report i
  | none => s

end State

end Sys2Proof.Machine
end

