-- ==== Sys2Proof/Machine/LineOps.lean ====
section
/-! DEFINITION. The Line Unit and what it asks of the Letter Unit: keys in each line state, recording,
playback, winding, line clear (R1, R3, R11, R19 to R28, R66 to R90, R97 to R100). -/

namespace Sys2Proof.Machine

/-- The digit a key stands for (R73). -/
def keyDigit : Key → Option Digit
  | .k0 => some 0
  | .k1 => some 1
  | .k2 => some 2
  | .k3 => some 3
  | .k4 => some 4
  | .k5 => some 5
  | .k6 => some 6
  | .k7 => some 7
  | .k8 => some 8
  | .k9 => some 9
  | _ => none

/-- The key of a digit. -/
def digitKey (d : Digit) : Key :=
  match d with
  | 0 => .k0
  | 1 => .k1
  | 2 => .k2
  | 3 => .k3
  | 4 => .k4
  | 5 => .k5
  | 6 => .k6
  | 7 => .k7
  | 8 => .k8
  | 9 => .k9

/-- The wind key a key is (R81). -/
def keyWind : Key → Option Wind
  | .k4 => some .rewind
  | .k5 => some .forward
  | _ => none

/-- The key of a wind direction. -/
def windKey : Wind → Key
  | .rewind => .k4
  | .forward => .k5

/-- A cursor moved by `n` in a wind key's direction, clamped at 0 and at the length (R20). -/
def windCursor (w : Wind) (n cursor length : Nat) : Nat :=
  match w with
  | .rewind => cursor - n
  | .forward => min length (cursor + n)

/-- The author code that four digits make (R73). -/
def authorOf (digits : List Digit) : Nat := digits.foldl (fun v d => 10 * v + d.val) 0

namespace State

/-- The letter attached to a line (R5). -/
def lineLetter (s : State) (l : LineNo) : Option (LetterIx × Letter) :=
  s.lines[l].attached.bind fun i => s.letters[i].map fun x => (i, x)

/-- A key is refused: the Refused prompt, and nothing else (R71). -/
def refuse (s : State) (l : LineNo) : State := s.prompt l .refused

/-! ### AUTHOR and SELECT (R72, R73, R75) -/

/-- The line is at the beginning of AUTHOR with the Refused prompt (R73, R74). -/
def authorAgain (s : State) (l : LineNo) : State :=
  (s.onLine l fun c => { c with entry := [], digitTimer := none }).refuse l

/-- A digit in AUTHOR (R73). -/
def authorDigit (s : State) (l : LineNo) (d : Digit) : State :=
  if s.lines[l].entry.length < 4 then
    (s.cancel (.authorDigitTimeout l)).onLine l fun c =>
      { c with entry := c.entry ++ [d], digitTimer := some Config.authorDigitMs }
  else s.authorAgain l

/-- Key # in AUTHOR (R73). -/
def authorEnter (s : State) (l : LineNo) : State :=
  if s.lines[l].entry.length = 4 then
    (s.onLine l fun c =>
      { c with author := some (authorOf c.entry), entry := [], digitTimer := none, state := .select }).prompt l
        .accepted
  else s.authorAgain l

/-- A key in AUTHOR (R73). -/
def authorKey (s : State) (l : LineNo) (k : Key) : State :=
  match keyDigit k with
  | some d => s.authorDigit l d
  | none => if k = .hash then s.authorEnter l else s.authorAgain l

/-- Key A in SELECT: a new letter (R3, R75). -/
def newLetter (s : State) (l : LineNo) : State :=
  match s.freeEntry with
  | none => s.refuse l
  | some i =>
      let s := s.setLetter i (some (.new 0 (s.lines[l].author.getD 0) .open (some l) none))
      let s := s.onLine l fun c => { c with attached := some i, state := .ready }
      let s := s.onNums fun n => { n with waiting := n.waiting ++ [i] }
      let s := s.count fun c => { c with lettersOpened := c.lettersOpened + 1 }
      (s.prompt l .ready).makeClaim

/-- Key * in SELECT (R75). -/
def startSeek (s : State) (l : LineNo) : State :=
  ((s.cancel (.seekDigitTimeout l)).onLine l fun c =>
    { c with seek := none, state := .seek, digitTimer := some Config.seekDigitMs }).prompt l .accepted

/-- A key in SELECT (R75). -/
def selectKey (s : State) (l : LineNo) (k : Key) : State :=
  match k with
  | .kA => s.newLetter l
  | .star => s.startSeek l
  | _ => s.refuse l

/-! ### SEEK (R76) -/

/-- A key recognised in SEEK restarts the digit timer (R76). -/
def restartSeek (s : State) (l : LineNo) : State :=
  (s.cancel (.seekDigitTimeout l)).onLine l fun c => { c with digitTimer := some Config.seekDigitMs }

/-- A digit in SEEK (R76). -/
def seekDigit (s : State) (l : LineNo) (d : Digit) : State :=
  let s := s.restartSeek l
  if d ≠ 0 ∧ s.lines[l].seek = none then s.onLine l fun c => { c with seek := some d.val }
  else (s.onLine l fun c => { c with seek := none }).refuse l

/-- Key # in SEEK asks for a letter (R76). -/
def seekEnter (s : State) (l : LineNo) : State :=
  s.requestLocate l (s.lines[l].author.getD 0) (s.lines[l].seek.getD 1)

/-- A key in SEEK (R76). -/
def seekKey (s : State) (l : LineNo) (k : Key) : State :=
  match keyDigit k with
  | some d => s.seekDigit l d
  | none => if k = .hash then s.seekEnter l else (s.restartSeek l).refuse l

/-! ### READY: commands to the Letter Unit (R11, R19 to R26, R80) -/

/-- A pass starts (R11, R53, R85, R88). -/
def startPass (s : State) (l : LineNo) (i : LetterIx) : State :=
  let s := s.onLetter i fun x =>
    { x with
      passCount := x.passCount + 1
      pass := some ⟨x.passCount + 1, x.mode, if x.instrNext then .instruction else .dictation⟩
      instrNext := false }
  let s := s.onLine l fun c => { c with state := .recording, hold := [], autoRun := 0 }
  s.onCoder l fun _ => .reset

/-- The slice being sent is cut off (R66). -/
def cutOff (s : State) (l : LineNo) : State := s.onPort l fun p => { p with outbound := none }

/-- Record (R11): refused at pass count 255. -/
def record (s : State) (l : LineNo) (i : LetterIx) (x : Letter) : State :=
  if Config.lastPass ≤ x.passCount then s.refuse l else (s.cutOff l).startPass l i

/-- Playback ends: READY with the End prompt (R66). -/
def endPlayback (s : State) (l : LineNo) : State := (s.goto l .ready).prompt l .ending

/-- Play (R66, R80): with the cursor at the length it ends at once. -/
def play (s : State) (l : LineNo) (x : Letter) : State :=
  if x.length ≤ x.cursor then s.endPlayback l else s.goto l .playing

/-- The cursor moves (R20). -/
def moveCursor (s : State) (i : LetterIx) (f : Nat → Nat → Nat) : State :=
  s.onLetter i fun x => { x with cursor := f x.cursor x.length }

/-- The insert/overwrite toggle (R22). -/
def toggleMode (s : State) (i : LetterIx) : State :=
  s.onLetter i fun x => { x with mode := if x.mode = .insert then .overwrite else .insert }

/-- Instruction mark (R23). -/
def markInstruction (s : State) (i : LetterIx) : State := s.onLetter i fun x => { x with instrNext := true }

/-- The priority toggle (R24). -/
def togglePriority (s : State) (i : LetterIx) : State :=
  s.onLetter i fun x => { x with priority := if x.priority = .normal then .urgent else .normal }

/-- The line lets its letter go and is in SELECT with the Accepted prompt (R25, R26). -/
def letGo (s : State) (l : LineNo) : State := ((s.detachLine l).goto l .select).prompt l .accepted

/-- A letter becomes CLOSED without a line, and joins the Delivery Queue if it has a number (R25,
R174). -/
def closeLetter (s : State) (i : LetterIx) : State :=
  let s := s.onLetter i fun x => { x with state := .closed, line := none }
  when (s.letters[i].any (·.queued)) (·.look) s

/-- End of letter (R25). -/
def endLetter (s : State) (l : LineNo) (i : LetterIx) (x : Letter) : State :=
  if 0 < x.length then (s.letGo l).closeLetter i else (s.letGo l).freeLetter i

/-- Discard pass, with its prompt (R19, R80). -/
def discard (s : State) (l : LineNo) (i : LetterIx) (x : Letter) : State :=
  if x.chain.isEmpty then s.refuse l else (s.discardPass i x).prompt l .accepted

/-- Hold (R26). -/
def holdKey (s : State) (l : LineNo) (i : LetterIx) : State := (s.holdLetter i).letGo l

/-- The keys taken alike in READY and RECORDING: 6, 7 and 8 (R80, R82). -/
def markKey (s : State) (l : LineNo) (i : LetterIx) (k : Key) : State :=
  match k with
  | .k6 => (s.toggleMode i).prompt l .accepted
  | .k7 => (s.markInstruction i).prompt l .accepted
  | .k8 => (s.togglePriority i).prompt l .accepted
  | _ => s.refuse l

/-- A key in READY (R80). -/
def readyKey (s : State) (l : LineNo) (k : Key) : State :=
  match s.lineLetter l with
  | none => s.refuse l
  | some (i, x) =>
      match k with
      | .k1 => s.record l i x
      | .k3 => s.play l x
      | .k4 | .k5 => s
      | .k6 | .k7 | .k8 => s.markKey l i k
      | .kB => s.moveCursor i fun _ n => n
      | .k0 => s.moveCursor i fun _ _ => 0
      | .k9 => s.endLetter l i x
      | .kC => s.discard l i x
      | .kD => s.holdKey l i
      | .k2 | .kA | .star | .hash => s.refuse l

/-! ### RECORDING (R82, R86) -/

/-- The tone-touched entries of the Hold Buffer are discarded (R86). -/
def dropTouched (s : State) (l : LineNo) : State :=
  let n := (s.lines[l].hold.filter (·.toneTouched)).length
  (s.onLine l fun c => { c with hold := c.hold.filter (!·.toneTouched) }).count fun c =>
    { c with discardedTone := c.discardedTone + BitVec.ofNat 32 n }

/-- A key in RECORDING (R82). -/
def recordingKey (s : State) (l : LineNo) (k : Key) : State :=
  let s := s.dropTouched l
  match k with
  | .k2 | .k4 | .k5 => s.closePass l none
  | .k3 | .kB | .k0 | .k9 | .kC | .kD => (s.closePass l none).readyKey l k
  | .k6 | .k7 | .k8 =>
      match s.lineLetter l with
      | some (i, _) => s.markKey l i k
      | none => s.refuse l
  | .k1 | .kA | .star | .hash => s.refuse l

/-! ### PLAYING (R83) -/

/-- Playback stops, and the line is in READY (R83, R66). -/
def stopPlaying (s : State) (l : LineNo) : State := (s.cutOff l).goto l .ready

/-- A key in PLAYING (R83). -/
def playingKey (s : State) (l : LineNo) (k : Key) : State :=
  match k with
  | .k2 => s.stopPlaying l
  | .k9 | .kD => (s.stopPlaying l).readyKey l k
  | .k1 | .k4 | .k5 | .kB | .k0 | .kC => s.readyKey l k
  | .k3 | .k6 | .k7 | .k8 | .kA | .star | .hash => s.refuse l

/-! ### Key events (R71, R97 to R100) -/

/-- A key acts by the line's state (R71). -/
def keyActs (s : State) (l : LineNo) (k : Key) : State :=
  match s.lines[l].state with
  | .idle => s
  | .author => s.authorKey l k
  | .select => s.selectKey l k
  | .seek => s.seekKey l k
  | .ready => s.readyKey l k
  | .recording => s.recordingKey l k
  | .playing => s.playingKey l k
  | .locate | .fetch | .winding => s.refuse l

/-- The Tone Unit's context at a release (R98). -/
def toneReleased (s : State) (l : LineNo) : State :=
  s.onTone l fun t => { t with keyDown := none, heldMark := false, downRun := 0, gapRun := 0 }

/-- The line leaves WINDING for its return state; at the length, playback ends at once (R81). -/
def endWinding (s : State) (l : LineNo) : State :=
  match s.lines[l].ret with
  | some .playing =>
      let t := s.onLine l fun c => { c with state := .playing, ret := none, windTimer := none }
      if (t.lineLetter l).any fun p => p.2.length ≤ p.2.cursor then t.endPlayback l else t
  | _ => s.onLine l fun c => { c with state := .ready, ret := none, windTimer := none }

/-- A wind key's release: a short press in READY or PLAYING, or the end of winding (R81). -/
def windReleased (s : State) (l : LineNo) (w : Wind) (held : Bool) : State :=
  match s.lines[l].state with
  | .ready | .playing =>
      match s.lineLetter l with
      | some (i, _) => when (!held) (·.moveCursor i (windCursor w Config.shortPress)) s
      | none => s
  | .winding => s.endWinding l
  | _ => s

/-- A key is released: a key that is not down is ignored, and the line acts on it only if it took its
recognition (R71, R98). -/
def keyReleased (s : State) (l : LineNo) (k : Key) : State :=
  if s.tones[l].keyDown = some k then
    let held := s.tones[l].heldMark
    let s := s.toneReleased l
    if s.lines[l].key = some k then
      let s := s.onLine l fun c => { c with key := none }
      match keyWind k with
      | some w => s.windReleased l w held
      | none => s
    else s
  else s

/-- The Tone Unit's context at a recognition (R97), with the period's key mark (R84). -/
def toneRecognised (s : State) (l : LineNo) (k : Key) : State :=
  s.onTone l fun t =>
    { t with
      keyDown := some k
      heldMark := false
      downRun := 0
      gapRun := 0
      candidate := none
      candidateRun := 0
      keySeen := true }

/-- A key is recognised: a key still down is released first (R99, log 8), and in IDLE nothing acts
(R71). -/
def keyRecognised (s : State) (l : LineNo) (k : Key) : State :=
  let s := match s.tones[l].keyDown with
    | some old => s.keyReleased l old
    | none => s
  let s := s.toneRecognised l k
  if s.lines[l].state = .idle then s
  else (s.onLine l fun c => { c with key := some k }).keyActs l k

/-- Winding starts (R81). -/
def startWinding (s : State) (l : LineNo) (r : ReturnState) : State :=
  ((s.cancel (.windStep l)).onLine l fun c =>
    { c with state := .winding, ret := some r, windTimer := some Config.windMs }).cutOff l

/-- A key becomes held: the line winds on a wind key in READY or PLAYING (R81, R100). -/
def keyHeld (s : State) (l : LineNo) (k : Key) : State :=
  if s.tones[l].keyDown = some k ∧ s.tones[l].heldMark = false then
    let s := s.onTone l fun t => { t with heldMark := true, downRun := Config.heldSamples }
    if s.lines[l].key = some k ∧ (keyWind k).isSome = true then
      match s.lines[l].state with
      | .ready => s.startWinding l .ready
      | .playing => s.startWinding l .playing
      | _ => s
    else s
  else s

/-- One wind step (R20, R81). -/
def windStepNow (s : State) (l : LineNo) : State :=
  let s := s.onLine l fun c => { c with windTimer := some Config.windMs }
  match s.lineLetter l, s.lines[l].key.bind keyWind with
  | some (i, _), some w => s.moveCursor i (windCursor w Config.windStep)
  | _, _ => s

/-! ### Line-active (R69, R72, R89) -/

/-- A rise of line-active acts on an IDLE, enabled line of an ACTIVE station (R69, R72). -/
def riseLine (s : State) (l : LineNo) : State :=
  if s.isActive = true ∧ s.bus.ctl.settings.enables l = true ∧ s.lines[l].state = .idle then
    (s.onLine l fun c => { c with state := .author, entry := [] }).prompt l .ready
  else s

/-- The attached letter of a cleared line becomes HELD (R28). -/
def holdAttached (s : State) (l : LineNo) : State :=
  match s.lines[l].attached with
  | some i => s.holdLetter i
  | none => s

/-- Line clear (R89, R28, R70, R53, R92). Every entry left in the Hold Buffer is committed: R28 commits the
untouched slices, R87, R85 and R103 the entries left, and a line clear discards no tone-touched entry as a
key does (R86); where no key follows a tone-touched entry the model commits it too (DEDUCED, log 34). -/
def clearLine (s : State) (l : LineNo) : State :=
  let s := if s.lines[l].state = .recording then (s.finishPass l).1 else s
  let s := (s.holdAttached l).onLine l fun _ => .reset
  let s := s.onCoder l fun c => { c with coding := .zero }
  let s := s.onTone l fun t => { t with prompt := none }
  s.cutOff l

/-! ### The end of a slice period (R52, R54, R66, R84, R85, R88) -/

/-- The line counts a coded slice in its auto-pause run (R88). -/
def countPause (s : State) (l : LineNo) (speech : Bool) : State :=
  let limit := s.bus.ctl.settings.autoPauseSlices
  s.onLine l fun c => { c with autoRun := if speech then 0 else min limit (c.autoRun + 1) }

/-- A coded slice joins the Hold Buffer, the oldest of three leaving first; a failed commit ends the
pass (R85, R16 to R18), and a run at the limit owes auto-pause (R88). -/
def pushHold (s : State) (l : LineNo) (h : HoldSlice) : State :=
  let r := match s.lines[l].hold with
    | old :: rest =>
        if Config.holdSlices ≤ s.lines[l].hold.length then
          (s.onLine l fun c => { c with hold := rest }).leaveHold l old
        else (s, none)
    | [] => (s, none)
  match r with
  | (s, some f) => ((s.failPass l f).goto l .ready).prompt l f.prompt
  | (s, none) =>
      let s := s.onLine l fun c => { c with hold := c.hold ++ [h] }
      when (h.speech = false && s.bus.ctl.settings.autoPauseSlices ≤ s.lines[l].autoRun)
        (·.report (.autoPause l)) s

/-- The slice of a RECORDING line: dropped if a key was down in the period, else coded and pushed
(R84, R54, R55). -/
def recordSlice (s : State) (l : LineNo) (x : InSlice) : State :=
  if s.tones[l].keySeen then s.count fun c => { c with discardedTone := c.discardedTone + 1 }
  else
    let tier := s.bus.ctl.settings.tier.worse s.seg.tier
    let r := codeSlice tier s.coders[l].coding x.speech x.samples
    let s := s.onCoder l fun c => { c with coding := r.2 }
    (s.countPause l x.speech).pushHold l ⟨r.1, x.toneTouched, x.speech, r.2⟩

/-- The samples of the slice at a letter's cursor (R66, R42). -/
def playedSlice (s : State) (x : Letter) : List Sample :=
  match chainAt x.chain x.cursor with
  | some (r, k) => s.seg.decodeSlice r.block (r.first + k)
  | none => zeroSlice

/-- A PLAYING line at a period's end and the next one's start (R66, R67). -/
def playSlice (s : State) (l : LineNo) : State :=
  match s.lineLetter l with
  | none => s.cutOff l
  | some (i, x) =>
      if x.length ≤ x.cursor then (s.cutOff l).endPlayback l
      else if s.tones[l].prompt.isSome then s.cutOff l
      else
        (s.onPort l fun p => { p with outbound := some (s.playedSlice x) }).moveCursor i fun c _ => c + 1

/-- The slice flags and the key mark of a new period (R102, R84). -/
def newPeriod (s : State) (l : LineNo) : State :=
  (s.onTone l fun t =>
    { t with toneTouched := false, speech := false, keySeen := t.keyDown.isSome }).onPort l
      fun p => { p with inbound := [] }

/-- What a period's end does on one line. -/
def endPeriod (s : State) (l : LineNo) (x : InSlice) : State :=
  let s := when (s.lines[l].state == .recording) (·.recordSlice l x) s
  let s := when (s.lines[l].state == .playing) (·.playSlice l) s
  let s := when (s.lines[l].state != .playing) (·.cutOff l) s
  s.newPeriod l

/-- A period's end on the lines of a list, each with its slice. -/
def endPeriods : List LineNo → List InSlice → State → State
  | [], _, s => s
  | l :: ls, xs, s => endPeriods ls xs.tail (s.endPeriod l (xs.headD ⟨[], false, false⟩))

end State

end Sys2Proof.Machine
end

