-- ==== Sys2Proof/Machine/ControlRows.lean ====
section
/-! DEFINITION. Meanings: reset and start-up, Settings, Queries, service frames (R190 to R198). -/

namespace Sys2Proof.Machine

namespace State

/-- A frame for the station's own number or for all stations (R196). -/
def addressed (s : State) (dest : Station) : Bool :=
  s.bus.ctl.number == some dest || dest == Config.allStations

/-- Place a Query Answer for the sender (R196). -/
def answer (s : State) (sender : Station) (kind status : Nat) (content : List Byte) : State :=
  s.place sender (.queryAnswer kind status content)

/-- A Query is taken: in ACTIVE, addressed to the station (R196). -/
def takesQuery (s : State) (dest : Station) : Bool := s.isActive && s.addressed dest

/-- Clear every line the Settings disable (R194). -/
def clearDisabled : List LineNo → State → State
  | [], s => s
  | l :: rest, s => clearDisabled rest (when (!s.bus.ctl.settings.enables l) (·.clearLine l) s)

/-- Take every line whose line-active is high as risen (R69, R192). -/
def riseHigh : List LineNo → State → State
  | [], s => s
  | l :: rest, s => riseHigh rest (when s.ports[l].active (·.riseLine l) s)

/-- The counters' content (R197, R201). -/
def counterBytes (c : Counters) : List Byte :=
  [c.lettersOpened, c.lettersFiled, c.slicesCommitted, c.silenceSlices, c.cappedSlices, c.discardedTone,
    c.framesSent, c.framesReceived, c.arbitrationLosses, c.framesAbandoned, c.eventsLost,
    c.objectionsIgnored].flatMap fun v => be32 v.toNat

/-- The letter states in the order of the letter summary (R201). -/
def summaryStates : List LetterState :=
  [.open, .held, .transitOut, .transitIn, .settling, .closed, .delivering, .suspended, .stranded]

/-- The letter summary's content (R196, R201). -/
def summaryBytes (s : State) : List Byte :=
  be8 (s.letters.toList.countP (·.isNone)) ++ (summaryStates.flatMap fun x => be8 (s.countIn [x])) ++
    be8 s.nums.waiting.length ++ be24 s.nums.next ++ be16 s.seg.free ++ be16 s.seg.common ++
    be16 s.seg.reservation ++ be8 s.seg.tier.code ++ s.seg.credits.toList.flatMap be8 ++ be16 s.seg.poolFree

/-- One line's part of the line-states content (R91, R201); the author and the cursor of a line without
one are free values (log 6). -/
def lineBytes (s : State) (l : LineNo) : List Byte :=
  let c := s.lines[l]
  let x := (s.lineLetter l).map (·.2)
  be8 (flagBit (s.bus.ctl.settings.enables l) 7 + flagBit s.tones[l].keyDown.isSome 6 +
      flagBit c.author.isSome 5 + c.hold.length) ++
    be8 c.state.code ++
    be16 (c.author.getD (Config.absentAuthor s.freeIdx l).toNat) ++
    be24 ((x.map (·.number)).getD 0) ++
    be16 ((x.map (·.cursor)).getD (Config.absentCursor s.freeIdx l).toNat)

end State

/-! ### STATION_RESET to SECONDS_SINCE_RESET_TICK -/

/-- STATION_RESET: RESETN rises, or power comes up (R190, R191). -/
def execStationReset (stn : Fin 64) (rate : Fin 4) (s : State) : Result :=
  .next (s.afresh stn.val rate.val)

/-- The station becomes ACTIVE, and its Next Number and beacon timer start (R192, R142, R134). -/
def State.becomeActive (s : State) : State :=
  (s.onBus fun b => { b with ctl := { b.ctl with state := .active, listen := none } }).onNums fun n =>
    { n with next := max n.next (max s.bus.ctl.settings.floor 1), beacon := some Config.beaconMs }

/-- LISTEN_TIMER_EXPIRY (R192, R142). -/
def execListenTimerExpiry (s : State) : Result :=
  let s := s.taken .listenTimerExpiry
  .next <|
    if s.bus.ctl.state = .listen then (State.riseHigh allLines s.becomeActive.placeBeacon).look else s

/-- SECONDS_SINCE_RESET_TICK (R135). -/
def execSecondsSinceResetTick (s : State) : Result :=
  .next ((s.taken .secondsSinceResetTick).onBus fun b =>
    { b with ctl := { b.ctl with seconds := b.ctl.seconds + 1 } })

/-! ### SETTINGS (R193 to R195) -/

/-- A Settings frame is accepted (R193, R194). -/
def State.acceptSettings (s : State) (body : SettingsBody) : State :=
  State.clearDisabled allLines
    (s.onBus fun b => { b with ctl := { b.ctl with settings := .ofBody body, accepted := true } })

/-- SETTINGS (R193, R195). -/
def execSettings (sender dest : Station) (body : SettingsBody) (s : State) : Result :=
  let s := s.taken (.settings sender dest body)
  .next <|
    if s.bus.ctl.number = some dest then
      match s.bus.ctl.state with
      | .listen =>
          if s.bus.ctl.accepted then s.place sender (.settingsRefused .alreadySet) else s.acceptSettings body
      | .active => s.place sender (.settingsRefused .active)
      | .unnumbered => s
    else s

/-! ### Queries (R196, R197, R201) -/

/-- QUERY_COUNTERS. -/
def execQueryCounters (sender dest : Station) (s : State) : Result :=
  let s := s.taken (.queryCounters sender dest)
  .next <| if s.takesQuery dest then s.answer sender 0 0 (State.counterBytes s.bus.counters) else s

/-- QUERY_ERROR_RECORD: the record empties when the answer is built (R125). The mode byte of the answer is
read as R196's error record mode alone, with no base tier in its bits 7 to 6 (DEDUCED, log 41). -/
def execQueryErrorRecord (sender dest : Station) (s : State) : Result :=
  let s := s.taken (.queryErrorRecord sender dest)
  .next <|
    if s.takesQuery dest then
      (s.onBus (Bus.onLink fun k => { k with errors := [] })).answer sender 1 0
        (be8 (errorsByte s.bus.link.errors) ++ be8 s.bus.ctl.settings.errMode.code)
    else s

/-- QUERY_LETTER_SUMMARY. -/
def execQueryLetterSummary (sender dest : Station) (s : State) : Result :=
  let s := s.taken (.queryLetterSummary sender dest)
  .next <| if s.takesQuery dest then s.answer sender 2 0 s.summaryBytes else s

/-- QUERY_LINE_STATES (R91). -/
def execQueryLineStates (sender dest : Station) (s : State) : Result :=
  let s := s.taken (.queryLineStates sender dest)
  .next <|
    if s.takesQuery dest then
      { s with freeIdx := s.freeIdx + 1 }.answer sender 3 0 (allLines.flatMap s.lineBytes)
    else s

/-- The sender of a clear-counters Query is a console heard and present (R197). -/
def State.mayClear (s : State) (sender : Station) : Bool :=
  (s.peer sender).any fun p => p.present && p.cls == .console

/-- QUERY_CLEAR_COUNTERS (R197). -/
def execQueryClearCounters (sender dest : Station) (s : State) : Result :=
  let s := s.taken (.queryClearCounters sender dest)
  .next <|
    if s.takesQuery dest then
      if s.mayClear sender then (s.count fun _ => .zero).answer sender 4 1 []
      else s.answer sender 4 2 []
    else s

/-- QUERY_UNKNOWN_KIND. -/
def execQueryUnknownKind (sender dest : Station) (kind : Nat) (s : State) : Result :=
  let s := s.taken (.queryUnknownKind sender dest kind)
  .next <| if s.takesQuery dest then s.answer sender kind 3 [] else s

/-- SERVICE_FRAME_DISCARD (R196): nothing changes. -/
def execServiceFrameDiscard (sender : Station) (kind : ServiceKind) (s : State) : Result :=
  .next (s.taken (.serviceFrameDiscard sender kind))

end Sys2Proof.Machine
end

