-- ==== Sys2Proof/Machine/FilingRows.lean ====
section
/-! DEFINITION. Meanings: delivery to filing stations (R173 to R188). -/

namespace Sys2Proof.Machine

namespace State

/-- The active delivery with its letter and progress, when it goes to `sender` under `number`. -/
def activeFor (s : State) (sender : Station) (number : Nat) : Option (Active × Letter × Progress) :=
  s.activeOf.filter fun p => p.2.2.filing == sender && p.2.1.number == number

/-- The active delivery whose Offer an answer matches: in phase OFFERED (R177). -/
def offeredFor (s : State) (sender : Station) (number : Nat) : Option (Active × Letter × Progress) :=
  (s.activeFor sender number).filter fun p => p.1.phase == .offered

/-- The active delivery that an answer with a tag matches (R182). -/
def taggedFor (s : State) (sender : Station) (number tag : Nat) : Option (Active × Letter × Progress) :=
  (s.activeFor sender number).filter fun p => p.2.2.tag == some tag

/-- The sender's Peer Table entry is of class filing (R188, log 16). -/
def isFiling (s : State) (sender : Station) : Bool := (s.peer sender).any (·.cls == .filing)

/-- Stop or start the answer timer and change the phase (R176, R177, R180). -/
def setPhase (s : State) (ph : DeliveryPhase) (timer : Option Nat) : State :=
  ((s.cancel .offerAnswerTimeout).cancel .letterEndAnswerTimeout).onActive fun a =>
    { a with phase := ph, timer := timer }

/-- A progress has reached the end of its letter's chain (R180). -/
def atEnd (x : Letter) (p : Progress) : Bool := x.chain.length ≤ p.record

/-- The progress, check and last slice after a Letter Data frame (R180). -/
def advanceDelivery (s : State) (a : Active) (r : SegRec) (d : DataBody) : State :=
  let items := (s.seg.items r d.slice).take (d.items - (if d.slice = 0 then 1 else 0))
  let q := streamAfter r d.record d.slice (items.map (·.span)).sum
  let s := s.onLetter a.letter fun x =>
    { x with progress := x.progress.map fun p =>
        { p with record := q.1, slice := q.2, crc := crcItems p.crc items } }
  match items.getLast? with
  | some it => s.onActive fun b => { b with last := some it.lastSlice, resume := false }
  | none => s

/-- A Filed that matches the active delivery (R182). -/
def filedActive (s : State) (a : Active) (x : Letter) (p : Progress) : State :=
  if a.phase = .ended ∨ (a.phase = .streaming ∧ atEnd x p = true) then
    (s.clearActive.fileLetter a.letter x.number p.filing).afterEnd
  else s

/-- The letter of a number can be filed late: CLOSED without progress, or STRANDED (R183). -/
def filesLate (s : State) (number : Nat) : Option LetterIx :=
  (s.findNumber number).filter fun i =>
    s.letters[i].any fun x => x.state == .stranded || (x.state == .closed && x.progress.isNone)

/-- A Filed that matches no active delivery is compared with the unconfirmed-end list (R183). -/
def filedLate (s : State) (u : Unconfirmed) : State :=
  if s.deliv.unconfirmed.contains u then
    let s := s.onDeliv fun d => { d with unconfirmed := d.unconfirmed.erase u }
    match s.filesLate u.number with
    | some i => s.fileLetter i u.number u.filing
    | none => s
  else s

end State

/-- OFFER_COMPLETES (R176). -/
def execOfferCompletes (delivery : Nat) (s : State) : Result :=
  let s := s.taken (.offerCompletes delivery)
  .next <|
    match s.deliv.active with
    | some a =>
        if a.name = delivery ∧ a.phase = .offered then s.setPhase .offered (some Config.offerAnswerMs) else s
    | none => s

/-- OFFER_ACCEPT (R177, R31). -/
def execOfferAccept (sender : Station) (number tag : Nat) (s : State) : Result :=
  let s := s.taken (.offerAccept sender number tag)
  .next <|
    match s.offeredFor sender number with
    | some (a, _, _) =>
        if s.isActive then
          let s := s.onLetter a.letter fun x =>
            { x with state := .delivering, progress := x.progress.map fun p => { p with tag := some tag } }
          (s.setPhase .streaming none).streamOn
        else s
    | none => s

/-- OFFER_REFUSE (R177). -/
def execOfferRefuse (sender : Station) (number reason : Nat) (s : State) : Result :=
  let s := s.taken (.offerRefuse sender number reason)
  .next <| if s.isActive = true ∧ (s.offeredFor sender number).isSome = true then s.offerFailed else s

/-- OFFER_ANSWER_TIMEOUT (R177). -/
def execOfferAnswerTimeout (s : State) : Result :=
  let s := s.taken .offerAnswerTimeout
  .next <|
    if s.deliv.active.any (fun a => a.phase == .offered && a.timer.isSome) then s.offerFailed else s

/-- RETRY_TIMER_EXPIRY (R177, R174). -/
def execRetryTimerExpiry (s : State) : Result :=
  let s := s.taken .retryTimerExpiry
  .next <| if s.deliv.retry.isSome then (s.onDeliv fun d => { d with retry := none }).look else s

/-- LETTER_DATA_COMPLETES (R180, R185): the frame that starts at the progress. -/
def execLetterDataCompletes (delivery : Nat) (d : DataBody) (s : State) : Result :=
  let s := s.taken (.letterDataCompletes delivery d)
  .next <|
    match s.activeOf with
    | some (a, x, p) =>
        if a.name = delivery ∧ a.phase = .streaming ∧ d.number = x.number ∧ d.record = p.record ∧
            d.slice = p.slice then
          match x.chain[p.record]? with
          | some r => (s.advanceDelivery a r d).streamOn
          | none => s
        else s
    | none => s

/-- LETTER_END_COMPLETES (R180). -/
def execLetterEndCompletes (delivery : Nat) (s : State) : Result :=
  let s := s.taken (.letterEndCompletes delivery)
  .next <|
    match s.activeOf with
    | some (a, x, p) =>
        if a.name = delivery ∧ a.phase = .streaming ∧ State.atEnd x p = true then
          s.setPhase .ended (some Config.endAnswerMs)
        else s
    | none => s

/-- FILED (R182, R183, R188). -/
def execFiled (sender : Station) (number tag : Nat) (s : State) : Result :=
  let s := s.taken (.filed sender number tag)
  .next <|
    if s.isActive = true ∧ s.isFiling sender = true then
      match s.taggedFor sender number tag with
      | some (a, x, p) => s.filedActive a x p
      | none => s.filedLate ⟨number, sender, tag⟩
    else s

/-- DELIVERY_REJECTED (R182, R183, R188): the reason is not acted on. -/
def execDeliveryRejected (sender : Station) (number tag reason : Nat) (s : State) : Result :=
  let s := s.taken (.deliveryRejected sender number tag reason)
  .next <|
    if s.isActive = true ∧ s.isFiling sender = true then
      match s.taggedFor sender number tag with
      | some (a, _, _) => if a.phase = .streaming ∨ a.phase = .ended then s.rejectActive else s
      | none => s
    else s

/-- LETTER_END_ANSWER_TIMEOUT (R182). -/
def execLetterEndAnswerTimeout (s : State) : Result :=
  let s := s.taken .letterEndAnswerTimeout
  .next <|
    match s.activeOf with
    | some (a, x, p) =>
        if a.phase = .ended ∧ a.timer.isSome = true then (s.noteUnconfirmed x p).rejectActive else s
    | none => s

/-- OFFER (R188): an Offer addressed to a squeeze station is discarded. -/
def execOffer (sender : Station) (body : OfferBody) (s : State) : Result :=
  .next (s.taken (.offer sender body))

end Sys2Proof.Machine
end

