-- ==== Sys2Proof/Machine/LineRows.lean ====
section
/-! DEFINITION. Meanings: line ports, slice periods, keys, and the timers of lines and held letters
(R27, R52, R69 to R90, R97 to R105). A key row is the recognition of its key, which acts by the line's
state (R71, log 7). -/

namespace Sys2Proof.Machine

/-! ### Line ports -/

/-- The line-active level taken (R69). -/
def State.takeLevel (s : State) (l : LineNo) (level : Bool) : State :=
  s.onPort l fun p => { p with active := level, activeRun := 0 }

/-- LINE_ACTIVE_RISING (R72). -/
def execLineActiveRising (l : LineNo) (s : State) : Result :=
  .next (((s.taken (.lineActiveRising l)).takeLevel l true).riseLine l)

/-- LINE_CLEAR (R89). -/
def execLineClear (l : LineNo) (s : State) : Result :=
  let s := (s.taken (.lineClear l)).takeLevel l false
  .next <|
    if s.isActive = true ∧ s.bus.ctl.settings.enables l = true ∧ s.lines[l].state ≠ .idle then s.clearLine l
    else s

/-- SLICE_PERIOD_END (R52). -/
def execSlicePeriodEnd (inbound : List InSlice) (s : State) : Result :=
  .next (State.endPeriods allLines inbound { s.taken (.slicePeriodEnd inbound) with frames := 0 })

/-- AUTO_PAUSE (R88). -/
def execAutoPause (l : LineNo) (s : State) : Result :=
  let s := s.taken (.autoPause l)
  .next <|
    if s.lines[l].state = .recording ∧ s.bus.ctl.settings.autoPauseSlices ≤ s.lines[l].autoRun then
      s.closePass l (some .paused)
    else s

/-! ### Key events -/

/-- KEY_RELEASED (R98). -/
def execKeyReleased (l : LineNo) (k : Key) (s : State) : Result :=
  .next ((s.taken (.keyReleased l k)).keyReleased l k)

/-- KEY_BECOME_HELD (R100). -/
def execKeyBecomeHeld (l : LineNo) (k : Key) (s : State) : Result :=
  .next ((s.taken (.keyBecomeHeld l k)).keyHeld l k)

/-- REFUSED_KEY (R71). -/
def execRefusedKey (l : LineNo) (k : Key) (s : State) : Result :=
  .next ((s.taken (.refusedKey l k)).keyRecognised l k)

/-- AUTHOR_DIGIT (R73). -/
def execAuthorDigit (l : LineNo) (d : Digit) (s : State) : Result :=
  .next ((s.taken (.authorDigit l d)).keyRecognised l (digitKey d))

/-- AUTHOR_ENTER (R73). -/
def execAuthorEnter (l : LineNo) (s : State) : Result :=
  .next ((s.taken (.authorEnter l)).keyRecognised l .hash)

/-- NEW_LETTER (R3). -/
def execNewLetter (l : LineNo) (s : State) : Result :=
  .next ((s.taken (.newLetter l)).keyRecognised l .kA)

/-- RESUME (R75). -/
def execResume (l : LineNo) (s : State) : Result :=
  .next ((s.taken (.resume l)).keyRecognised l .star)

/-- SEEK_DIGIT (R76). -/
def execSeekDigit (l : LineNo) (d : Digit) (s : State) : Result :=
  .next ((s.taken (.seekDigit l d)).keyRecognised l (digitKey d))

/-- SEEK_ENTER (R76). -/
def execSeekEnter (l : LineNo) (s : State) : Result :=
  .next ((s.taken (.seekEnter l)).keyRecognised l .hash)

/-- RECORD (R11). -/
def execRecord (l : LineNo) (s : State) : Result :=
  .next ((s.taken (.record l)).keyRecognised l .k1)

/-- STOP (R82). -/
def execStop (l : LineNo) (s : State) : Result :=
  .next ((s.taken (.stop l)).keyRecognised l .k2)

/-- PLAY (R80). -/
def execPlay (l : LineNo) (s : State) : Result :=
  .next ((s.taken (.play l)).keyRecognised l .k3)

/-- WIND_SHORT_PRESS (R81): the release of the wind key. -/
def execWindShortPress (l : LineNo) (w : Wind) (s : State) : Result :=
  .next ((s.taken (.windShortPress l w)).keyReleased l (windKey w))

/-- WIND_HELD (R81). -/
def execWindHeld (l : LineNo) (w : Wind) (s : State) : Result :=
  .next ((s.taken (.windHeld l w)).keyHeld l (windKey w))

/-- WIND_STEP (R20, R81). -/
def execWindStep (l : LineNo) (s : State) : Result :=
  let s := s.taken (.windStep l)
  .next <|
    if s.lines[l].state = .winding ∧ s.lines[l].windTimer.isSome = true then s.windStepNow l else s

/-- WIND_RELEASE (R81): the release of the wind key. -/
def execWindRelease (l : LineNo) (w : Wind) (s : State) : Result :=
  .next ((s.taken (.windRelease l w)).keyReleased l (windKey w))

/-- GO_TO_START (R20). -/
def execGoToStart (l : LineNo) (s : State) : Result :=
  .next ((s.taken (.goToStart l)).keyRecognised l .k0)

/-- GO_TO_END (R20). -/
def execGoToEnd (l : LineNo) (s : State) : Result :=
  .next ((s.taken (.goToEnd l)).keyRecognised l .kB)

/-- INSERT_OVERWRITE_TOGGLE (R22). -/
def execInsertOverwriteToggle (l : LineNo) (s : State) : Result :=
  .next ((s.taken (.insertOverwriteToggle l)).keyRecognised l .k6)

/-- INSTRUCTION_MARK (R23). -/
def execInstructionMark (l : LineNo) (s : State) : Result :=
  .next ((s.taken (.instructionMark l)).keyRecognised l .k7)

/-- PRIORITY (R24). -/
def execPriority (l : LineNo) (s : State) : Result :=
  .next ((s.taken (.priority l)).keyRecognised l .k8)

/-- END_OF_LETTER (R25). -/
def execEndOfLetter (l : LineNo) (s : State) : Result :=
  .next ((s.taken (.endOfLetter l)).keyRecognised l .k9)

/-- DISCARD_PASS (R19). -/
def execDiscardPass (l : LineNo) (s : State) : Result :=
  .next ((s.taken (.discardPass l)).keyRecognised l .kC)

/-- HOLD (R26). -/
def execHold (l : LineNo) (s : State) : Result :=
  .next ((s.taken (.hold l)).keyRecognised l .kD)

/-- WIND_KEY_RECOGNISED (R82). -/
def execWindKeyRecognised (l : LineNo) (w : Wind) (s : State) : Result :=
  .next ((s.taken (.windKeyRecognised l w)).keyRecognised l (windKey w))

/-- KEY_IGNORED_IN_IDLE (R71). -/
def execKeyIgnoredInIdle (l : LineNo) (k : Key) (s : State) : Result :=
  .next ((s.taken (.keyIgnoredInIdle l k)).keyRecognised l k)

/-! ### Timers and prompts -/

/-- AUTHOR_DIGIT_TIMEOUT (R74). -/
def execAuthorDigitTimeout (l : LineNo) (s : State) : Result :=
  let s := s.taken (.authorDigitTimeout l)
  .next <|
    if s.lines[l].state = .author ∧ s.lines[l].digitTimer.isSome = true then s.authorAgain l else s

/-- SEEK_DIGIT_TIMEOUT (R76). -/
def execSeekDigitTimeout (l : LineNo) (s : State) : Result :=
  let s := s.taken (.seekDigitTimeout l)
  .next <|
    if s.lines[l].state = .seek ∧ s.lines[l].digitTimer.isSome = true then
      (s.onLine l fun c => { c with seek := none, digitTimer := none }).backToSelect l
    else s

/-- The line waits in FETCH for an entry that is SETTLING (R79). -/
def State.waitsSettling (s : State) (l : LineNo) : Bool :=
  s.lines[l].state == .fetch && s.lines[l].fetchRef.any fun i => s.stateOf i == some .settling

/-- PROMPT_ENDED (R105, R79): a Wait prompt does not end, and a Refused that ends over a SETTLING entry
brings Wait back. -/
def execPromptEnded (l : LineNo) (s : State) : Result :=
  let s := s.taken (.promptEnded l)
  .next <|
    match s.tones[l].prompt with
    | none => s
    | some r =>
        if r.prompt = .wait then s
        else
          when (r.prompt == .refused && s.waitsSettling l) (·.prompt l .wait)
            (s.onTone l fun t => { t with prompt := none })

/-- A HELD letter's timer runs out (R27). -/
def State.expireHeld (s : State) (i : LetterIx) (x : Letter) : State :=
  if 0 < x.length then
    ((s.onLetter i fun y => { y with unfinished := true, held := none }).raise
      (.closedUnfinished x.number x.author)).closeLetter i
  else s.freeLetter i

/-- HELD_TIMER_EXPIRY (R27). -/
def execHeldTimerExpiry (i : LetterIx) (s : State) : Result :=
  let s := s.taken (.heldTimerExpiry i)
  .next <|
    match s.letters[i] with
    | some x => if x.state = .held ∧ x.held.isSome = true then s.expireHeld i x else s
    | none => s

/-- WAIT_TIMER_EXPIRY (R79). -/
def execWaitTimerExpiry (l : LineNo) (s : State) : Result :=
  let s := s.taken (.waitTimerExpiry l)
  .next <|
    if s.lines[l].state = .fetch ∧ s.lines[l].waitTimer.isSome = true then
      (s.onLine l fun c => { c with fetchRef := none, waitTimer := none }).backToSelect l
    else s

end Sys2Proof.Machine
end

