-- ==== Sys2Proof/Machine/LinkRows.lean ====
section
/-! DEFINITION. Meanings: the Pool Bus link (R110 to R128). A row that its bus view or sending state
rules out changes nothing (log 21). -/

namespace Sys2Proof.Machine

namespace State

/-- The first error of a frame is recorded, and the fault count rises (R121, R125). What DETACHED does
besides comes last (log 11). -/
def noteError (s : State) (kinds : List ErrKind) (rise : Nat) : State :=
  s.onBus fun b => (b.recordErrors kinds).setFault (faultUp rise b.link.fault)

/-- Entry into DETACHED takes effect, if the link has just entered it (R123). -/
def detachIfNew (was : Bool) (s : State) : State := when (!was && s.isDetached) (·.enterDetached) s

/-- Recovery runs and fault count 0, the event, and the engines told (R124, R169, R174). The Transfer Check
of a halted transfer stands in the Control Queue before the Offer the delivery engine places: the spec
gives no order (DESIGN CHOICE, log 11). -/
def recover (s : State) : State :=
  let s := s.onBus fun b => (b.setFault 0).onLink fun k => { k with recoveryRuns := 0 }
  (when (s.xfer.outgoing.any (·.phase == .halted)) (·.makeCheck) s).look

end State

/-- FRAME_RECEPTION (R116, R121, R204, R205). -/
def execFrameReception (f : Frame) (s : State) : Result :=
  let s := s.taken (.frameReception f)
  .next <|
    if s.canFollow then
      let s := s.count fun c => { c with framesReceived := c.framesReceived + 1 }
      let s := s.faultFalls
      let s := s.onBus fun b => (b.quiet.onLink fun k => { k with wasOwn := false, holdOff := none }).idle
      s.reportSome (s.handsUp f)
    else s

/-- TRANSMIT_ARBITER_CHOOSE (R126, R127). -/
def execTransmitArbiterChoose (s : State) : Result :=
  let s := s.taken .transmitArbiterChoose
  .next <|
    if s.canStart = true ∧ s.bus.link.current = none then State.choose (Config.controlFrames + 2) s else s

/-- LOST_ARBITRATION (R115): the station receives the frame from this bit on. -/
def execLostArbitration (s : State) : Result :=
  let s := s.taken .lostArbitration
  .next <|
    match s.sendingNow with
    | some _ =>
        (s.count fun c => { c with arbitrationLosses := c.arbitrationLosses + 1 }).onBus
          (Bus.onLink fun k => { k with sending := false, tx := [] })
    | none => s

/-- FRAME_SUCCESS (R116, R121, R127, R131). -/
def execFrameSuccess (s : State) : Result :=
  let s := s.taken .frameSuccess
  .next <|
    match s.sendingNow with
    | some c =>
        let s := s.count fun n => { n with framesSent := n.framesSent + 1 }
        (s.faultFalls.frameDone c).reportSome (State.completionOf c.frame)
    | none => s

/-- FRAME_ATTEMPT_FAILED (R119, R121, R127, R128, R123). -/
def execFrameAttemptFailed (kinds : List ErrKind) (s : State) : Result :=
  let s := s.taken (.frameAttemptFailed kinds)
  .next <|
    match s.sendingNow with
    | some c =>
        let was := s.isDetached
        let s := (s.noteError kinds 8).onBus (Bus.errorWait 0 true)
        (s.countAttempt c).detachIfNew was
    | none => s

/-- RECEIVE_ERROR (R119, R121). -/
def execReceiveError (kinds : List ErrKind) (s : State) : Result :=
  let s := s.taken (.receiveError kinds)
  .next <|
    if s.canFollow then
      let was := s.isDetached
      let delay := Bus.burstDelayOf s.bus.link.rx kinds
      ((s.noteError kinds 1).onBus (Bus.errorWait delay false)).detachIfNew was
    else s

/-- LINK_RECOVERY (R124). -/
def execLinkRecovery (s : State) : Result :=
  let s := s.taken .linkRecovery
  .next <| if s.isDetached then s.recover else s

/-- STUCK_EVENT (R120). -/
def execStuckEvent (s : State) : Result :=
  let s := s.taken .stuckEvent
  .next <|
    if s.isNumbered then
      let was := s.isDetached
      let s := (s.noteError [.stuck] 1).raise .stuckBus
      let s := (s.cancel .busViewIdle).onBus fun b =>
        b.quiet.onLink fun k => { k with dominantRun := 0, view := .stuckWait }
      s.detachIfNew was
    else s

/-- BUS_VIEW_IDLE (R111, R122). -/
def execBusViewIdle (s : State) : Result :=
  let s := s.taken .busViewIdle
  .next <|
    match s.bus.link.view with
    | .joining | .errorWait | .stuckWait =>
        if s.isNumbered then (s.cancel .holdOffExpiry).onBus Bus.idle else s
    | .idle | .inFrame => s

/-- HOLD_OFF_EXPIRY (R122). -/
def execHoldOffExpiry (s : State) : Result :=
  .next ((s.taken .holdOffExpiry).onBus (Bus.onLink fun k => { k with holdOff := none }))

/-- CURRENT_FRAME_REATTEMPT (R127). -/
def execCurrentFrameReattempt (s : State) : Result :=
  let s := s.taken .currentFrameReattempt
  .next <|
    match s.bus.link.current with
    | some c => if s.canStart then s.reattempt c else s
    | none => s

end Sys2Proof.Machine
end

