-- ==== Sys2Proof/Machine/MoveRows.lean ====
section
/-! DEFINITION. Meanings: locating and moving a letter between stations (R154 to R171). A frame of
class 0, 2 or 4 that reaches the station in LISTEN is discarded (R192). -/

namespace Sys2Proof.Machine

/-! ### Locate (R155 to R157) -/

/-- A collection's phase and timer change. -/
def State.onCollection (s : State) (c : Collection) (d : Collection) : State :=
  s.onXfer fun x => { x with collections := x.collections.map fun y => if y = c then d else y }

/-- LOCATE_COMPLETES (R155). -/
def execLocateCompletes (tag : BitVec 8) (s : State) : Result :=
  let s := s.taken (.locateCompletes tag)
  .next <|
    match s.xfer.collections.find? fun c => c.tag == tag && !c.collecting with
    | some c => s.onCollection c { c with collecting := true, timer := Config.collectMs }
    | none => s

/-- LOCATE_QUEUED_TIMEOUT (R155). -/
def execLocateQueuedTimeout (l : LineNo) (s : State) : Result :=
  let s := s.taken (.locateQueuedTimeout l)
  .next <|
    match s.xfer.collections.find? fun c => c.line == l && !c.collecting with
    | some c => (s.dropCollection c).givePick c .none
    | none => s

/-- COLLECTION_WINDOW_EXPIRY (R157, R77). -/
def execCollectionWindowExpiry (l : LineNo) (s : State) : Result :=
  let s := s.taken (.collectionWindowExpiry l)
  .next <|
    match s.xfer.collections.find? fun c => c.line == l && c.collecting with
    | some c => (s.dropCollection c).givePick c (s.pickOf c)
    | none => s

/-- The numbers a Locate is answered with (R156). -/
def State.locateNumbers (s : State) (author k : Nat) : List Nat :=
  ((ranking ((s.heldNumbers author).map fun n => (0, n))).map (·.2)).take (min k 8)

/-- LOCATE (R156). -/
def execLocate (sender : Station) (author k : Nat) (tag : BitVec 8) (s : State) : Result :=
  let s := s.taken (.locate sender author k tag)
  .next <|
    if s.isActive = true ∧ s.locateNumbers author k ≠ [] then
      s.place sender (.locateAnswer tag author (s.locateNumbers author k))
    else s

/-- LOCATE_ANSWER (R157). -/
def execLocateAnswer (sender : Station) (tag : BitVec 8) (author : Nat) (numbers : List Nat)
    (s : State) : Result :=
  let s := s.taken (.locateAnswer sender tag author numbers)
  .next <|
    if s.isActive then
      match s.xfer.collections.find? fun c => c.tag == tag && c.author == author && c.collecting with
      | some c => s.onCollection c { c with pairs := (numbers.map fun n => (sender, n)).foldl addPair c.pairs }
      | none => s
    else s

/-! ### Fetch and its answers (R159, R160) -/

/-- FETCH (R159, R171). -/
def execFetch (sender : Station) (number author : Nat) (s : State) : Result :=
  let s := s.taken (.fetch sender number author)
  let no (r : RefuseReason) := s.place sender (.fetchRefuse number r)
  .next <|
    if s.isActive then
      match (s.findNumber number).bind fun i => s.letters[i].map fun x => (i, x) with
      | none => no .unknown
      | some (i, x) =>
          if x.author ≠ author then no .unknown
          else
            match x.state with
            | .held => if s.xfer.outgoing.isSome then no .busy else s.lendLetter i x sender
            | .open | .transitOut | .transitIn | .settling => no .busy
            | .closed | .delivering | .suspended | .stranded => no .closed
    else s

/-- An incoming letter is admitted: the reservation, the entry and the transfer take the snapshot (R47,
R160, R33). -/
def State.admitLetter (s : State) (inc : Incoming) (snap : Snapshot) : State :=
  let s := s.onSeg fun g => { g with reservation := snap.blocks }
  let s := s.onLetter inc.letter fun x =>
    { x with priority := snap.priority, mode := snap.mode, passCount := snap.passCount,
             instrNext := snap.instrNext }
  (s.cancel .receiveTimerExpiry).onXfer fun x =>
    { x with incoming := some { inc with snapshot := some snap, timer := Config.receiveMs } }

/-- The incoming transfer of a number from a giver. -/
def State.incomingOf (s : State) (number : Nat) (giver : Station) : Option Incoming :=
  s.xfer.incoming.filter fun c => c.number == number && c.giver == giver

/-- FETCH_ACCEPT (R160): a repeat in RECEIVING is discarded as a repeated Transfer Data frame is, which
restarts the receive timer (R163). -/
def execFetchAccept (sender : Station) (snap : Snapshot) (s : State) : Result :=
  let s := s.taken (.fetchAccept sender snap)
  .next <|
    if s.isActive then
      match s.incomingOf snap.number sender with
      | some inc =>
          if inc.snapshot.isSome then s.restartReceive
          else if snap.blocks ≤ s.seg.common then s.admitLetter inc snap
          else s.incomingFail (some .noMemory) .noMemory
      | none => s.place sender (.fetchCancel snap.number .timeout)
    else s

/-- FETCH_REFUSE (R160). -/
def execFetchRefuse (sender : Station) (number : Nat) (reason : RefuseReason) (s : State) : Result :=
  let s := s.taken (.fetchRefuse sender number reason)
  .next <|
    if s.isActive = true ∧ (s.incomingOf number sender).any (·.snapshot.isNone) = true then
      s.incomingFail none (.refused reason)
    else s

/-! ### The giver's stream (R161) -/

/-- FETCH_ACCEPT_COMPLETES (R161). -/
def execFetchAcceptCompletes (transfer : Nat) (s : State) : Result :=
  let s := s.taken (.fetchAcceptCompletes transfer)
  .next <|
    match s.xfer.outgoing with
    | some o =>
        if o.name = transfer ∧ (o.phase = .accepted ∨ o.phase = .halted) then s.startStream else s
    | none => s

/-- The items of a sent frame: those of its record from its slice on, as many as it carries (R161). -/
def State.sentItems (s : State) (r : SegRec) (d : DataBody) : List Item :=
  (s.seg.items r d.slice).take (d.items - (if d.slice = 0 then 1 else 0))

/-- The resume cursor and check after a Transfer Data frame (R161, R162). -/
def State.advanceOutgoing (s : State) (r : SegRec) (d : DataBody) : State :=
  let items := s.sentItems r d
  let p := streamAfter r d.record d.slice (items.map (·.span)).sum
  s.onOutgoing fun x => { x with record := p.1, slice := p.2, crc := crcItems x.crc items }

/-- TRANSFER_DATA_COMPLETES (R161): the frame that starts at the resume cursor. -/
def execTransferDataCompletes (transfer : Nat) (d : DataBody) (s : State) : Result :=
  let s := s.taken (.transferDataCompletes transfer d)
  .next <|
    match s.xfer.outgoing with
    | some o =>
        if o.name = transfer ∧ o.phase = .streaming ∧ d.number = o.number ∧ d.record = o.record ∧
            d.slice = o.slice then
          match s.letters[o.letter].bind fun x => x.chain[o.record]? with
          | some r => (s.advanceOutgoing r d).offerTransfer
          | none => s
        else s
    | none => s

/-- TRANSFER_END_COMPLETES (R161). -/
def execTransferEndCompletes (transfer : Nat) (s : State) : Result :=
  let s := s.taken (.transferEndCompletes transfer)
  .next <|
    match s.xfer.outgoing with
    | some o =>
        if o.name = transfer ∧ o.phase = .streaming then
          (s.cancel .checkTimerExpiry).onOutgoing fun x =>
            { x with phase := .ended, timer := some Config.checkMs }
        else s
    | none => s

/-! ### The taker's stream (R163, R164, R167) -/

/-- TRANSFER_DATA (R163). -/
def execTransferData (sender : Station) (d : DataBody) (s : State) : Result :=
  let s := s.taken (.transferData sender d)
  .next <|
    if s.isActive then
      match (s.incomingOf d.number sender).bind fun c => c.snapshot.map fun p => (c, p) with
      | some (c, p) => s.takeData p c d
      | none => s
    else s

/-- The three tests of a Transfer End (R164). -/
def State.endPasses (s : State) (c : Incoming) (p : Snapshot) (check : Word32) : Bool :=
  check == crc32Final c.crc && c.record == p.records && c.slice == 0 &&
    s.letters[c.letter].any fun x => x.length == p.length

/-- TRANSFER_END (R164). -/
def execTransferEnd (sender : Station) (number : Nat) (check : Word32) (s : State) : Result :=
  let s := s.taken (.transferEnd sender number check)
  .next <|
    if s.isActive then
      match (s.incomingOf number sender).bind fun c => c.snapshot.map fun p => (c, p) with
      | some (c, p) =>
          if s.endPasses c p check then s.finishIncoming c p else s.incomingFail (some .check) .check
      | none => s
    else s

/-- ACCEPT_TIMER_EXPIRY (R167). -/
def execAcceptTimerExpiry (s : State) : Result :=
  let s := s.taken .acceptTimerExpiry
  .next <|
    if s.xfer.incoming.any (·.snapshot.isNone) then s.incomingFail (some .timeout) .timeout else s

/-- RECEIVE_TIMER_EXPIRY (R167). -/
def execReceiveTimerExpiry (s : State) : Result :=
  let s := s.taken .receiveTimerExpiry
  .next <|
    if s.xfer.incoming.any (·.snapshot.isSome) then s.incomingFail (some .timeout) .timeout else s

/-- FETCH_CANCEL (R167, R32). -/
def execFetchCancel (sender : Station) (number : Nat) (reason : CancelReason) (s : State) : Result :=
  let s := s.taken (.fetchCancel sender number reason)
  .next <|
    if s.isActive then
      match s.lentTo number sender with
      | some i => s.returnHeld i
      | none => s
    else s

/-! ### Letting go and settling (R165, R166) -/

/-- TAKE (R165). -/
def execTake (sender : Station) (number : Nat) (s : State) : Result :=
  let s := s.taken (.take sender number)
  .next <|
    if s.isActive then
      match s.lentTo number sender with
      | some i => s.releaseLetter i number sender
      | none =>
          if s.xfer.releases.contains (number, sender) then s.place sender (.released number)
          else s.place sender (.takeUnknown number)
    else s

/-- A letter settles at the giver's answer to a Take (R166). -/
def State.settleAnswer (s : State) (sender : Station) (number : Nat) : State :=
  if s.isActive then
    match s.settlingOf number sender with
    | some e => s.settle e
    | none => s
  else s

/-- RELEASED (R166). -/
def execReleased (sender : Station) (number : Nat) (s : State) : Result :=
  .next ((s.taken (.released sender number)).settleAnswer sender number)

/-- TAKE_UNKNOWN (R166). -/
def execTakeUnknown (sender : Station) (number : Nat) (s : State) : Result :=
  .next ((s.taken (.takeUnknown sender number)).settleAnswer sender number)

/-- TAKE_TIMER_EXPIRY (R166). -/
def execTakeTimerExpiry (number : Nat) (s : State) : Result :=
  let s := s.taken (.takeTimerExpiry number)
  .next <|
    match s.xfer.settling.find? (·.number == number) with
    | some e =>
        let s := s.onXfer fun x =>
          { x with settling := x.settling.map fun y => if y = e then { y with timer := Config.takeMs } else y }
        if s.isPresent e.giver then s.place e.giver (.take number) else s
    | none => s

/-! ### Transfer Check (R169) -/

/-- CHECK_TIMER_EXPIRY (R169). The timer can run out in STREAMING with the mark clear: restarted for an
absent partner at a recovery, before a Fetch Accept that waited in the queue completed and started the
stream. R169 lists ENDED and the mark set; the model makes a Transfer Check in any phase (DEDUCED,
log 17). -/
def execCheckTimerExpiry (s : State) : Result :=
  let s := s.taken .checkTimerExpiry
  .next <| if s.xfer.outgoing.any (·.timer.isSome) then s.makeCheck else s

/-- What the taker answers to a Transfer Check (R169). -/
def State.checkReply (s : State) (sender : Station) (number : Nat) : CheckReply :=
  if (s.settlingOf number sender).isSome then .settling
  else if (s.incomingOf number sender).any (·.snapshot.isSome) then .receiving
  else .notHeld

/-- TRANSFER_CHECK (R169). -/
def execTransferCheck (sender : Station) (number : Nat) (s : State) : Result :=
  let s := s.taken (.transferCheck sender number)
  .next <| if s.isActive then s.place sender (.checkAnswer number (s.checkReply sender number)) else s

/-- CHECK_ANSWER (R169). -/
def execCheckAnswer (sender : Station) (number : Nat) (reply : CheckReply) (s : State) : Result :=
  let s := s.taken (.checkAnswer sender number reply)
  .next <|
    match s.xfer.outgoing with
    | some o =>
        if s.isActive = true ∧ o.taker = sender ∧ o.number = number ∧ o.outstanding = true then
          let s := s.onOutgoing fun x => { x with outstanding := false, timer := none }
          match reply with
          | .settling => s.releaseLetter o.letter number sender
          | .receiving => s.startStream
          | .notHeld => s.returnHeld o.letter
        else s
    | none => s

end Sys2Proof.Machine
end

