-- ==== Sys2Proof/Machine/PeerRows.lean ====
section
/-! DEFINITION. Meanings: Beacons, the Peer Table, Number Claims and Claim Objections
(R134 to R152). -/

namespace Sys2Proof.Machine

namespace State

/-! ### The Peer Table (R136 to R139) -/

/-- The neighbours are told that a peer of a class is newly present (R138). -/
def tellPresent (s : State) : StationClass → State
  | .filing => s.filingPresent
  | .console => s.chooseConsole
  | .squeeze => s

/-- The neighbours are told that a peer of a class became absent (R138). -/
def tellAbsent (s : State) (st : Station) : StationClass → State
  | .filing => s.filingAbsent st
  | .console => s.chooseConsole
  | .squeeze => s

/-- A Beacon carries the station state ACTIVE (R137). -/
def beaconActive (b : BeaconBody) : Bool := b.state == 2

/-- The entry a Beacon leaves for its sender (R136, R137). -/
def peerEntry (st : Station) (b : BeaconBody) : Peer := ⟨st, b.cls, b, 0, beaconActive b⟩

/-- An entry is made, or replaced where the sender has one (R137). -/
def putPeer (s : State) (st : Station) (b : BeaconBody) : State :=
  { s.cancel (.silenceTimerExpiry st) with peers :=
      if (s.peer st).isSome then s.peers.map fun p => if p.station = st then peerEntry st b else p
      else s.peers ++ [peerEntry st b] }

/-- The neighbours are told what a Beacon changed for an entry (R137, R138). -/
def tellChange (s : State) (old : Peer) (b : BeaconBody) : State :=
  if old.cls = b.cls then
    if old.present then when (!beaconActive b) (·.tellAbsent old.station old.cls) s
    else when (beaconActive b) (·.tellPresent b.cls) s
  else
    when (beaconActive b) (·.tellPresent b.cls) (when old.present (·.tellAbsent old.station old.cls) s)

/-- A Beacon shows that its sender has restarted (R139). -/
def showsRestart (old : Peer) (b : BeaconBody) : Bool := b.seconds < old.last.seconds

/-- A restart seen: its event, and the transfer engine (R139, R170). -/
def seeRestart (s : State) (old : Peer) : State :=
  (s.raise (.peerRestart old.station old.cls)).partnerRestart old.station

/-- A Beacon from another station enters the Peer Table (R137). -/
def takeBeacon (s : State) (st : Station) (b : BeaconBody) : State :=
  match s.peer st with
  | none => when (beaconActive b) (·.tellPresent b.cls) (s.putPeer st b)
  | some old => ((when (showsRestart old b) (·.seeRestart old) s).putPeer st b).tellChange old b

/-- The Next Number rises by a Beacon's class (R141). -/
def raiseByBeacon (s : State) (b : BeaconBody) : State :=
  match b.cls with
  | .squeeze => s.raiseNext b.next
  | .filing => s.raiseNext (b.next + 1)
  | .console => s

/-- A peer's silence timer has run out (R138). -/
def silence (s : State) (st : Station) : State :=
  { s with peers := s.peers.map fun p =>
      if p.station = st then { p with silence := Config.silenceMs, present := false } else p }

end State

/-- BEACON_TIMER_EXPIRY (R134). -/
def execBeaconTimerExpiry (s : State) : Result :=
  let s := s.taken .beaconTimerExpiry
  .next <|
    if s.nums.beacon.isSome then (s.onNums fun n => { n with beacon := some Config.beaconMs }).placeBeacon
    else s

/-- BEACON (R137, R141). A Beacon with the station's own number is taken by that row of R141's table, its
carried Next Number and no more, whatever class it names: its class matches a second row where it is filing
or console, and the rule does not say which row it is taken by (DEDUCED, log 43). -/
def execBeacon (sender : Station) (body : BeaconBody) (s : State) : Result :=
  let s := s.taken (.beacon sender body)
  .next <|
    if s.isNumbered then
      if s.bus.ctl.number = some sender then s.raiseNext body.next
      else (s.raiseByBeacon body).takeBeacon sender body
    else s

/-- SILENCE_TIMER_EXPIRY (R138). -/
def execSilenceTimerExpiry (st : Station) (s : State) : Result :=
  let s := s.taken (.silenceTimerExpiry st)
  .next <|
    match s.peer st with
    | some p => if p.present then (s.silence st).tellAbsent st p.cls else s
    | none => s

/-! ### Claims (R144 to R149) -/

/-- NUMBER_CLAIM_COMPLETES (R146). -/
def execNumberClaimCompletes (number : Nat) (s : State) : Result :=
  let s := s.taken (.numberClaimCompletes number)
  .next <|
    if s.nums.frame = .current ∧ s.nums.link.map (·.1) = some number then
      (((s.assignNumber number).onNums fun n =>
        { n with next := max n.next (number + 1) }).endClaim).makeClaim
    else s

/-- CLAIM_WAIT_TIMER_EXPIRY (R147). -/
def execClaimWaitTimerExpiry (s : State) : Result :=
  let s := s.taken .claimWaitTimerExpiry
  .next <|
    if s.nums.wait.isSome then (s.onNums fun n => { n with wait := none }).makeClaim else s

/-- NUMBER_CLAIM: another station's claim (R141, R150). -/
def execNumberClaim (sender : Station) (number : Nat) (s : State) : Result :=
  let s := s.taken (.numberClaim sender number)
  .next <|
    if s.isNumbered then
      let s := s.raiseNext (number + 1)
      if (s.findNumber number).isSome then s.place Config.allStations (.claimObjection number sender) else s
    else s

/-- CLAIM_OBJECTION (R141, R152). -/
def execClaimObjection (sender : Station) (number : Nat) (claimer : Station) (s : State) : Result :=
  let s := s.taken (.claimObjection sender number claimer)
  .next <|
    if s.isNumbered then
      let s := s.raiseNext (number + 1)
      if s.bus.ctl.number = some claimer then s.objectedTo sender number else s
    else s

/-- OBJECTION_WINDOW_EXPIRY (R151). -/
def execObjectionWindowExpiry (number : Nat) (s : State) : Result :=
  .next ((s.taken (.objectionWindowExpiry number)).onNums fun n =>
    { n with window := n.window.filter (·.number ≠ number) })

end Sys2Proof.Machine
end

