-- ==== Sys2Proof/Machine/Dispatch.lean ====
section
/-! DEFINITION. One arm per command. -/

namespace Sys2Proof.Machine

def exec (i : Instr) (s : State) : Host.Outcome State Fault Refusal :=
  match i with
  | .stationReset stn rate => Sys2Proof.Machine.execStationReset stn rate s
  | .listenTimerExpiry => Sys2Proof.Machine.execListenTimerExpiry s
  | .secondsSinceResetTick => Sys2Proof.Machine.execSecondsSinceResetTick s
  | .lineActiveRising line => Sys2Proof.Machine.execLineActiveRising line s
  | .lineClear line => Sys2Proof.Machine.execLineClear line s
  | .slicePeriodEnd inbound => Sys2Proof.Machine.execSlicePeriodEnd inbound s
  | .autoPause line => Sys2Proof.Machine.execAutoPause line s
  | .keyReleased line key => Sys2Proof.Machine.execKeyReleased line key s
  | .keyBecomeHeld line key => Sys2Proof.Machine.execKeyBecomeHeld line key s
  | .refusedKey line key => Sys2Proof.Machine.execRefusedKey line key s
  | .authorDigit line digit => Sys2Proof.Machine.execAuthorDigit line digit s
  | .authorEnter line => Sys2Proof.Machine.execAuthorEnter line s
  | .authorDigitTimeout line => Sys2Proof.Machine.execAuthorDigitTimeout line s
  | .newLetter line => Sys2Proof.Machine.execNewLetter line s
  | .resume line => Sys2Proof.Machine.execResume line s
  | .seekDigit line digit => Sys2Proof.Machine.execSeekDigit line digit s
  | .seekEnter line => Sys2Proof.Machine.execSeekEnter line s
  | .seekDigitTimeout line => Sys2Proof.Machine.execSeekDigitTimeout line s
  | .record line => Sys2Proof.Machine.execRecord line s
  | .stop line => Sys2Proof.Machine.execStop line s
  | .play line => Sys2Proof.Machine.execPlay line s
  | .windShortPress line wind => Sys2Proof.Machine.execWindShortPress line wind s
  | .windHeld line wind => Sys2Proof.Machine.execWindHeld line wind s
  | .windStep line => Sys2Proof.Machine.execWindStep line s
  | .windRelease line wind => Sys2Proof.Machine.execWindRelease line wind s
  | .goToStart line => Sys2Proof.Machine.execGoToStart line s
  | .goToEnd line => Sys2Proof.Machine.execGoToEnd line s
  | .insertOverwriteToggle line => Sys2Proof.Machine.execInsertOverwriteToggle line s
  | .instructionMark line => Sys2Proof.Machine.execInstructionMark line s
  | .priority line => Sys2Proof.Machine.execPriority line s
  | .endOfLetter line => Sys2Proof.Machine.execEndOfLetter line s
  | .discardPass line => Sys2Proof.Machine.execDiscardPass line s
  | .hold line => Sys2Proof.Machine.execHold line s
  | .promptEnded line => Sys2Proof.Machine.execPromptEnded line s
  | .heldTimerExpiry letter => Sys2Proof.Machine.execHeldTimerExpiry letter s
  | .waitTimerExpiry line => Sys2Proof.Machine.execWaitTimerExpiry line s
  | .beaconTimerExpiry => Sys2Proof.Machine.execBeaconTimerExpiry s
  | .beacon sender body => Sys2Proof.Machine.execBeacon sender body s
  | .silenceTimerExpiry station => Sys2Proof.Machine.execSilenceTimerExpiry station s
  | .numberClaimCompletes number => Sys2Proof.Machine.execNumberClaimCompletes number s
  | .claimWaitTimerExpiry => Sys2Proof.Machine.execClaimWaitTimerExpiry s
  | .numberClaim sender number => Sys2Proof.Machine.execNumberClaim sender number s
  | .claimObjection sender number claimer => Sys2Proof.Machine.execClaimObjection sender number claimer s
  | .objectionWindowExpiry number => Sys2Proof.Machine.execObjectionWindowExpiry number s
  | .locateCompletes tag => Sys2Proof.Machine.execLocateCompletes tag s
  | .locateQueuedTimeout line => Sys2Proof.Machine.execLocateQueuedTimeout line s
  | .collectionWindowExpiry line => Sys2Proof.Machine.execCollectionWindowExpiry line s
  | .locate sender author k tag => Sys2Proof.Machine.execLocate sender author k tag s
  | .locateAnswer sender tag author numbers => Sys2Proof.Machine.execLocateAnswer sender tag author numbers s
  | .fetch sender number author => Sys2Proof.Machine.execFetch sender number author s
  | .fetchAccept sender snapshot => Sys2Proof.Machine.execFetchAccept sender snapshot s
  | .fetchRefuse sender number reason => Sys2Proof.Machine.execFetchRefuse sender number reason s
  | .fetchAcceptCompletes transfer => Sys2Proof.Machine.execFetchAcceptCompletes transfer s
  | .transferDataCompletes transfer data => Sys2Proof.Machine.execTransferDataCompletes transfer data s
  | .transferEndCompletes transfer => Sys2Proof.Machine.execTransferEndCompletes transfer s
  | .transferData sender data => Sys2Proof.Machine.execTransferData sender data s
  | .transferEnd sender number check => Sys2Proof.Machine.execTransferEnd sender number check s
  | .acceptTimerExpiry => Sys2Proof.Machine.execAcceptTimerExpiry s
  | .receiveTimerExpiry => Sys2Proof.Machine.execReceiveTimerExpiry s
  | .fetchCancel sender number reason => Sys2Proof.Machine.execFetchCancel sender number reason s
  | .take sender number => Sys2Proof.Machine.execTake sender number s
  | .released sender number => Sys2Proof.Machine.execReleased sender number s
  | .takeUnknown sender number => Sys2Proof.Machine.execTakeUnknown sender number s
  | .takeTimerExpiry number => Sys2Proof.Machine.execTakeTimerExpiry number s
  | .checkTimerExpiry => Sys2Proof.Machine.execCheckTimerExpiry s
  | .transferCheck sender number => Sys2Proof.Machine.execTransferCheck sender number s
  | .checkAnswer sender number reply => Sys2Proof.Machine.execCheckAnswer sender number reply s
  | .offerCompletes delivery => Sys2Proof.Machine.execOfferCompletes delivery s
  | .offerAccept sender number tag => Sys2Proof.Machine.execOfferAccept sender number tag s
  | .offerRefuse sender number reason => Sys2Proof.Machine.execOfferRefuse sender number reason s
  | .offerAnswerTimeout => Sys2Proof.Machine.execOfferAnswerTimeout s
  | .retryTimerExpiry => Sys2Proof.Machine.execRetryTimerExpiry s
  | .letterDataCompletes delivery data => Sys2Proof.Machine.execLetterDataCompletes delivery data s
  | .letterEndCompletes delivery => Sys2Proof.Machine.execLetterEndCompletes delivery s
  | .filed sender number tag => Sys2Proof.Machine.execFiled sender number tag s
  | .deliveryRejected sender number tag reason => Sys2Proof.Machine.execDeliveryRejected sender number tag reason s
  | .letterEndAnswerTimeout => Sys2Proof.Machine.execLetterEndAnswerTimeout s
  | .offer sender body => Sys2Proof.Machine.execOffer sender body s
  | .settings sender dest body => Sys2Proof.Machine.execSettings sender dest body s
  | .queryCounters sender dest => Sys2Proof.Machine.execQueryCounters sender dest s
  | .queryErrorRecord sender dest => Sys2Proof.Machine.execQueryErrorRecord sender dest s
  | .queryLetterSummary sender dest => Sys2Proof.Machine.execQueryLetterSummary sender dest s
  | .queryLineStates sender dest => Sys2Proof.Machine.execQueryLineStates sender dest s
  | .queryClearCounters sender dest => Sys2Proof.Machine.execQueryClearCounters sender dest s
  | .queryUnknownKind sender dest kind => Sys2Proof.Machine.execQueryUnknownKind sender dest kind s
  | .serviceFrameDiscard sender kind => Sys2Proof.Machine.execServiceFrameDiscard sender kind s
  | .frameReception frame => Sys2Proof.Machine.execFrameReception frame s
  | .transmitArbiterChoose => Sys2Proof.Machine.execTransmitArbiterChoose s
  | .lostArbitration => Sys2Proof.Machine.execLostArbitration s
  | .frameSuccess => Sys2Proof.Machine.execFrameSuccess s
  | .frameAttemptFailed kinds => Sys2Proof.Machine.execFrameAttemptFailed kinds s
  | .receiveError kinds => Sys2Proof.Machine.execReceiveError kinds s
  | .linkRecovery => Sys2Proof.Machine.execLinkRecovery s
  | .stuckEvent => Sys2Proof.Machine.execStuckEvent s
  | .busViewIdle => Sys2Proof.Machine.execBusViewIdle s
  | .holdOffExpiry => Sys2Proof.Machine.execHoldOffExpiry s
  | .windKeyRecognised line wind => Sys2Proof.Machine.execWindKeyRecognised line wind s
  | .keyIgnoredInIdle line key => Sys2Proof.Machine.execKeyIgnoredInIdle line key s
  | .currentFrameReattempt => Sys2Proof.Machine.execCurrentFrameReattempt s

end Sys2Proof.Machine
end

