-- ==== Sys2Proof/Machine/Ticks.lean ====
section
/-! DEFINITION. The three clocks: what a frame sync, 10 µs of the timebase and a bus bit do, and the
steps they owe (R52, R69, R93 to R106, R111 to R124; log 2). A clock only moves counters, measures and
pins; every change with a row in the table is left to that row, as a report. -/

namespace Sys2Proof.Machine

/-! ### The Tone Unit at one sample (R93 to R102) -/

/-- 40 times 536,838,144.5: a window's sum of squares at 0 dBFS (R93). -/
def fullScaleSum : Nat := 21473525780

/-- The sum of squares of a window at 0 dBFS, in the unit of the filters' values. -/
def zeroLevel : Nat := filterScale.natAbs ^ 2 * fullScaleSum

/-- A level stands `10 e / m` dB below 0 dBFS or higher: level is at least 10^(-e/m) of it. -/
def levelAtLeast (m e level : Nat) : Bool := zeroLevel ^ m ≤ level ^ m * 10 ^ e

/-- The thresholds of a detector: on from -28 dBFS and off below -34 for a keypad filter (R94), on from
-45 and off below -52 for the speech detector (R95). -/
def turnsOn (j : Fin 9) (level : Nat) : Bool :=
  if j = 8 then levelAtLeast 2 9 level else levelAtLeast 5 14 level
def staysOn (j : Fin 9) (level : Nat) : Bool :=
  if j = 8 then levelAtLeast 5 26 level else levelAtLeast 5 17 level

/-- The sum of the squares of a window (R93). -/
def sumSquares (window : List Int) : Nat := (window.map fun x => x.natAbs * x.natAbs).sum

/-- A detector after one sample through its filter (R93 to R95). -/
def Detector.feed (sections : List Biquad) (j : Fin 9) (x : Sample) (d : Detector) : Detector :=
  let out := cascadeStep sections d.history (filterScale * x.toInt)
  let window := d.window.drop 1 ++ [out.2]
  let level := sumSquares window
  ⟨out.1, window, level, if d.on then staysOn j level else turnsOn j level⟩

/-- The levels of two filters differ by at most 8 dB (R96). -/
def twistFits (a b : Nat) : Bool := a ^ 5 ≤ 10 ^ 4 * b ^ 5 && b ^ 5 ≤ 10 ^ 4 * a ^ 5

/-- The key of a pair: row by low tone, column by high tone (R96). -/
def pairKey (low high : Nat) : Key :=
  ([.k1, .k2, .k3, .kA, .k4, .k5, .k6, .kB, .k7, .k8, .k9, .kC, .star, .k0, .hash, .kD] : List Key).getD
    (4 * low + high) .kD

/-- The one filter that is on in a group of four from `base` on, if exactly one is (R96). -/
def oneOn (ds : Vector Detector 9) (base : Nat) : Option Nat :=
  match (List.range 4).filter fun j => (ds.toList.getD (base + j) .reset).on with
  | [j] => some j
  | _ => none

/-- The valid pair observed, as its key (R96). -/
def observe (ds : Vector Detector 9) : Option Key :=
  match oneOn ds 0, oneOn ds 4 with
  | some a, some b =>
      if twistFits (ds.toList.getD a .reset).level (ds.toList.getD (4 + b) .reset).level then some (pairKey a b)
      else none
  | _, _ => none

/-- What the Tone Unit reports at a sample (R97 to R100). -/
inductive KeyEvent where
  | recognised (k : Key)
  | released (k : Key)
  | held (k : Key)
deriving DecidableEq, Repr

/-- With no key down, the candidate (R97). -/
def Tone.seekKey (t : Tone) (seen : Option Key) : Tone × List KeyEvent :=
  match seen with
  | none => ({ t with candidate := none, candidateRun := 0 }, [])
  | some k =>
      let run := if t.candidate = some k then t.candidateRun + 1 else 1
      ({ t with candidate := some k, candidateRun := run },
        if Config.keySamples ≤ run then [.recognised k] else [])

/-- With a key down (R98 to R100). A key that becomes held at the sample of its release is reported held,
and then released. -/
def Tone.followKey (t : Tone) (k : Key) (seen : Option Key) : Tone × List KeyEvent :=
  let down := min Config.heldSamples (t.downRun + 1)
  let held : List KeyEvent :=
    if t.heldMark = false ∧ down = Config.heldSamples then [.held k] else []
  match seen with
  | some k' =>
      if k' = k then ({ t with downRun := down, gapRun := 0 }, held)
      else ({ t with downRun := down, candidate := some k', candidateRun := 1 }, held ++ [.released k])
  | none =>
      let gap := t.gapRun + 1
      ({ t with downRun := down, gapRun := gap },
        if Config.gapSamples ≤ gap then held ++ [.released k] else held)

/-- A Tone Unit after one inbound sample, in the order of R101, and the key events it reports. -/
def Tone.feed (bank : FilterBank) (x : Sample) (t : Tone) : Tone × List KeyEvent :=
  let ds := Vector.ofFn fun j => (t.detectors[j]).feed (bank.sections j) j x
  let t := { t with input := t.input.drop 1 ++ [x], detectors := ds }
  let r := match t.keyDown with
    | none => t.seekKey (observe ds)
    | some k => t.followKey k (observe ds)
  ({ r.1 with
      toneTouched := r.1.toneTouched || (ds.toList.take 8).any (·.on)
      speech := r.1.speech || (ds.toList.drop 8).any (·.on) }, r.2)

/-! ### Which row a key event is (R71 to R83) -/

/-- The row of a key taken in READY or, but for Record, in RECORDING (R80, R82). -/
def workKeyRow (l : LineNo) (k : Key) : Instr :=
  match k with
  | .k1 => .record l
  | .k2 => .stop l
  | .k3 => .play l
  | .k4 => .windKeyRecognised l .rewind
  | .k5 => .windKeyRecognised l .forward
  | .k6 => .insertOverwriteToggle l
  | .k7 => .instructionMark l
  | .k8 => .priority l
  | .k9 => .endOfLetter l
  | .k0 => .goToStart l
  | .kB => .goToEnd l
  | .kC => .discardPass l
  | .kD => .hold l
  | .kA | .star | .hash => .refusedKey l k

/-- The row of a recognised key in a line state (R71). -/
def keyRow (st : LineState) (l : LineNo) (k : Key) : Instr :=
  match st with
  | .idle => .keyIgnoredInIdle l k
  | .author =>
      match keyDigit k with
      | some d => .authorDigit l d
      | none => if k = .hash then .authorEnter l else .refusedKey l k
  | .select =>
      match k with
      | .kA => .newLetter l
      | .star => .resume l
      | _ => .refusedKey l k
  | .seek =>
      match keyDigit k with
      | some d => .seekDigit l d
      | none => if k = .hash then .seekEnter l else .refusedKey l k
  | .locate | .fetch | .winding => .refusedKey l k
  | .ready => if k = .k2 then .refusedKey l k else workKeyRow l k
  | .recording => if k = .k1 then .refusedKey l k else workKeyRow l k
  | .playing =>
      match k with
      | .k3 | .k6 | .k7 | .k8 => .refusedKey l k
      | _ => workKeyRow l k

/-- The row of a release (R81, R98). -/
def releaseRow (c : Line) (held : Bool) (l : LineNo) (k : Key) : Instr :=
  match keyWind k, c.state with
  | some w, .winding => .windRelease l w
  | some w, .ready | some w, .playing => if held then .keyReleased l k else .windShortPress l w
  | _, _ => .keyReleased l k

/-- The row of a key become held (R81, R100). -/
def heldRow (c : Line) (l : LineNo) (k : Key) : Instr :=
  match keyWind k, c.state with
  | some w, .ready | some w, .playing => .windHeld l w
  | _, _ => .keyBecomeHeld l k

/-- The line as the row of a key become held leaves it (R81). -/
def Line.afterHeld (c : Line) (k : Key) : Line :=
  match c.state with
  | .ready | .playing => if c.key = some k ∧ (keyWind k).isSome = true then { c with state := .winding } else c
  | _ => c

/-- The rows of a line's key events at one sample: a release after a key became held finds the line and
the held mark as that left them. -/
def eventRows (l : LineNo) : Line → Bool → List KeyEvent → List Instr
  | _, _, [] => []
  | c, held, .recognised k :: rest => keyRow c.state l k :: eventRows l c held rest
  | c, held, .released k :: rest => releaseRow c held l k :: eventRows l c held rest
  | c, _, .held k :: rest => heldRow c l k :: eventRows l (c.afterHeld k) true rest

namespace State

/-! ### A frame sync (R52, R65, R105) -/

/-- The sample a line sends: the prompt's, or the slice's, or 0 (R65, R108). -/
def outSample (s : State) (l : LineNo) : Sample :=
  match s.tones[l].prompt with
  | some r => r.sample
  | none =>
      match s.ports[l].outbound with
      | some samples => samples.getD s.frames 0#16
      | none => 0#16

/-- A prompt moves on by one sample; one that has run out stays, with nothing left, until its end is
reported (R105). -/
def stepPrompt (s : State) (l : LineNo) : State :=
  match s.tones[l].prompt with
  | none => s
  | some r =>
      match r.next with
      | some r' => s.onTone l fun t => { t with prompt := some r' }
      | none =>
          (s.onTone l fun t => { t with prompt := some { r with left := 0 } }).report (.promptEnded l)

/-- One line at a frame sync. The row of a key event stands before the end of a prompt whose last sample is
sent at the same frame sync: the spec gives no order (DESIGN CHOICE, log 10). A prompt that the key asks
for then replaces the ended one (R107). -/
def lineSync (s : State) (l : LineNo) (x : Sample) : State :=
  let out := s.outSample l
  let s := s.onPort l fun p => { p with out := out, inbound := p.inbound ++ [x] }
  let r := s.tones[l].feed s.filters x
  let s := (s.onTone l fun _ => r.1).reportAll (eventRows l s.lines[l] s.tones[l].heldMark r.2)
  s.stepPrompt l

/-- The inbound slices of the period with their flags (R102). -/
def periodSlices (s : State) : List InSlice :=
  allLines.map fun l => ⟨s.ports[l].inbound, s.tones[l].toneTouched, s.tones[l].speech⟩

/-- A frame sync: a sample each way on every line; the 160th of a period ends it (R52). -/
def frameSync (s : State) (inbound : Vector Sample 8) : State :=
  let s := allLines.foldl (fun s l => s.lineSync l inbound[l]) s
  let s := { s with frames := s.frames + 1 }
  if Config.sliceSamples ≤ s.frames then s.report (.slicePeriodEnd s.periodSlices) else s

/-! ### The timebase -/

/-- A running timer falls by 1 ms; it stays at 0 until its expiry is taken. -/
def down (t : Option Nat) : Option Nat := t.map (· - 1)

/-- A timer runs out in this millisecond. -/
def runsOut (t : Option Nat) : Bool := t == some 1

/-- Report a step when a condition holds. -/
def reportIf (c : Bool) (i : Instr) (s : State) : State := when c (·.report i) s

/-- The timers of one line (R70, R81). Every millisecond timer of the station falls at the boundary of one
millisecond that runs free, so a timer started between two boundaries runs out up to 1 ms early: the spec
gives neither resolution nor phase (DESIGN CHOICE, log 35). -/
def lineMs (s : State) (l : LineNo) : State :=
  let c := s.lines[l]
  let s := s.onLine l fun c =>
    { c with digitTimer := down c.digitTimer, waitTimer := down c.waitTimer, windTimer := down c.windTimer }
  let s := reportIf (runsOut c.digitTimer)
    (if c.state = .seek then .seekDigitTimeout l else .authorDigitTimeout l) s
  let s := reportIf (runsOut c.waitTimer) (.waitTimerExpiry l) s
  reportIf (runsOut c.windTimer) (.windStep l) s

/-- The held timer of one entry (R27). -/
def letterMs (s : State) (i : LetterIx) : State :=
  let t := s.letters[i].bind (·.held)
  reportIf (runsOut t) (.heldTimerExpiry i) (s.onLetter i fun x => { x with held := down x.held })

/-- The silence timers (R138). -/
def peersMs (s : State) : State :=
  let out := s.peers.filter fun p => p.present && p.silence + 1 == Config.silenceMs
  let s := { s with peers := s.peers.map fun p => { p with silence := min Config.silenceMs (p.silence + 1) } }
  out.foldl (fun s p => s.report (.silenceTimerExpiry p.station)) s

/-- The timers of numbering: beacon and claim wait (R134, R147). They fall at the shared millisecond
boundary, up to 1 ms early (DESIGN CHOICE, log 35). -/
def numsMs (s : State) : State :=
  let n := s.nums
  let s := s.onNums fun n =>
    { n with
      beacon := down n.beacon
      wait := down n.wait }
  let s := reportIf (runsOut n.beacon) .beaconTimerExpiry s
  reportIf (runsOut n.wait) .claimWaitTimerExpiry s

/-- The timers of the transfer engine (R155, R158, R160, R164, R169). -/
def xferMs (s : State) : State :=
  let x := s.xfer
  let s := s.onXfer fun x =>
    { x with
      collections := x.collections.map fun c => { c with timer := c.timer - 1 }
      incoming := x.incoming.map fun c => { c with timer := c.timer - 1 }
      settling := x.settling.map fun e => { e with timer := e.timer - 1 }
      outgoing := x.outgoing.map fun o => { o with timer := down o.timer } }
  let s := (x.collections.filter (·.timer == 1)).foldl
    (fun s c => s.report (if c.collecting then .collectionWindowExpiry c.line else .locateQueuedTimeout c.line)) s
  let s := reportIf (x.incoming.any fun c => c.timer == 1 && c.snapshot.isNone) .acceptTimerExpiry s
  let s := reportIf (x.incoming.any fun c => c.timer == 1 && c.snapshot.isSome) .receiveTimerExpiry s
  let s := (x.settling.filter (·.timer == 1)).foldl (fun s e => s.report (.takeTimerExpiry e.number)) s
  reportIf (x.outgoing.any fun o => runsOut o.timer) .checkTimerExpiry s

/-- The timers of the delivery engine (R176, R177, R180). -/
def delivMs (s : State) : State :=
  let d := s.deliv
  let s := s.onDeliv fun d =>
    { d with active := d.active.map fun a => { a with timer := down a.timer }, retry := down d.retry }
  let s := reportIf (d.active.any fun a => runsOut a.timer && a.phase != .ended) .offerAnswerTimeout s
  let s := reportIf (d.active.any fun a => runsOut a.timer && a.phase == .ended) .letterEndAnswerTimeout s
  reportIf (runsOut d.retry) .retryTimerExpiry s

/-- LISTEN and the seconds count (R135, R190). -/
def controlMs (s : State) : State :=
  let t := s.bus.ctl.listen
  let s := s.onBus fun b => { b with ctl := { b.ctl with listen := down b.ctl.listen } }
  let ms := s.subMs + 1
  let s := if 1000 ≤ ms then ({ s with subMs := 0 }).report .secondsSinceResetTick else { s with subMs := ms }
  reportIf (runsOut t) .listenTimerExpiry s

/-- One millisecond, every timer in a fixed order (log 10). -/
def millisecond (s : State) : State :=
  let s := allLines.foldl lineMs s.controlMs
  let s := allLetters.foldl letterMs s
  s.peersMs.numsMs.xferMs.delivMs

/-- The line-active input of one line at 10 µs: a level that has held for 20 ms or more is owed to the line
until it is taken, so one whose report a station reset took away is owed again (R69, log 3). -/
def linePin (s : State) (l : LineNo) (level : Bool) : State :=
  let p := s.ports[l]
  if level = p.active then s.onPort l fun p => { p with activeRun := 0 }
  else
    reportIf (Config.lineActiveHold ≤ p.activeRun + 1) (if level then .lineActiveRising l else .lineClear l)
      (s.onPort l fun p => { p with activeRun := p.activeRun + 1 })

/-- The objection window at 10 µs: 50 ms from the claim's completion are 5,000 of them (R151). They run
free, so an entry can leave up to 10 µs early (DESIGN CHOICE, log 39). -/
def windowUnits (s : State) : State :=
  let w := s.nums.window
  let s := s.onNums fun n => { n with window := n.window.map fun e => { e with left := e.left - 1 } }
  (w.filter (·.left == 1)).foldl (fun s e => s.report (.objectionWindowExpiry e.number)) s

/-- The time since the last delivery frame, counted to the longest pacing gap (R131, log 33) in units of
10 µs that run free, so a gap can pass up to 10 µs early (DESIGN CHOICE, log 39). -/
def paceLink (s : State) : State :=
  s.onBus (Bus.onLink fun k =>
    { k with lastDelivery := k.lastDelivery.map fun d => (d.1, min 255 (d.2 + 1)) })

/-- 10 µs of the station timebase. -/
def timebase (s : State) (levels : Vector Bool 8) : State :=
  let s := allLines.foldl (fun s l => s.linePin l levels[l]) s.paceLink.windowUnits
  if 100 ≤ s.sub10us + 1 then { s with sub10us := 0 }.millisecond
  else { s with sub10us := s.sub10us + 1 }

/-! ### A bus bit (R111, R115 to R124) -/

/-- The station acknowledges at this bit: the slot of a good frame it receives, unless DETACHED (R116,
R117). -/
def acknowledges (s : State) : Bool :=
  let k := s.bus.link
  k.view == .inFrame && !k.sending && !s.isDetached && k.rx.any fun r => !r.inBody && r.tail == 0

/-- The level the station drives at this bit: a burst, its frame, an acknowledgement, or recessive
(R115, R116, R119). -/
def drives (s : State) : Bool :=
  let k := s.bus.link
  if 0 < k.burst ∧ k.burstDelay = 0 then false
  else if k.sending then k.tx.headD true
  else !s.acknowledges

/-- The burst moves on by one bit (R119). -/
def stepBurst (k : Link) : Link :=
  if 0 < k.burstDelay then { k with burstDelay := k.burstDelay - 1 } else { k with burst := k.burst - 1 }

/-- The runs of equal bits after a level, before a recovery run is taken off (R110, R120, R124). -/
def stepRuns (level : Bool) (k : Link) : Link :=
  { k with
    recessiveRun := if level then min 16 (k.recessiveRun + 1) else 0
    dominantRun := if level then 0 else k.dominantRun + 1 }

/-- A recovery run of a DETACHED link: at 16 recessive bits the run returns to 0 (R124). -/
def stepRecovery (s : State) : State :=
  if s.isDetached = true ∧ s.bus.link.recessiveRun = 16 then
    reportIf (s.bus.link.recoveryRuns + 1 == 96) .linkRecovery
      (s.onBus (Bus.onLink fun k => { k with recessiveRun := 0, recoveryRuns := min 96 (k.recoveryRuns + 1) }))
  else s

/-- The frame in progress takes its next form, and the sender's next bit moves up. -/
def follow (s : State) (r : Scan) : State :=
  s.onBus (Bus.onLink fun k => { k with rx := some r, tx := k.tx.drop 1 })

/-- A bit of a frame the station receives (R114, R116, R118). -/
def receiveBit (s : State) (r : Scan) (level : Bool) : State :=
  match r.push level with
  | .going r' => s.follow r'
  | .error kinds r' => (s.follow r').report (.receiveError kinds)
  | .complete r' => (s.follow r').report (.frameReception r'.frame)

/-- A bit of a frame the station sends (R115, R116, R118). -/
def sendBit (s : State) (r : Scan) (sent level : Bool) : State :=
  match r.senderSees sent level with
  | .lost => (s.report .lostArbitration).receiveBit r level
  | .error kinds => s.report (.frameAttemptFailed kinds)
  | .same =>
      match r.push level with
      | .going r' => s.follow r'
      | .error kinds _ => s.report (.frameAttemptFailed kinds)
      | .complete r' => (s.follow r').report .frameSuccess

/-- An idle bit: the hold-off falls (R122). -/
def idleBit (s : State) : State :=
  let t := s.bus.link.holdOff
  reportIf (runsOut t) .holdOffExpiry (s.onBus (Bus.onLink fun k => { k with holdOff := down k.holdOff }))

/-- Another station's start bit (R111, R122). -/
def startBit (s : State) : State :=
  (s.onBus (Bus.onLink fun k => { k with view := .inFrame, holdOff := none })).receiveBit .empty false

/-- What a bit does by the bus view; `run` is the recessive run with this bit (R111). -/
def viewBit (s : State) (sent level : Bool) (run : Nat) : State :=
  match s.bus.link.view with
  | .idle => if level then s.idleBit else s.startBit
  | .inFrame =>
      match s.bus.link.rx with
      | some r => if s.bus.link.sending then s.sendBit r sent level else s.receiveBit r level
      | none => s
  | .joining | .errorWait => reportIf (9 ≤ run) .busViewIdle s
  | .stuckWait => reportIf (16 ≤ run) .busViewIdle s

/-- A bus bit: the level is dominant while any station drives dominant (R111), and a disturbance turns the
level this station sees (R118, log 22); 64 dominant bits are a stuck event (R120). An UNNUMBERED station
takes no part (R117). -/
def busBit (s : State) (others disturbed : Bool) : State :=
  if s.isNumbered then
    let sent := s.drives
    let level := (others && sent) != disturbed
    let s := s.onBus (Bus.onLink fun k => stepRuns level (stepBurst k))
    let run := s.bus.link.recessiveRun
    let s := s.stepRecovery
    if s.bus.link.dominantRun = 64 then s.report .stuckEvent else s.viewBit sent level run
  else s

/-- The step owed before a bus bit: a frame to start at its boundary (R115, R126, R127). -/
def startDue (s : State) : Option Instr :=
  if s.canStart then
    if s.bus.link.current.isSome then some .currentFrameReattempt
    else s.arbiterTakes.map fun _ => .transmitArbiterChoose
  else none

/-- RESETN goes low: every context has its reset value, and until the station is reset, at the rise of
RESETN, no clock moves it: it takes no part on the bus, and its lines send zeros (R190, log 37). -/
def resetLow (s : State) : State := { s.afresh 0 0 with resetHeld := true }

/-- A tick that the clocks bring while RESETN is high; a bus bit first lets a frame that is due start
(log 2). -/
def clockTick (s : State) (t : Tick) (rest : List Tick) : State :=
  match t with
  | .frameSync inbound => { s with ticks := rest }.frameSync inbound
  | .timebase levels => { s with ticks := rest }.timebase levels
  | .busBit others disturbed =>
      match s.startDue with
      | some i => s.report i
      | none => { s with ticks := rest }.busBit others disturbed
  | .resetLow => { s with ticks := rest }.resetLow

/-- The first tick is taken. While RESETN is held low nothing moves (R190). -/
def tick (s : State) (t : Tick) (rest : List Tick) : State :=
  if s.resetHeld then { s with ticks := rest } else s.clockTick t rest

end State

end Sys2Proof.Machine
end

