-- ==== Sys2Proof/Machine/Step.lean ====
section
/-! DEFINITION. One step: the command at the front of the queue; on an empty queue the oldest report,
then the first tick; with nothing waiting the station idles (logs 1, 2). -/

namespace Sys2Proof.Machine

/-- One step of the station. A report leaves its list in its own meaning, by `State.taken`. -/
def step (s : State) : Host.Outcome State Fault Refusal :=
  match s.pending with
  | c :: rest => exec c { s with pending := rest }
  | [] =>
      match s.reports with
      | r :: _ => exec r s
      | [] =>
          match s.ticks with
          | t :: rest => .next (s.tick t rest)
          | [] => .next s

/-- The state with the command a word spells put at the front of the queue; no word spells one. -/
def State.withFetchWord (s : State) (nbits w : Nat) : State :=
  match decodeTableWord nbits w with
  | some c => { s with pending := c :: s.pending }
  | none => s

end Sys2Proof.Machine
end

