-- ==== Sys2Proof/Safety.lean ====
section
/-! DEFINITION. What statements about the station are made of: its invariants, the hypotheses on a
state, the bounds of the filters, and the frames that say what a command leaves. -/

namespace Sys2Proof.Machine

/-! ### The bounds of the filters (R94, R95) -/

/-- The squared magnitude of `a + b z + c z^2` where z has the cosine `x`. -/
noncomputable def quadPower (a b c : Int) (x : ℝ) : ℝ :=
  (a : ℝ) ^ 2 + (b : ℝ) ^ 2 + (c : ℝ) ^ 2 + 2 * (b : ℝ) * ((a : ℝ) + c) * x + 2 * (a : ℝ) * c * (2 * x ^ 2 - 1)

/-- The power gain of a cascade at `f` Hz, at 8,000 samples a second. -/
noncomputable def powerGain (sections : List Biquad) (f : ℝ) : ℝ :=
  (sections.map fun q =>
    quadPower q.b0 q.b1 q.b2 (Real.cos (2 * Real.pi * f / 8000)) /
      quadPower Biquad.unit q.a1 q.a2 (Real.cos (2 * Real.pi * f / 8000))).prod

/-- A section is stable. -/
def Biquad.Stable (q : Biquad) : Prop := |q.a2| < Biquad.unit ∧ |q.a1| < Biquad.unit + q.a2

/-- A keypad filter of nominal frequency `c` (R94): from 0 to -1 dB within 1 %, at least 20 dB below the
nominal frequency's gain beyond 2 %, and falling in between. -/
def KeypadConforms (sections : List Biquad) (c : ℝ) : Prop :=
  (∀ q ∈ sections, q.Stable) ∧
    (∀ f, |f - c| ≤ c / 100 → powerGain sections f ≤ 1 ∧ 1 ≤ 10 * powerGain sections f ^ 10) ∧
    (∀ f, 0 ≤ f → f ≤ 4000 → c / 50 < |f - c| → 100 * powerGain sections f ≤ powerGain sections c) ∧
    (∀ f g, c + c / 100 ≤ f → f < g → g ≤ c + c / 50 → powerGain sections g < powerGain sections f) ∧
    ∀ f g, c - c / 50 ≤ g → g < f → f ≤ c - c / 100 → powerGain sections g < powerGain sections f

/-- The speech detector's filter (R95): from +1 to -1 dB from 300 to 3,000 Hz, at least 20 dB lower below
200 and above 3,600 Hz. -/
def SpeechConforms (sections : List Biquad) : Prop :=
  (∀ q ∈ sections, q.Stable) ∧
    (∀ f, 300 ≤ f → f ≤ 3000 → powerGain sections f ^ 10 ≤ 10 ∧ 1 ≤ 10 * powerGain sections f ^ 10) ∧
    ∀ f g, 0 ≤ f → f ≤ 4000 → f < 200 ∨ 3600 < f → 300 ≤ g → g ≤ 3000 →
      100 * powerGain sections f ≤ powerGain sections g

/-- The nominal frequencies of the keypad filters, in the order of the detectors (R94). -/
def keypadFrequencies : Vector Nat 8 := #v[620, 700, 780, 860, 1250, 1380, 1520, 1680]

/-- The filters meet the bounds of R94 and R95. What is claimed of the sounds that turn a detector on
takes this of `s.filters` (log 12). -/
def FilterBank.Conforms (k : FilterBank) : Prop :=
  (∀ j : Fin 8, KeypadConforms k.keypad[j] keypadFrequencies[j]) ∧ SpeechConforms (k.highPass ++ k.lowPass)

namespace State

/-! ### Invariants -/

/-- The SDRAM list is in its canonical form (log 5). -/
abbrev MemoryCanonical (s : State) : Prop := Memory.wf s.seg.mem = true

/-- The Control Queue holds at most 16 frames (R129). -/
abbrev QueueBounded (s : State) : Prop := s.bus.link.control.length ≤ Config.controlFrames

/-- The fault count is at most 256 (R110, R121). -/
abbrev FaultBounded (s : State) : Prop := s.bus.link.fault ≤ Config.faultLimit

/-- The Recent Release list holds at most 8 pairs, the unconfirmed-end list at most 4 (R154, R173). -/
abbrev ListsBounded (s : State) : Prop := s.xfer.releases.length ≤ 8 ∧ s.deliv.unconfirmed.length ≤ 4

/-- An UNNUMBERED station has fault count 0 (R117, R191). -/
abbrev UnnumberedQuiet (s : State) : Prop := s.bus.ctl.state = .unnumbered → s.bus.link.fault = 0

/-- The Block Table lists existing blocks, each once, in rising order (R35, R36). -/
abbrev TableRising (s : State) : Prop :=
  s.seg.blocks.Pairwise (fun x y => x.num < y.num) ∧ ∀ x ∈ s.seg.blocks, x.num < Config.blockCount

/-- The segment records of all letters (R7). -/
def allRecords (s : State) : List SegRec := s.letters.toList.flatMap fun x => (x.map (·.chain)).getD []

/-- The reference count of every block is the number of records that name it, a block that none names is
FILLING, and every record names a block that is not FREE (R41). -/
abbrev CountsRight (s : State) : Prop :=
  (∀ x ∈ s.seg.blocks, x.refs = s.allRecords.countP (·.block == x.num) ∧ (x.refs = 0 → x.filler ≠ none)) ∧
    ∀ r ∈ s.allRecords, ∃ x ∈ s.seg.blocks, x.num = r.block

/-- The pool's free count and the records in chains are 49,152 (R43). -/
abbrev PoolRight (s : State) : Prop := s.seg.poolFree + s.allRecords.length = Config.poolRecords

/-- The FREE blocks are never fewer than the credits and the reservation, and no credit is above 128
(R44). -/
abbrev CreditsRight (s : State) : Prop :=
  s.seg.creditSum + s.seg.reservation ≤ s.seg.free ∧ ∀ l : LineNo, s.seg.credits[l] ≤ Config.lineCredit

/-! ### Hypotheses on a state -/

/-- No key is down on the line (R92). -/
abbrev KeyFree (s : State) (l : LineNo) : Prop := s.tones[l].keyDown = none

/-- The line is in a state. -/
abbrev LineIn (s : State) (l : LineNo) (st : LineState) : Prop := s.lines[l].state = st

/-- The line is in a state with the letter `x` of entry `i` attached (R5). -/
abbrev Works (s : State) (l : LineNo) (st : LineState) (i : LetterIx) (x : Letter) : Prop :=
  s.lines[l].state = st ∧ s.lines[l].attached = some i ∧ s.letters[i] = some x

/-- A frame can join the Control Queue without pushing another out (R129). -/
abbrev HasRoom (s : State) : Prop := s.bus.link.control.length < Config.controlFrames

/-- The Control Queue is full of protocol frames (R129). -/
abbrev QueueFull (s : State) : Prop :=
  Config.controlFrames ≤ s.bus.link.control.length ∧ ∀ q ∈ s.bus.link.control, q.msg.kind ≠ 0x1B

/-- The station is ACTIVE, in LISTEN, or either (R190). -/
abbrev Active (s : State) : Prop := s.bus.ctl.state = .active
abbrev Listening (s : State) : Prop := s.bus.ctl.state = .listen
abbrev Numbered (s : State) : Prop := s.bus.ctl.state ≠ .unnumbered

/-! ### Frames -/

/-- Every byte of the SDRAM reads as before. -/
def SameBytes (s t : State) : Prop := ∀ a : Nat, Memory.read t.seg.mem a = Memory.read s.seg.mem a

/-- Every line but one keeps its context, its Coder, its Tone Unit and its port. -/
def OtherLines (l : LineNo) (s t : State) : Prop :=
  ∀ m : LineNo, m ≠ l →
    t.lines[m] = s.lines[m] ∧ t.coders[m] = s.coders[m] ∧ t.tones[m] = s.tones[m] ∧ t.ports[m] = s.ports[m]

/-- Every line keeps its context, its Coder, its Tone Unit and its port. -/
def SameLines (s t : State) : Prop :=
  t.lines = s.lines ∧ t.coders = s.coders ∧ t.tones = s.tones ∧ t.ports = s.ports

/-- Every letter but one stays as it is. -/
def OtherLetters (i : LetterIx) (s t : State) : Prop := ∀ j : LetterIx, j ≠ i → t.letters[j] = s.letters[j]

/-- The bus side, segment memory, the peers, numbering, transfers and deliveries stay as they are. -/
def SameUnits (s t : State) : Prop :=
  t.bus = s.bus ∧ t.seg = s.seg ∧ t.peers = s.peers ∧ t.nums = s.nums ∧ t.xfer = s.xfer ∧ t.deliv = s.deliv

/-- What waits outside, the clocks' own counts and the model's counters stay as they are. -/
def SameOutside (s t : State) : Prop :=
  t.pending = s.pending ∧ t.ticks = s.ticks ∧ t.frames = s.frames ∧ t.sub10us = s.sub10us ∧
    t.subMs = s.subMs ∧ t.streamId = s.streamId ∧ t.freeIdx = s.freeIdx ∧ t.filters = s.filters ∧
    t.resetHeld = s.resetHeld

/-- Lines, letters, segment memory, transfers and deliveries stay as they are. -/
def SameWork (s t : State) : Prop :=
  SameLines s t ∧ t.letters = s.letters ∧ t.seg = s.seg ∧ t.xfer = s.xfer ∧ t.deliv = s.deliv

/-- The line's prompt, after the line asked for one (R105). -/
abbrev Sounds (t : State) (l : LineNo) (p : Prompt) : Prop := t.tones[l].prompt = some (.start p)

/-- A key recognised on a line: it is down, it is the line's recognised key, the other lines and what
waits outside are untouched (R97, R70). -/
def Recognised (l : LineNo) (k : Key) (s t : State) : Prop :=
  t.tones[l].keyDown = some k ∧ t.lines[l].key = some k ∧ OtherLines l s t ∧ SameOutside s t

/-- The station when the row `c` of a key has been taken and the key recognised, before the line acts on it
(R70, R97). -/
def pressed (s : State) (l : LineNo) (c : Instr) (k : Key) : State :=
  ((s.taken c).toneRecognised l k).onLine l fun x => { x with key := some k }

/-- One frame has joined the tail of the Control Queue, and nothing else of the bus side changed. -/
def Placed (dest : Station) (m : Msg) (s t : State) : Prop :=
  t.bus = { s.bus with link := { s.bus.link with control := s.bus.link.control ++ [⟨dest, m, 0⟩] } }

/-- A frame of no delivery or transfer stands in the Control Queue. -/
def InQueue (t : State) (dest : Station) (m : Msg) : Prop := (⟨dest, m, 0⟩ : QFrame) ∈ t.bus.link.control

/-- So many protocol frames met a Control Queue full of protocol frames, and so many events: the frames are
counted as abandoned, the events lost, and the queue is as it was (R129). -/
def FramesDropped (frames events : Nat) (s t : State) : Prop :=
  t.bus.link.control = s.bus.link.control ∧
    t.bus.counters = { s.bus.counters with
      framesAbandoned := s.bus.counters.framesAbandoned + BitVec.ofNat 32 frames
      eventsLost := s.bus.counters.eventsLost + BitVec.ofNat 32 events } ∧
    t.bus.ctl = { s.bus.ctl with eventSeq := s.bus.ctl.eventSeq + BitVec.ofNat 16 events }

/-- A letter was freed: its entry, its records, its place among the letters that wait for a number, its
objection window (R4, R143, R151). -/
def Freed (i : LetterIx) (x : Letter) (s t : State) : Prop :=
  t.letters[i] = none ∧ SameBytes s t ∧ t.seg.poolFree = s.seg.poolFree + x.chain.length ∧
    t.nums.waiting = s.nums.waiting.filter (· ≠ i) ∧ t.nums.window = s.nums.window.filter (·.letter ≠ i)

/-- The incoming transfer failed: its letter is freed, the reservation is 0, and the line that waits for
it, if one does, hears Refused and is in SELECT (R167). -/
def TransferFailed (inc : Incoming) (x : Letter) (s t : State) : Prop :=
  Freed inc.letter x s t ∧ OtherLetters inc.letter s t ∧ t.xfer = { s.xfer with incoming := none } ∧
    t.seg.reservation = 0 ∧ t.deliv = s.deliv ∧ t.peers = s.peers ∧
    (∀ l, s.fetchingLine inc.letter = some l →
      t.lines[l] = { s.lines[l] with state := .select, fetchRef := none, waitTimer := none } ∧
        t.Sounds l .refused ∧ OtherLines l s t) ∧
    (s.fetchingLine inc.letter = none → SameLines s t)

/-- A letter landed on a line in READY with the Ready prompt (R34, R78). -/
def Landed (l : LineNo) (i : LetterIx) (x : Letter) (s t : State) : Prop :=
  t.lines[l] = { s.lines[l] with
    state := .ready, attached := some i, locate := none, fetchRef := none, waitTimer := none } ∧
    t.Sounds l .ready ∧
    t.letters[i] = some { x with state := .open, line := some l, partner := none, held := none } ∧
    OtherLetters i s t ∧ OtherLines l s t

/-- A letter has become HELD for the full hold limit (R26 to R28). -/
def NowHeld (i : LetterIx) (x : Letter) (s t : State) : Prop :=
  t.letters[i] = some { x with
    state := .held, line := none, partner := none, held := some s.bus.ctl.settings.holdMs } ∧
    OtherLetters i s t ∧ SameLines s t

/-- The slice records the bytes of a block spell fill the bytes it uses (R39). -/
abbrev WalkWhole (s : State) (x : Block) : Prop := ((s.seg.records x).map (·.size)).sum = x.bytes

/-- Every byte outside one block reads as before. -/
def OtherBlocks (b : Nat) (s t : State) : Prop :=
  ∀ a : Nat, a < b * 1024 ∨ b * 1024 + 1024 ≤ a → Memory.read t.seg.mem a = Memory.read s.seg.mem a

/-- Every byte outside `n` bytes from an address reads as before. -/
def OtherBytes (a n : Nat) (s t : State) : Prop :=
  ∀ b : Nat, b < a ∨ a + n ≤ b → Memory.read t.seg.mem b = Memory.read s.seg.mem b

/-- A pass of a letter has ended (R15): the line's filling block is sealed, or freed, and nothing more is
written. `u` is the station when the Hold Buffer was committed. -/
def PassOver (l : LineNo) (i : LetterIx) (u t : State) : Prop :=
  SameBytes u t ∧ OtherLetters i u t ∧ t.seg.poolFree = u.seg.poolFree ∧
    ∀ b e, u.lines[l].filling = some b → t.seg.find b = some e → e.filler = none

/-- The event of a failed commit stands in the Control Queue, if there is an event destination (R16 to
R18). `u` is the station at the failure. -/
def FailTold (f : PassFail) (l : LineNo) (u t : State) : Prop :=
  u.bus.link.control.length ≤ 14 → ∀ d, u.bus.ctl.eventDest = some d → ∃ seq,
    t.InQueue d (.event (match f with | .memory => 3 | .length => 4 | .chain => 5) seq u.bus.ctl.seconds
      [BitVec.ofNat 8 l.val])

/-- A key has ended the pass of a RECORDING line, as Stop does, and goes on from READY (R82, R86, R87): the
tone-touched entries of the Hold Buffer are discarded and counted, the others have left toward commit, which
gives `u` and the failure `f` if one failed. `s` is the station before the key, `v` the one it goes on
from. -/
def PassEnded (l : LineNo) (i : LetterIx) (k : Key) (f : Option PassFail) (s u v : State) : Prop :=
  v.lines[l] = { s.lines[l] with state := .ready, hold := [], filling := none, key := some k } ∧
    (f = none → v.tones[l].prompt = s.tones[l].prompt) ∧
    (∀ g, f = some g → v.Sounds l (if g = .memory then .memoryFull else .refused) ∧ FailTold g l u v) ∧
    (∀ y, u.letters[i] = some y → v.letters[i] = some { y with pass := none }) ∧
    v.bus.counters.discardedTone = s.bus.counters.discardedTone +
      BitVec.ofNat 32 (s.lines[l].hold.filter fun h => h.toneTouched).length ∧
    v.coders[l] = { s.coders[l] with exit := none, silence := 0 } ∧ v.nums = s.nums ∧ v.xfer = s.xfer ∧
    v.deliv = s.deliv ∧ v.peers = s.peers ∧ PassOver l i u v ∧ Recognised l k s v

/-- What the Hold Buffer of a RECORDING line comes to at a key that ends the pass: the station after the
commits, and the failure of one, if one fails (R86, R87). -/
def flushAtKey (s : State) (l : LineNo) (c : Instr) (k : Key) : State × Option PassFail :=
  flushHold l (s.lines[l].hold.filter fun h => !h.toneTouched) ((s.pressed l c k).dropTouched l)

/-- The letter of a delivery is CLOSED without progress, its attempts as they were (R187). -/
abbrev DeliveryAborted (i : LetterIx) (x : Letter) (t : State) : Prop :=
  t.letters[i] = some { x with state := .closed, progress := none }

/-- What entry into DETACHED does: nothing is sent or offered, the deliveries are aborted, a transfer under
way halts (R122, R123, R168, R187). -/
def WentDetached (s t : State) : Prop :=
  t.bus.link.fault = 256 ∧ t.bus.link.sending = false ∧ t.bus.link.burst = 0 ∧ t.bus.link.holdOff = none ∧
    t.bus.link.offTransfer = none ∧ t.bus.link.offDelivery = none ∧ t.bus.link.recoveryRuns = 0 ∧
    t.bus.link.recessiveRun = 0 ∧ t.deliv.suspended = none ∧ t.deliv.retry = s.deliv.retry ∧
    (∀ i n x, s.deliv.suspended = some (i, n) → s.letters[i] = some x →
      (∀ a, s.deliv.active = some a → a.letter ≠ i) → DeliveryAborted i x t) ∧
    (∀ a x p, s.activeOf = some (a, x, p) → (∀ i n, s.deliv.suspended = some (i, n) → i ≠ a.letter) →
      DeliveryAborted a.letter x t ∧ t.deliv.active = none ∧
      (∀ g, a.phase = .ended → p.tag = some g → ⟨x.number, p.filing, g⟩ ∈ t.deliv.unconfirmed) ∧
      (a.phase ≠ .ended → t.deliv.unconfirmed = s.deliv.unconfirmed)) ∧
    t.xfer = { s.xfer with outgoing := s.xfer.outgoing.map fun o =>
      if o.phase = .accepted ∨ o.phase = .streaming ∨ (o.phase = .ended ∧ o.outstanding = true) then
        { o with phase := .halted }
      else o } ∧
    SameLines s t ∧ t.seg = s.seg ∧ t.nums = s.nums ∧ t.peers = s.peers

/-- A delivery has just been offered (R176): its Offer stands in the Control Queue, and its letter holds a
progress at the start of its chain. -/
def JustOffered (j : LetterIx) (st : Station) (name : Nat) (t : State) : Prop :=
  t.deliv.active = some ⟨j, name, .offered, none, false, false, none⟩ ∧
    ∃ x, t.letters[j] = some x ∧ x.progress = some ⟨0, 0, 0xFFFFFFFF#32, st, none⟩ ∧
      (⟨st, .offer (t.offerBody x), name⟩ : QFrame) ∈ t.bus.link.control

end State

/-- The owner of a frame acts when the frame is abandoned (R128). -/
def ownerActs : Msg → Bool
  | .numberClaim _ | .locate .. | .fetch .. | .fetchAccept _ | .transferData _ | .transferEnd .. | .offer _
  | .letterData .. | .letterEnd .. => true
  | _ => false

/-- The owner of a frame may place a frame of its own when the frame is abandoned: a Fetch Cancel (R167), a
Transfer Check (R169) or an Offer (R174). -/
def ownerPlaces : Msg → Bool
  | .fetch .. | .fetchAccept _ | .transferData _ | .transferEnd .. | .letterData .. | .letterEnd .. => true
  | _ => false

/-- The slices a chain stands for, each as its block and its index there, in order (R7). -/
def slicesOf (c : List SegRec) : List (Nat × Nat) :=
  c.flatMap fun r => (List.range r.count).map fun k => (r.block, r.first + k)

/-- The bytes slice items come to in a block that ends with `k` slices of silence: a silence joins the one
before it (R39, R163). -/
def joinedBytes : Nat → List RxItem → List Byte
  | k, [] => if k = 0 then [] else silenceRecord k
  | k, .voiced bytes :: rest => (if k = 0 then [] else silenceRecord k) ++ bytes ++ joinedBytes 0 rest
  | k, .silence n :: rest => joinedBytes (k + n) rest
  | k, .header .. :: rest => joinedBytes k rest

/-- What a frame in progress becomes as bits come in; it stops at an error or at the end. -/
def Scan.feed : Scan → List Bool → Seen
  | c, [] => .going c
  | c, b :: rest =>
      match c.push b with
      | .going c' => c'.feed rest
      | .error kinds c' => .error kinds c'
      | .complete c' => if rest = [] then .complete c' else .error [] c'

/-- The fields of a message fit its layout and pass the checks of R205. -/
def Msg.wf : Msg → Bool
  | .claimObjection n c => numberOk n && c ≤ 255
  | .fetchCancel n _ | .transferCheck n | .checkAnswer n _ | .numberClaim n | .fetchRefuse n _
  | .take n | .released n | .takeUnknown n | .transferEnd n _ => numberOk n
  | .locate a k _ => authorOk a && 1 ≤ k && k ≤ 9
  | .locateAnswer _ a ns => authorOk a && 1 ≤ ns.length && ns.length ≤ 8 && ns.all numberOk
  | .fetch n a => numberOk n && authorOk a
  | .fetchAccept p => p.wf
  | .offer o => o.wf
  | .offerAccept n t | .filed n t => numberOk n && tagOk t
  | .offerRefuse n r => numberOk n && r ≤ 255
  | .deliveryRejected n t r => numberOk n && tagOk t && r ≤ 255
  | .beacon b => b.wf
  | .transferData d => d.wf
  | .letterData _ _ t d => tagOk t && d.wf && d.bytes.length ≤ 240
  | .letterEnd _ n t _ => numberOk n && tagOk t
  | .settings b => b.wf
  | .settingsRefused _ => true
  | .query k => k ≤ 255
  | .queryAnswer k st content => k ≤ 255 && st ≤ 255 && content.length ≤ 246
  | .event k _ _ details => k ≤ 255 && details.length ≤ 241

end Sys2Proof.Machine
end

