-- ==== Sys2Proof/Certificates/Slice0/Obligations.lean ====
section
/-! DEFINITION. The statements for the provers. Each says what a command answers, on every state and
operands that meet its hypotheses, and what it leaves alone. -/

open Sys2Proof Sys2Proof.Machine Sys2Proof.Machine.State

/-! ### Steps -/

/-- A step takes the command at the front of the queue and runs it on the queue's rest. -/
def Obligations.StepRunsFrontCommand : Prop :=
  ∀ (c : Instr) (rest : List Instr) (s : State), s.pending = c :: rest →
    step s = exec c { s with pending := rest }

/-- Every step answers a next state. On an empty queue it runs the oldest report, then the first tick,
then idles (the model's order, logs 1 and 2). -/
def Obligations.StepAnswersNext : Prop :=
  ∀ s : State, (∃ t, step s = .next t) ∧
    (s.pending = [] →
      (∀ r rest, s.reports = r :: rest → step s = exec r s) ∧
      (∀ t rest, s.reports = [] → s.ticks = t :: rest → step s = .next (s.tick t rest)) ∧
      (s.reports = [] → s.ticks = [] → step s = .next s))

/-! ### Station Control -/

/-- Station reset: the straps give number, rate and station state, and every context has its reset
value; what waits outside and the filters stay (logs 3, 12). -/
def Obligations.ResetByStraps : Prop :=
  ∀ (stn : Fin 64) (rate : Fin 4) (s : State), ∃ t, exec (.stationReset stn rate) s = .next t ∧
    (stn.val = 0 ∨ stn.val = 63 ∨ rate.val = 3 →
      t.bus.ctl.number = none ∧ t.bus.ctl.state = .unnumbered ∧ t.bus.ctl.listen = none) ∧
    (stn.val ≠ 0 → stn.val ≠ 63 → rate.val ≠ 3 →
      t.bus.ctl.number = some stn.val ∧ t.bus.ctl.state = .listen ∧ t.bus.ctl.listen = some 2000) ∧
    (t.bus.ctl.rate = if rate.val = 0 then some .mbit2_5 else if rate.val = 1 then some .mbit5
      else if rate.val = 2 then some .mbit10 else none) ∧
    t.bus.ctl.accepted = false ∧ t.bus.ctl.settings = .default ∧ t.bus.counters = .zero ∧
    t.bus.ctl.eventDest = none ∧ t.bus.ctl.eventSeq = 0#16 ∧ t.bus.ctl.seconds = 0#32 ∧
    t.bus.link = .reset ∧ (∀ l : LineNo, t.lines[l] = .reset ∧ t.coders[l] = .reset ∧ t.tones[l] = .reset) ∧
    (∀ i : LetterIx, t.letters[i] = none) ∧ t.seg = .reset ∧ t.peers = [] ∧ t.nums = .reset ∧
    t.xfer = .reset ∧ t.deliv = .reset ∧ t.reports = [] ∧ t.pending = s.pending ∧ t.ticks = s.ticks ∧
    t.filters = s.filters ∧ t.resetHeld = false ∧ t.frames = 0 ∧
    ∀ l : LineNo, t.ports[l].active = s.ports[l].active ∧ t.ports[l].outbound = none

/-- The invariants hold after reset. -/
def Obligations.ResetKeepsInvariants : Prop :=
  State.reset.MemoryCanonical ∧ State.reset.QueueBounded ∧ State.reset.FaultBounded ∧
    State.reset.ListsBounded ∧ State.reset.UnnumberedQuiet ∧ State.reset.TableRising ∧
    State.reset.CountsRight ∧ State.reset.PoolRight ∧ State.reset.CreditsRight

/-- The end of LISTEN: ACTIVE, the Next Number, the first Beacon, and the lines that are high. -/
def Obligations.ListenEnds : Prop :=
  ∀ s : State, s.Listening → ∃ t, exec .listenTimerExpiry s = .next t ∧
    t.Active ∧ t.bus.ctl.listen = none ∧
    t.nums = { s.nums with
      next := max s.nums.next (max s.bus.ctl.settings.floor 1), beacon := some 1000 } ∧
    (∃ b, t.bus.link.beacon = some b ∧ b.cls = .squeeze ∧ b.state = 2 ∧
      b.next = max s.nums.next (max s.bus.ctl.settings.floor 1) ∧ b.capacity = s.seg.free ∧
      b.seconds = s.bus.ctl.seconds.toNat) ∧
    (∀ l : LineNo, s.ports[l].active = true → s.bus.ctl.settings.enables l = true → s.LineIn l .idle →
      t.LineIn l .author ∧ t.Sounds l .ready) ∧
    (∀ l : LineNo, s.ports[l].active = false ∨ s.bus.ctl.settings.enables l = false ∨ ¬ s.LineIn l .idle →
      t.lines[l] = s.lines[l] ∧ t.tones[l] = s.tones[l]) ∧
    SameBytes s t ∧ t.peers = s.peers ∧ t.pending = s.pending

/-- What the clocks do: at a millisecond every running timer falls by 1 and one at its last unit reports its
row, and the seconds count rises; a line-active level held for 20 ms or more, a run of bits that the bus view
waits for, the 160th sample and a prompt's last sample report theirs (R52, R69, R101, R102, R105, R111, R120,
R122, R124, R134, R138, R192). What a sample does in the Tone Unit is ToneSamples. The objection window falls
every 10 µs (R151). That timers fall at one shared millisecond, that units of 10 µs run free, that the time
since a delivery frame stops at 255 of them, and that a tick is dropped while RESETN is held low, are the
model's choices (logs 35, 39, 33 and 37). -/
def Obligations.TimersTick : Prop :=
  (∀ s : State, exec .secondsSinceResetTick s = .next
    { s with
      bus := { s.bus with ctl := { s.bus.ctl with seconds := s.bus.ctl.seconds + 1 } }
      reports := s.reports.erase .secondsSinceResetTick }) ∧
  (∀ (s : State) (x : Tick) (rest : List Tick), s.resetHeld = true → s.tick x rest = { s with ticks := rest }) ∧
  ∀ (s : State) (rest : List Tick), s.resetHeld = false →
    (∀ levels : Vector Bool 8,
      let t := s.tick (.timebase levels) rest
      (∀ l : LineNo,
        t.ports[l] = { s.ports[l] with
          activeRun := if levels[l] = s.ports[l].active then 0 else s.ports[l].activeRun + 1 } ∧
        (levels[l] ≠ s.ports[l].active → 1999 ≤ s.ports[l].activeRun →
          (if levels[l] = true then Instr.lineActiveRising l else .lineClear l) ∈ t.reports)) ∧
      t.bus.link = { s.bus.link with
        lastDelivery := s.bus.link.lastDelivery.map fun d => (d.1, min 255 (d.2 + 1)) } ∧
      t.coders = s.coders ∧ t.tones = s.tones ∧ t.seg = s.seg ∧ t.ticks = rest ∧ t.pending = s.pending ∧
      (s.sub10us < 99 → t.sub10us = s.sub10us + 1 ∧ t.lines = s.lines ∧ t.letters = s.letters ∧
        t.peers = s.peers ∧ t.xfer = s.xfer ∧ t.deliv = s.deliv ∧ t.bus.ctl = s.bus.ctl ∧
        t.nums = { s.nums with window := s.nums.window.map fun e => { e with left := e.left - 1 } }) ∧
      (∀ e ∈ s.nums.window, e.left = 1 → .objectionWindowExpiry e.number ∈ t.reports) ∧
      (99 ≤ s.sub10us → t.sub10us = 0 ∧
        (∀ l : LineNo,
          t.lines[l] = { s.lines[l] with
            digitTimer := s.lines[l].digitTimer.map (· - 1)
            waitTimer := s.lines[l].waitTimer.map (· - 1)
            windTimer := s.lines[l].windTimer.map (· - 1) } ∧
          (s.lines[l].digitTimer = some 1 →
            (if s.lines[l].state = .seek then Instr.seekDigitTimeout l else .authorDigitTimeout l) ∈ t.reports) ∧
          (s.lines[l].waitTimer = some 1 → .waitTimerExpiry l ∈ t.reports) ∧
          (s.lines[l].windTimer = some 1 → .windStep l ∈ t.reports)) ∧
        (∀ i x, s.letters[i] = some x → t.letters[i] = some { x with held := x.held.map (· - 1) } ∧
          (x.held = some 1 → .heldTimerExpiry i ∈ t.reports)) ∧
        t.peers = s.peers.map (fun p => { p with silence := min 3500 (p.silence + 1) }) ∧
        (∀ p ∈ s.peers, p.present = true → p.silence = 3499 → .silenceTimerExpiry p.station ∈ t.reports) ∧
        t.nums = { s.nums with
          beacon := s.nums.beacon.map (· - 1)
          wait := s.nums.wait.map (· - 1)
          window := s.nums.window.map fun e => { e with left := e.left - 1 } } ∧
        (s.nums.beacon = some 1 → .beaconTimerExpiry ∈ t.reports) ∧
        (s.nums.wait = some 1 → .claimWaitTimerExpiry ∈ t.reports) ∧
        (∀ c ∈ s.xfer.collections, c.timer = 1 →
          (if c.collecting = true then Instr.collectionWindowExpiry c.line else .locateQueuedTimeout c.line) ∈
            t.reports) ∧
        (∀ c, s.xfer.incoming = some c → t.xfer.incoming = some { c with timer := c.timer - 1 } ∧
          (c.timer = 1 → (if c.snapshot = none then Instr.acceptTimerExpiry else .receiveTimerExpiry) ∈
            t.reports)) ∧
        (∀ e ∈ s.xfer.settling, e.timer = 1 → .takeTimerExpiry e.number ∈ t.reports) ∧
        (∀ o, s.xfer.outgoing = some o → t.xfer.outgoing = some { o with timer := o.timer.map (· - 1) } ∧
          (o.timer = some 1 → .checkTimerExpiry ∈ t.reports)) ∧
        (∀ a, s.deliv.active = some a → t.deliv.active = some { a with timer := a.timer.map (· - 1) } ∧
          (a.timer = some 1 →
            (if a.phase = .ended then Instr.letterEndAnswerTimeout else .offerAnswerTimeout) ∈ t.reports)) ∧
        t.deliv.retry = s.deliv.retry.map (· - 1) ∧
        (s.deliv.retry = some 1 → .retryTimerExpiry ∈ t.reports) ∧
        t.bus.ctl = { s.bus.ctl with listen := s.bus.ctl.listen.map (· - 1) } ∧
        (s.bus.ctl.listen = some 1 → .listenTimerExpiry ∈ t.reports) ∧
        t.subMs = (if 999 ≤ s.subMs then 0 else s.subMs + 1) ∧
        (999 ≤ s.subMs → .secondsSinceResetTick ∈ t.reports))) ∧
    (∀ others disturbed : Bool, s.Numbered → s.startDue = none →
      let level := (others && s.drives) != disturbed
      let t := s.tick (.busBit others disturbed) rest
      (level = true → 8 ≤ s.bus.link.recessiveRun →
        s.bus.link.view = .joining ∨ s.bus.link.view = .errorWait → .busViewIdle ∈ t.reports) ∧
      (level = true → 15 ≤ s.bus.link.recessiveRun → s.bus.link.view = .stuckWait → .busViewIdle ∈ t.reports) ∧
      (level = true → s.bus.link.view = .idle → s.bus.link.holdOff = some 1 → .holdOffExpiry ∈ t.reports) ∧
      (level = true → s.isDetached = true → 15 ≤ s.bus.link.recessiveRun → s.bus.link.recoveryRuns = 95 →
        .linkRecovery ∈ t.reports) ∧
      (level = false → s.bus.link.dominantRun = 63 → .stuckEvent ∈ t.reports)) ∧
    ∀ inbound : Vector Sample 8,
      let t := s.tick (.frameSync inbound) rest
      t.frames = s.frames + 1 ∧
        (∀ l : LineNo, t.ports[l].out = s.outSample l ∧ t.ports[l].inbound = s.ports[l].inbound ++ [inbound[l]]) ∧
        (159 ≤ s.frames → .slicePeriodEnd (([0, 1, 2, 3, 4, 5, 6, 7] : List LineNo).map fun l =>
          ⟨s.ports[l].inbound ++ [inbound[l]], t.tones[l].toneTouched, t.tones[l].speech⟩) ∈ t.reports) ∧
        (∀ (l : LineNo) (r : PromptRun), s.tones[l].prompt = some r → r.next = none →
          .promptEnded l ∈ t.reports) ∧
        t.lines = s.lines ∧ t.letters = s.letters ∧ t.seg = s.seg ∧ t.bus = s.bus

/-- What a frame sync does in the Tone Unit of every line (R93 to R102, R104 to R106). Each detector passes the
sample through its filter, takes the sum of squares of its last 40 outputs as its level, and turns on or off by
its thresholds; the observation is the one valid pair, if there is one; without a key down the candidate runs
up to its recognition, and with one the down run rises to the key held and the gap run to its release. A prompt
in progress sends its sample and moves on in its cadence. The key rows are the recognition, the hold and the
release of the key, and leave the Tone Unit as R97, R98 and R100 give. A key held and released at the same
sample stands held first, and the row of a key event before a prompt's end (log 10). The filters' own
arithmetic is the model's bank (log 12). -/
def Obligations.ToneSamples : Prop :=
  (∀ (s : State) (rest : List Tick) (inbound : Vector Sample 8) (l : LineNo), s.resetHeld = false →
    let t := s.tick (.frameSync inbound) rest
    let d := s.tones[l]
    let e := t.tones[l]
    let unit : Nat := 65536 ^ 2 * 21473525780
    e.input = d.input.drop 1 ++ [inbound[l]] ∧
    (∀ j : Fin 9,
      let r := cascadeStep (s.filters.sections j) d.detectors[j].history (65536 * inbound[l].toInt)
      let level := e.detectors[j].level
      e.detectors[j].history = r.1 ∧ e.detectors[j].window = d.detectors[j].window.drop 1 ++ [r.2] ∧
        (level : Int) = (e.detectors[j].window.map fun y => y * y).sum ∧
        (j ≠ 8 → d.detectors[j].on = false →
          (e.detectors[j].on = true ↔ unit ^ 5 ≤ level ^ 5 * 10 ^ 14)) ∧
        (j ≠ 8 → d.detectors[j].on = true →
          (e.detectors[j].on = true ↔ unit ^ 5 ≤ level ^ 5 * 10 ^ 17)) ∧
        (j = 8 → d.detectors[j].on = false →
          (e.detectors[j].on = true ↔ unit ^ 2 ≤ level ^ 2 * 10 ^ 9)) ∧
        (j = 8 → d.detectors[j].on = true →
          (e.detectors[j].on = true ↔ unit ^ 5 ≤ level ^ 5 * 10 ^ 26))) ∧
    (e.toneTouched = true ↔ d.toneTouched = true ∨ ∃ j : Fin 9, j ≠ 8 ∧ e.detectors[j].on = true) ∧
    (e.speech = true ↔ d.speech = true ∨ e.detectors[(8 : Fin 9)].on = true) ∧
    e.keyDown = d.keyDown ∧ e.heldMark = d.heldMark ∧ e.keySeen = d.keySeen ∧
    (d.keyDown = none → e.downRun = d.downRun ∧ e.gapRun = d.gapRun ∧
      (observe e.detectors = none → e.candidate = none ∧ e.candidateRun = 0) ∧
      (∀ k, observe e.detectors = some k → e.candidate = some k ∧
        e.candidateRun = (if d.candidate = some k then d.candidateRun + 1 else 1) ∧
        (320 ≤ e.candidateRun → keyRow s.lines[l].state l k ∈ t.reports))) ∧
    (∀ k, d.keyDown = some k → e.downRun = min 4800 (d.downRun + 1) ∧
      let held : Prop := d.heldMark = false ∧ 4799 ≤ d.downRun
      let released : Prop :=
        (held → releaseRow (s.lines[l].afterHeld k) true l k ∈ t.reports) ∧
          (¬ held → releaseRow s.lines[l] d.heldMark l k ∈ t.reports)
      (held → heldRow s.lines[l] l k ∈ t.reports) ∧
      (observe e.detectors = some k →
        e.gapRun = 0 ∧ e.candidate = d.candidate ∧ e.candidateRun = d.candidateRun) ∧
      (observe e.detectors = none →
        e.gapRun = d.gapRun + 1 ∧ e.candidate = d.candidate ∧ e.candidateRun = d.candidateRun ∧
        (239 ≤ d.gapRun → released)) ∧
      (∀ k', observe e.detectors = some k' → k' ≠ k →
        e.gapRun = d.gapRun ∧ e.candidate = some k' ∧ e.candidateRun = 1 ∧ released)) ∧
    (d.prompt = none → e.prompt = none ∧ t.ports[l].out = (match s.ports[l].outbound with
      | some samples => samples.getD s.frames 0#16
      | none => 0#16)) ∧
    (∀ r, d.prompt = some r →
      t.ports[l].out = (if r.on = true then r.prompt.sample (r.prompt.onSamples - r.left) else 0#16) ∧
      (1 < r.left → e.prompt = some { r with left := r.left - 1 }) ∧
      (r.left ≤ 1 → r.on = false → e.prompt = some ⟨r.prompt, true, r.rep + 1, r.prompt.onSamples⟩) ∧
      (r.left ≤ 1 → r.on = true → r.prompt.repeats ≠ some r.rep →
        e.prompt = some ⟨r.prompt, false, r.rep, r.prompt.offSamples⟩) ∧
      (r.left ≤ 1 → r.on = true → r.prompt.repeats = some r.rep →
        e.prompt = some { r with left := 0 } ∧ .promptEnded l ∈ t.reports))) ∧
  (∀ (ds : Vector Detector 9) (k : Key), observe ds = some k ↔ ∃ a b : Fin 9, a < 4 ∧ 4 ≤ b ∧ b < 8 ∧
    (∀ j : Fin 9, j < 4 → (ds[j].on = true ↔ j = a)) ∧
    (∀ j : Fin 9, 4 ≤ j → j < 8 → (ds[j].on = true ↔ j = b)) ∧
    ds[a].level ^ 5 ≤ 10 ^ 4 * ds[b].level ^ 5 ∧ ds[b].level ^ 5 ≤ 10 ^ 4 * ds[a].level ^ 5 ∧
    ([[.k1, .k2, .k3, .kA], [.k4, .k5, .k6, .kB], [.k7, .k8, .k9, .kC], [.star, .k0, .hash, .kD]] :
      List (List Key))[a.val]?.bind (·[b.val - 4]?) = some k) ∧
  (∀ (s : State) (l : LineNo) (k : Key), s.KeyFree l → ∃ u, exec (keyRow s.lines[l].state l k) s = .next u ∧
    u.tones[l] = { s.tones[l] with
      keyDown := some k
      heldMark := false
      downRun := 0
      gapRun := 0
      candidate := none
      candidateRun := 0
      keySeen := true
      prompt := u.tones[l].prompt }) ∧
  (∀ (s : State) (l : LineNo) (k : Key) (c : Line) (mark : Bool), s.tones[l].keyDown = some k →
    (∃ u, exec (releaseRow c mark l k) s = .next u ∧ u.tones[l] = { s.tones[l] with
      keyDown := none
      heldMark := false
      downRun := 0
      gapRun := 0
      prompt := u.tones[l].prompt }) ∧
    (s.tones[l].heldMark = false → ∃ u, exec (heldRow c l k) s = .next u ∧
      u.tones[l] = { s.tones[l] with heldMark := true, downRun := 4800 })) ∧
  (([.ready, .accepted, .refused, .wait, .ending, .paused, .memoryFull] : List Prompt).map fun p =>
    (p.tones, p.onSamples, p.offSamples, p.repeats)) =
    [((440, 880), 1200, 0, some 1), ((440, 880), 640, 640, some 2), ((330, 500), 3200, 0, some 1),
      ((400, 600), 800, 7200, none), ((880, 1100), 2400, 0, some 1), ((500, 1100), 800, 800, some 3),
      ((330, 500), 800, 800, some 5)] ∧
  (∀ p ∈ ([(.ready, 1200), (.accepted, 1920), (.refused, 3200), (.ending, 2400), (.paused, 4000),
      (.memoryFull, 7200)] : List (Prompt × Nat)),
    ((fun r : Option PromptRun => r.bind PromptRun.next)^[p.2] (some (.start p.1))) = none ∧
      ((fun r : Option PromptRun => r.bind PromptRun.next)^[p.2 - 1] (some (.start p.1))) ≠ none) ∧
  (∀ n : Nat, ((fun r : Option PromptRun => r.bind PromptRun.next)^[n] (some (.start .wait))) ≠ none) ∧
  ∀ (p : Prompt) (n : Nat), n < p.onSamples →
    |((p.sample n).toInt : ℝ) - (8231 * Real.sin (2 * Real.pi * p.tones.1 * n / 8000) +
      8231 * Real.sin (2 * Real.pi * p.tones.2 * n / 8000))| < 1 / 2

/-- A Settings frame. Accepted in LISTEN: every field takes its value, or its default out of range. Refused: it
draws a Settings Refused and changes nothing else. One for another station, or for all, changes nothing, and
neither does a Settings Refused, Query Answer, Event or Offer frame (R193 to R196, R188). -/
def Obligations.SettingsFrames : Prop :=
  (∀ (s : State) (sender dest : Station) (b : SettingsBody),
    s.Listening → s.bus.ctl.accepted = false → s.bus.ctl.number = some dest →
    (∀ l : LineNo, s.LineIn l .idle ∧ s.lines[l].attached = none) →
    ∃ t, exec (.settings sender dest b) s = .next t ∧ t.bus.ctl.accepted = true ∧
      t.bus.ctl.settings.tier = (if b.tier = 1 then .b else if b.tier = 2 then .c else .a) ∧
      t.bus.ctl.settings.pauseCap = (if 25 ≤ b.pauseCap ∧ b.pauseCap ≤ 250 then b.pauseCap else 100) ∧
      t.bus.ctl.settings.autoPause = (if 5 ≤ b.autoPause ∧ b.autoPause ≤ 120 then b.autoPause else 30) ∧
      t.bus.ctl.settings.holdLimit = (if 1 ≤ b.holdLimit ∧ b.holdLimit ≤ 240 then b.holdLimit else 60) ∧
      t.bus.ctl.settings.pacingGap = b.pacingGap ∧
      t.bus.ctl.settings.errMode = (if b.errMode = 1 then .allErrors else .firstError) ∧
      t.bus.ctl.settings.lineMask = BitVec.ofNat 8 b.lineMask ∧
      t.bus.ctl.settings.floor = b.floor ∧
      t.bus.ctl.settings.preferred = (if b.preferred ≤ 62 then b.preferred else 0) ∧
      t.bus.ctl.state = s.bus.ctl.state ∧ t.bus.link = s.bus.link ∧ t.bus.counters = s.bus.counters ∧
      t.letters = s.letters ∧ t.seg = s.seg ∧ t.peers = s.peers ∧ t.nums = s.nums ∧ t.xfer = s.xfer ∧
      t.deliv = s.deliv) ∧
  ∀ (s : State) (sender dest : Station) (b : SettingsBody),
    (s.bus.ctl.number = some dest → s.HasRoom → s.Listening → s.bus.ctl.accepted = true →
      ∃ t, exec (.settings sender dest b) s = .next t ∧ Placed sender (.settingsRefused .alreadySet) s t ∧
        SameWork s t ∧ t.peers = s.peers ∧ t.nums = s.nums) ∧
    (s.bus.ctl.number = some dest → s.HasRoom → s.Active →
      ∃ t, exec (.settings sender dest b) s = .next t ∧ Placed sender (.settingsRefused .active) s t ∧
        SameWork s t ∧ t.peers = s.peers ∧ t.nums = s.nums) ∧
    (s.bus.ctl.number ≠ some dest →
      exec (.settings sender dest b) s = .next (s.taken (.settings sender dest b))) ∧
    (∀ kind, exec (.serviceFrameDiscard sender kind) s = .next (s.taken (.serviceFrameDiscard sender kind))) ∧
    (∀ body, exec (.offer sender body) s = .next (s.taken (.offer sender body)))

/-- A Query in ACTIVE, to this station or to all, draws one Query Answer with the kind's content, byte by byte
as R201 lays it out. A clear-counters Query clears all counters for a present console, and none for anyone
else. The author and the cursor that a line does not have are free values (log 6); the mode byte of the
error-record answer is log 41. -/
def Obligations.QueriesAnswered : Prop :=
  ∀ (s : State) (sender dest : Station), s.Active → s.HasRoom →
    (s.bus.ctl.number = some dest ∨ dest = 63) →
    let two (n : Nat) : List Byte := [BitVec.ofNat 8 (n / 256), BitVec.ofNat 8 n]
    let three (n : Nat) : List Byte := BitVec.ofNat 8 (n / 65536) :: two n
    let four (v : Word32) : List Byte :=
      [v.extractLsb' 24 8, v.extractLsb' 16 8, v.extractLsb' 8 8, v.extractLsb' 0 8]
    let inState (x : LetterState) : Byte :=
      BitVec.ofNat 8 (s.letters.toList.countP fun y => y.any fun z => z.state == x)
    let free := 32768 - s.seg.blocks.length
    let c := s.bus.counters
    (∃ t, exec (.queryCounters sender dest) s = .next t ∧
      Placed sender (.queryAnswer 0 0 (four c.lettersOpened ++ four c.lettersFiled ++
        four c.slicesCommitted ++ four c.silenceSlices ++ four c.cappedSlices ++ four c.discardedTone ++
        four c.framesSent ++ four c.framesReceived ++ four c.arbitrationLosses ++ four c.framesAbandoned ++
        four c.eventsLost ++ four c.objectionsIgnored)) s t ∧ SameWork s t) ∧
    (∃ t, exec (.queryErrorRecord sender dest) s = .next t ∧ SameWork s t ∧
      t.bus = { s.bus with link := { s.bus.link with
        errors := []
        control := s.bus.link.control ++ [⟨sender, .queryAnswer 1 0
          [BitVec.ofNat 8 (s.bus.link.errors.map fun k => match k with
              | .insertion => 1
              | .form => 2
              | .check => 4
              | .acknowledge => 8
              | .bit => 16
              | .stuck => 32).sum,
            if s.bus.ctl.settings.errMode = .allErrors then 1#8 else 0#8], 0⟩] } }) ∧
    (∃ t, exec (.queryLetterSummary sender dest) s = .next t ∧
      Placed sender (.queryAnswer 2 0
        ([BitVec.ofNat 8 (s.letters.toList.countP fun y => y == none), inState .open, inState .held,
            inState .transitOut, inState .transitIn, inState .settling, inState .closed, inState .delivering,
            inState .suspended, inState .stranded, BitVec.ofNat 8 s.nums.waiting.length] ++
          three s.nums.next ++ two free ++ two (free - s.seg.credits.toList.sum - s.seg.reservation) ++
          two s.seg.reservation ++
          [match s.seg.tier with
            | .a => 0#8
            | .b => 1#8
            | .c => 2#8] ++
          s.seg.credits.toList.map (BitVec.ofNat 8) ++ two s.seg.poolFree)) s t ∧ SameWork s t) ∧
    (∃ t, exec (.queryLineStates sender dest) s = .next t ∧
      Placed sender (.queryAnswer 3 0 (([0, 1, 2, 3, 4, 5, 6, 7] : List LineNo).flatMap fun l =>
        let k : Line := s.lines[l]
        let x : Option Letter := k.attached.bind fun i => s.letters[i]
        [BitVec.ofNat 8 ((if s.bus.ctl.settings.lineMask.getLsbD l.val = true then 128 else 0) +
            (if s.tones[l].keyDown.isSome = true then 64 else 0) + (if k.author.isSome = true then 32 else 0) +
            k.hold.length),
          match k.state with
          | .idle => 0#8
          | .author => 1#8
          | .select => 2#8
          | .seek => 3#8
          | .locate => 4#8
          | .fetch => 5#8
          | .ready => 6#8
          | .recording => 7#8
          | .playing => 8#8
          | .winding => 9#8] ++
          two (match k.author with
            | some a => a
            | none => (Config.absentAuthor s.freeIdx l).toNat) ++
          three (match x with
            | some y => y.number
            | none => 0) ++
          two (match x with
            | some y => y.cursor
            | none => (Config.absentCursor s.freeIdx l).toNat))) s t ∧ SameWork s t) ∧
    (∀ kind, ∃ t, exec (.queryUnknownKind sender dest kind) s = .next t ∧
      Placed sender (.queryAnswer kind 3 []) s t ∧ SameWork s t) ∧
    (s.mayClear sender = true →
      ∃ t, exec (.queryClearCounters sender dest) s = .next t ∧ t.bus.counters = .zero ∧
        t.bus.link.control = s.bus.link.control ++ [⟨sender, .queryAnswer 4 1 [], 0⟩] ∧
        t.bus.ctl = s.bus.ctl ∧ SameWork s t) ∧
    (s.mayClear sender = false →
      ∃ t, exec (.queryClearCounters sender dest) s = .next t ∧
        Placed sender (.queryAnswer 4 2 []) s t ∧ SameWork s t)

/-! ### Lines -/

/-- Line-active rising on an IDLE, enabled line of an ACTIVE station (R72). -/
def Obligations.LineRises : Prop :=
  ∀ (s : State) (l : LineNo), s.Active → s.bus.ctl.settings.enables l = true → s.LineIn l .idle →
    ∃ t, exec (.lineActiveRising l) s = .next t ∧
      t.lines[l] = { s.lines[l] with state := .author, entry := [] } ∧ t.Sounds l .ready ∧
      (s.lines[l].digitTimer = none → t.lines[l].digitTimer = none) ∧
      t.ports[l].active = true ∧ t.coders[l] = s.coders[l] ∧ OtherLines l s t ∧ t.letters = s.letters ∧
      SameUnits s t ∧ SameOutside s t

/-- A line clear returns the line's context to its reset values, ends a pass in progress after the entries
of its Hold Buffer are committed (R87; every entry, log 34), holds the attached letter, and stops prompt,
playback and timers. -/
def Obligations.LineClears : Prop :=
  ∀ (s : State) (l : LineNo), s.Active → s.bus.ctl.settings.enables l = true →
    (¬ s.LineIn l .idle → ¬ s.LineIn l .recording →
      ∃ t, exec (.lineClear l) s = .next t ∧ t.lines[l] = .reset ∧
        t.coders[l] = { s.coders[l] with coding := .zero } ∧
        t.tones[l] = { s.tones[l] with prompt := none } ∧ t.ports[l].outbound = none ∧
        t.ports[l].active = false ∧
        (∀ i x, s.lines[l].attached = some i → s.letters[i] = some x →
          t.letters[i] = some { x with
            state := .held, line := none, partner := none, held := some s.bus.ctl.settings.holdMs } ∧
          OtherLetters i s t) ∧
        (s.lines[l].attached = none → t.letters = s.letters) ∧
        OtherLines l s t ∧ SameUnits s t ∧ SameOutside s t) ∧
    (∀ i x, s.Works l .recording i x → s.lines[l].hold = [] →
      ∃ t y, exec (.lineClear l) s = .next t ∧ t.lines[l] = .reset ∧ t.letters[i] = some y ∧
        y.state = .held ∧ y.line = none ∧ y.pass = none ∧ y.held = some s.bus.ctl.settings.holdMs ∧
        y.chain = x.chain ∧ y.cursor = x.cursor ∧
        t.coders[l] = .reset ∧ SameBytes s t ∧ OtherLines l s t ∧ OtherLetters i s t) ∧
    (∀ i x u f, s.Works l .recording i x →
      flushHold l s.lines[l].hold ((s.taken (.lineClear l)).takeLevel l false) = (u, f) →
      ∃ t, exec (.lineClear l) s = .next t ∧ t.lines[l] = .reset ∧ t.coders[l] = .reset ∧
        t.tones[l] = { s.tones[l] with prompt := none } ∧ t.ports[l].outbound = none ∧
        t.ports[l].active = false ∧ PassOver l i u t ∧
        (∀ y, u.letters[i] = some y → t.letters[i] = some { y with
          state := .held, line := none, partner := none, pass := none,
          held := some s.bus.ctl.settings.holdMs }) ∧
        (∀ g, f = some g → FailTold g l u t) ∧
        OtherLines l s t ∧ t.nums = s.nums ∧ t.xfer = s.xfer ∧ t.deliv = s.deliv ∧ t.peers = s.peers ∧
        SameOutside s t)

/-- The end of a slice period on every line: the inbound samples and flags start afresh, and a line that
neither records nor plays keeps its context and sends zeros. The lines end their period one after the
other, from line 0 up, each as `endPeriod` says (log 10). -/
def Obligations.PeriodEnds : Prop :=
  ∀ (s : State) (inbound : List InSlice),
    ∃ t, exec (.slicePeriodEnd inbound) s = .next t ∧ t.frames = 0 ∧
      (∀ l : LineNo, t.ports[l].inbound = [] ∧ t.tones[l].toneTouched = false ∧ t.tones[l].speech = false ∧
        t.tones[l].keySeen = s.tones[l].keyDown.isSome) ∧
      (∀ l : LineNo, ¬ s.LineIn l .recording → ¬ s.LineIn l .playing →
        t.lines[l] = s.lines[l] ∧ t.coders[l] = s.coders[l] ∧ t.ports[l].outbound = none) ∧
      (∀ x : Fin 8 → InSlice, inbound = List.ofFn x →
        t = allLines.foldl (fun u l => u.endPeriod l (x l))
          { s.taken (.slicePeriodEnd inbound) with frames := 0 }) ∧
      ∀ (l : LineNo) (x : InSlice), OtherLines l s (s.endPeriod l x)

/-- A RECORDING line at a period's end: a slice of a period with a key down is dropped; any other is
coded at the worse of the base and pressure tiers and joins the Hold Buffer. From a full one the oldest
slice first leaves toward commit, and a failed commit ends the pass (R16 to R18, R54 to R59, R84, R85,
R88). -/
def Obligations.RecordingPeriod : Prop :=
  ∀ (s : State) (l : LineNo) (x : InSlice), s.LineIn l .recording →
    (s.tones[l].keySeen = true →
      (s.endPeriod l x).lines = s.lines ∧ (s.endPeriod l x).coders = s.coders ∧
      (s.endPeriod l x).letters = s.letters ∧ (s.endPeriod l x).seg = s.seg ∧
      (s.endPeriod l x).bus.counters =
        { s.bus.counters with discardedTone := s.bus.counters.discardedTone + 1 }) ∧
    ∀ (tier : Tier) (h : HoldSlice) (u : State), s.tones[l].keySeen = false →
      tier.code = max s.bus.ctl.settings.tier.code s.seg.tier.code →
      h = (if x.speech = true then
          ⟨.voiced tier s.coders[l].coding
              (packBits (codeSamples tier s.coders[l].coding (sliceInts x.samples)).1),
            x.toneTouched, true, (codeSamples tier s.coders[l].coding (sliceInts x.samples)).2⟩
        else ⟨.silence, x.toneTouched, false, .zero⟩) →
      u = ((s.onCoder l fun c => { c with coding := h.exit }).onLine l fun c =>
        { c with autoRun := if x.speech = true then 0
                            else min s.bus.ctl.settings.autoPauseSlices (s.lines[l].autoRun + 1) }) →
      (s.lines[l].hold.length < 3 →
        (s.endPeriod l x).lines[l] = { u.lines[l] with hold := s.lines[l].hold ++ [h] } ∧
        (s.endPeriod l x).coders[l] = u.coders[l] ∧ (s.endPeriod l x).letters = s.letters ∧
        (s.endPeriod l x).seg = s.seg ∧ (s.endPeriod l x).bus = s.bus) ∧
      (∀ a b c v, s.lines[l].hold = [a, b, c] →
        (u.onLine l fun y => { y with hold := [b, c] }).leaveHold l a = (v, none) →
        (s.endPeriod l x).lines[l] = { v.lines[l] with hold := [b, c, h] } ∧
        (s.endPeriod l x).coders = v.coders ∧ (s.endPeriod l x).letters = v.letters ∧
        (s.endPeriod l x).seg = v.seg ∧ (s.endPeriod l x).bus = v.bus) ∧
      (∀ i y a b c f v, s.lines[l].attached = some i → s.letters[i] = some y → s.lines[l].hold = [a, b, c] →
        (u.onLine l fun y => { y with hold := [b, c] }).leaveHold l a = (v, some f) →
        (s.endPeriod l x).lines[l] = { u.lines[l] with state := .ready, hold := [], filling := none } ∧
        (s.endPeriod l x).coders[l] = { u.coders[l] with exit := none, silence := 0 } ∧
        (s.endPeriod l x).letters[i] = some { y with pass := none } ∧
        (s.endPeriod l x).Sounds l (if f = .memory then .memoryFull else .refused) ∧
        PassOver l i s (s.endPeriod l x) ∧ FailTold f l s (s.endPeriod l x)) ∧
      (x.speech = false → s.bus.ctl.settings.autoPauseSlices ≤ s.lines[l].autoRun + 1 →
        (s.endPeriod l x).LineIn l .recording → .autoPause l ∈ (s.endPeriod l x).reports)

/-- A slice leaves the Hold Buffer: the pause cap holds it back, or its commit fails with nothing changed,
in the order of the checks, or it is placed at the cursor: in the line's filling block where it fits, else
in a new block; by insert, or by overwrite of one slice; written at the block's end (R9, R10, R12 to R14,
R16 to R18, R37 to R39, R43, R61 to R63). -/
def Obligations.Commit : Prop :=
  (∀ (s : State) (l : LineNo) (c : Coded) (b : Block), s.landing l c = some b ↔
    ∃ n, s.lines[l].filling = some n ∧ s.seg.find n = some b ∧ b.slices < 250 ∧
      b.bytes + (match c with
        | .voiced tier _ _ => if tier = .a then 84 else if tier = .b then 64 else 44
        | .silence => if (s.seg.trailingSilence b).isSome = true then 0 else 2) ≤ 1024) ∧
  ∀ (s : State) (l : LineNo) (i : LetterIx) (x : Letter) (p : Pass) (h : HoldSlice),
    s.passOf l = some (i, x, p) →
    (h.coded = .silence → s.bus.ctl.settings.pauseCap ≤ s.coders[l].silence →
      s.leaveHold l h =
        (s.count fun c => { c with cappedSlices := c.cappedSlices + 1 }, none)) ∧
    (h.coded ≠ .silence ∨ s.coders[l].silence < s.bus.ctl.settings.pauseCap →
      let inside := (∃ front r rest, x.chain = front ++ r :: rest ∧ chainLength front < x.cursor ∧
        x.cursor < chainLength front + r.count)
      let grows := (∃ b, s.landing l h.coded = some b ∧ ¬ inside ∧
        ∃ front r rest, x.chain = front ++ r :: rest ∧ x.cursor = chainLength front + r.count ∧
          r.block = b.num ∧ r.first + r.count = b.slices)
      (∀ r ∈ x.chain, 1 ≤ r.count) → x.cursor ≤ x.length →
      ∀ need : Nat, (inside → need = 2) → (¬ inside → ¬ grows → need = 1) → (grows → need = 0) →
      (p.mode = .insert ∨ x.length ≤ x.cursor → 45000 ≤ x.length →
        s.leaveHold l h = (s, some .length)) ∧
      (¬ ((p.mode = .insert ∨ x.length ≤ x.cursor) ∧ 45000 ≤ x.length) →
        (s.seg.poolFree < need ∨ 8192 < x.chain.length + need → s.leaveHold l h = (s, some .chain)) ∧
        (need ≤ s.seg.poolFree → x.chain.length + need ≤ 8192 →
          (s.landing l h.coded = none → s.lineMayTake l = false → s.leaveHold l h = (s, some .memory)) ∧
          (s.landing l h.coded ≠ none ∨ s.lineMayTake l = true →
            s.MemoryCanonical → s.TableRising →
            (∀ b, s.landing l h.coded = some b → b.filler = some (.line l)) →
            ∃ t b y e, s.leaveHold l h = (t, none) ∧
              (∀ c, s.landing l h.coded = some c → b = c) ∧
              (s.landing l h.coded = none →
                b = ⟨Segment.lowestFrom 0 s.seg.blocks, 0, p.number,
                  (match s.lines[l].filling.bind s.seg.find with
                    | some c => c.firstSeq + c.slices
                    | none => 0), 0, 0, i, some (.line l)⟩) ∧
              t.lines[l] = { s.lines[l] with filling := some b.num } ∧
              t.letters[i] = some y ∧ y = { x with chain := y.chain, cursor := x.cursor + 1 } ∧
              slicesOf y.chain = (slicesOf x.chain).take x.cursor ++ (b.num, b.slices) ::
                (slicesOf x.chain).drop (if p.mode = .overwrite then x.cursor + 1 else x.cursor) ∧
              (¬ grows → ⟨b.num, b.slices, 1, p.number, p.kind⟩ ∈ y.chain) ∧
              t.seg.poolFree + y.chain.length = s.seg.poolFree + x.chain.length ∧
              t.seg.find b.num = some e ∧ e.slices = b.slices + 1 ∧
              (∀ tier entry codes, h.coded = .voiced tier entry codes →
                let rec0 := voicedRecord tier (s.coders[l].exit == some entry) entry codes
                Memory.readBytes t.seg.mem (b.num * 1024 + b.bytes) rec0.length = rec0 ∧
                OtherBytes (b.num * 1024 + b.bytes) rec0.length s t ∧ e.bytes = b.bytes + rec0.length ∧
                t.coders[l] = { s.coders[l] with exit := some h.exit, silence := 0 } ∧
                t.bus.counters.silenceSlices = s.bus.counters.silenceSlices) ∧
              (h.coded = .silence →
                (∀ r, s.landing l h.coded = some b → s.seg.trailingSilence b = some r →
                  Memory.read t.seg.mem (b.num * 1024 + r.offset + 1) = BitVec.ofNat 8 (r.span + 1) ∧
                  OtherBytes (b.num * 1024 + r.offset + 1) 1 s t ∧ e.bytes = b.bytes) ∧
                (s.landing l h.coded = none ∨ s.seg.trailingSilence b = none →
                  Memory.readBytes t.seg.mem (b.num * 1024 + b.bytes) 2 = [0x80#8, 1#8] ∧
                  OtherBytes (b.num * 1024 + b.bytes) 2 s t ∧ e.bytes = b.bytes + 2) ∧
                t.coders[l] = { s.coders[l] with exit := none, silence := s.coders[l].silence + 1 } ∧
                t.bus.counters.silenceSlices = s.bus.counters.silenceSlices + 1) ∧
              t.bus.counters.slicesCommitted = s.bus.counters.slicesCommitted + 1 ∧
              OtherLetters i s t ∧ OtherLines l s t ∧ t.tones = s.tones ∧ t.ports = s.ports ∧
              t.nums = s.nums ∧ t.xfer = s.xfer ∧ t.deliv = s.deliv ∧ t.peers = s.peers ∧ SameOutside s t))))

/-- How blocks are given and freed: a line draws on common availability, then on its own credit; the
transfer engine on the reservation, then on common availability; a freed block goes to the lowest-numbered
line below 128, else to common availability; and the pressure tier follows the blocks in use (R37, R44 to
R46, R48, R49). -/
def Obligations.BlocksGivenAndFreed : Prop :=
  (∀ (tier : Tier) (n : Nat), pressureAfter tier n =
    if tier = .a ∧ 24576 ≤ n then .b else if tier = .b ∧ 28672 ≤ n then .c
    else if tier = .b ∧ n < 20480 then .a else if tier = .c ∧ n < 24576 then .b else tier) ∧
  ∀ s : State, s.TableRising → s.CreditsRight →
    s.seg.common + s.seg.creditSum + s.seg.reservation = s.seg.free ∧
    s.seg.free + s.seg.blocks.length = 32768 ∧
    (∀ (l : LineNo) (i : LetterIx) (pass : Nat), s.lines[l].filling = none →
      (s.lineMayTake l = true ↔ 0 < s.seg.common ∨ 0 < s.seg.credits[l]) ∧
      (s.lineMayTake l = true →
        let t := s.takeFilling l i pass
        t.seg.free + 1 = s.seg.free ∧ t.seg.reservation = s.seg.reservation ∧
          (0 < s.seg.common → t.seg.credits = s.seg.credits ∧ t.seg.common + 1 = s.seg.common) ∧
          (s.seg.common = 0 → t.seg.credits = s.seg.credits.set l (s.seg.credits[l] - 1) ∧
            t.seg.common = 0) ∧
          s.seg.find (Segment.lowestFrom 0 s.seg.blocks) = none ∧
          Segment.lowestFrom 0 s.seg.blocks < 32768 ∧
          (∀ n < Segment.lowestFrom 0 s.seg.blocks, s.seg.find n ≠ none) ∧
          t.seg.find (Segment.lowestFrom 0 s.seg.blocks) =
            some ⟨Segment.lowestFrom 0 s.seg.blocks, 0, pass, 0, 0, 0, i, some (.line l)⟩ ∧
          t.lines[l].filling = some (Segment.lowestFrom 0 s.seg.blocks) ∧
          t.seg.tier = pressureAfter s.seg.tier (s.seg.blocks.length + 1) ∧
          (t.seg.tier = s.seg.tier → t.bus = s.bus) ∧
          (t.seg.tier ≠ s.seg.tier → t.bus.ctl.eventSeq = s.bus.ctl.eventSeq + 1))) ∧
    (∀ (i : LetterIx) (pass : Nat),
      (s.transferMayTake = true ↔ 0 < s.seg.reservation ∨ 0 < s.seg.common) ∧
      (s.transferMayTake = true →
        let t := s.chargeTransfer.giveBlock i .transfer pass 0
        t.seg.free + 1 = s.seg.free ∧ t.seg.credits = s.seg.credits ∧
          (0 < s.seg.reservation → t.seg.reservation + 1 = s.seg.reservation ∧ t.seg.common = s.seg.common) ∧
          (s.seg.reservation = 0 → t.seg.reservation = 0 ∧ t.seg.common + 1 = s.seg.common) ∧
          t.seg.find (Segment.lowestFrom 0 s.seg.blocks) =
            some ⟨Segment.lowestFrom 0 s.seg.blocks, 0, pass, 0, 0, 0, i, some .transfer⟩ ∧
          t.seg.tier = pressureAfter s.seg.tier (s.seg.blocks.length + 1))) ∧
    (∀ (n : Nat) (x : Block), s.seg.find n = some x →
      let t := s.freeBlock n
      t.seg.find n = none ∧ t.seg.free = s.seg.free + 1 ∧ t.seg.reservation = s.seg.reservation ∧
        (∀ l : LineNo, s.seg.credits[l] < 128 → (∀ m < l, s.seg.credits[m] = 128) →
          t.seg.credits = s.seg.credits.set l (s.seg.credits[l] + 1) ∧ t.seg.common = s.seg.common) ∧
        ((∀ l : LineNo, s.seg.credits[l] = 128) →
          t.seg.credits = s.seg.credits ∧ t.seg.common = s.seg.common + 1) ∧
        t.seg.tier = pressureAfter s.seg.tier (s.seg.blocks.length - 1) ∧ t.letters = s.letters ∧
        SameBytes s t)

/-- A PLAYING line at a period's end: it sends the slice at the cursor and the cursor rises by 1; a
prompt pauses it; at the length playback ends with the End prompt. -/
def Obligations.PlayingPeriod : Prop :=
  ∀ (s : State) (l : LineNo) (i : LetterIx) (x : Letter) (y : InSlice), s.Works l .playing i x →
    (x.cursor < x.length → s.tones[l].prompt = none →
      (s.endPeriod l y).ports[l].outbound = some (s.playedSlice x) ∧
      (s.endPeriod l y).letters[i] = some { x with cursor := x.cursor + 1 } ∧
      (s.endPeriod l y).lines = s.lines ∧ OtherLetters i s (s.endPeriod l y)) ∧
    (x.cursor < x.length → s.tones[l].prompt ≠ none →
      (s.endPeriod l y).ports[l].outbound = none ∧ (s.endPeriod l y).letters = s.letters ∧
      (s.endPeriod l y).lines = s.lines) ∧
    (x.length ≤ x.cursor →
      (s.endPeriod l y).lines[l] = { s.lines[l] with state := .ready } ∧
      (s.endPeriod l y).Sounds l .ending ∧ (s.endPeriod l y).letters = s.letters ∧
      (s.endPeriod l y).ports[l].outbound = none) ∧
    (s.endPeriod l y).seg = s.seg ∧ OtherLines l s (s.endPeriod l y)

/-- Keys in AUTHOR (R73): digits, Enter, and every refusal. -/
def Obligations.AuthorKeys : Prop :=
  ∀ (s : State) (l : LineNo), s.LineIn l .author → s.KeyFree l →
    (∀ d : Digit, s.lines[l].entry.length < 4 → ∃ t, exec (.authorDigit l d) s = .next t ∧
      t.lines[l] = { s.lines[l] with
        entry := s.lines[l].entry ++ [d], digitTimer := some 10000, key := some (digitKey d) } ∧
      t.tones[l].prompt = s.tones[l].prompt ∧ Recognised l (digitKey d) s t ∧ t.letters = s.letters ∧
      SameUnits s t) ∧
    (∀ d : Digit, 4 ≤ s.lines[l].entry.length → ∃ t, exec (.authorDigit l d) s = .next t ∧
      t.lines[l] = { s.lines[l] with entry := [], digitTimer := none, key := some (digitKey d) } ∧
      t.Sounds l .refused ∧ Recognised l (digitKey d) s t ∧ t.letters = s.letters ∧ SameUnits s t) ∧
    (∀ a b c d : Digit, s.lines[l].entry = [a, b, c, d] → ∃ t, exec (.authorEnter l) s = .next t ∧
      t.lines[l] = { s.lines[l] with
        state := .select
        author := some (1000 * a.val + 100 * b.val + 10 * c.val + d.val)
        entry := []
        digitTimer := none
        key := some .hash } ∧
      t.Sounds l .accepted ∧ Recognised l .hash s t ∧ t.letters = s.letters ∧ SameUnits s t) ∧
    (s.lines[l].entry.length ≠ 4 → ∃ t, exec (.authorEnter l) s = .next t ∧
      t.lines[l] = { s.lines[l] with entry := [], digitTimer := none, key := some .hash } ∧
      t.Sounds l .refused ∧ Recognised l .hash s t ∧ t.letters = s.letters ∧ SameUnits s t) ∧
    (∀ k, k = .kA ∨ k = .kB ∨ k = .kC ∨ k = .kD ∨ k = .star → ∃ t, exec (.refusedKey l k) s = .next t ∧
      t.lines[l] = { s.lines[l] with entry := [], digitTimer := none, key := some k } ∧
      t.Sounds l .refused ∧ Recognised l k s t ∧ t.letters = s.letters ∧ SameUnits s t)

/-- Key A in SELECT: a new letter on the lowest FREE entry, waiting for a number; Refused with none. -/
def Obligations.NewLetterOpens : Prop :=
  ∀ (s : State) (l : LineNo) (a : Nat), s.LineIn l .select → s.KeyFree l → s.lines[l].author = some a →
    (∀ i, s.freeEntry = some i → ∃ t, exec (.newLetter l) s = .next t ∧
      t.letters[i] = some (.new 0 a .open (some l) none) ∧ OtherLetters i s t ∧
      t.lines[l] = { s.lines[l] with state := .ready, attached := some i, key := some .kA } ∧
      t.Sounds l .ready ∧ t.nums.waiting = s.nums.waiting ++ [i] ∧ t.nums.next = s.nums.next ∧
      t.bus.counters.lettersOpened = s.bus.counters.lettersOpened + 1 ∧
      Recognised l .kA s t ∧ t.seg = s.seg ∧ t.peers = s.peers ∧ t.xfer = s.xfer ∧ t.deliv = s.deliv) ∧
    (s.freeEntry = none → ∃ t, exec (.newLetter l) s = .next t ∧
      t.lines[l] = { s.lines[l] with key := some .kA } ∧ t.Sounds l .refused ∧ Recognised l .kA s t ∧
      t.letters = s.letters ∧ SameUnits s t)

/-- Key * in SELECT; every key of SEEK, and its digit timer (R76). -/
def Obligations.SeekKeys : Prop :=
  ∀ (s : State) (l : LineNo), s.KeyFree l →
    (s.LineIn l .select → ∃ t, exec (.resume l) s = .next t ∧
      t.lines[l] = { s.lines[l] with
        state := .seek, seek := none, digitTimer := some 5000, key := some .star } ∧
      t.Sounds l .accepted ∧ Recognised l .star s t ∧ t.letters = s.letters ∧ SameUnits s t) ∧
    (∀ d : Digit, s.LineIn l .seek → d ≠ 0 → s.lines[l].seek = none →
      ∃ t, exec (.seekDigit l d) s = .next t ∧
        t.lines[l] = { s.lines[l] with
          seek := some d.val, digitTimer := some 5000, key := some (digitKey d) } ∧
        Recognised l (digitKey d) s t ∧ t.letters = s.letters ∧ SameUnits s t) ∧
    (∀ d : Digit, s.LineIn l .seek → d = 0 ∨ s.lines[l].seek ≠ none →
      ∃ t, exec (.seekDigit l d) s = .next t ∧
        t.lines[l] = { s.lines[l] with
          seek := none, digitTimer := some 5000, key := some (digitKey d) } ∧
        t.Sounds l .refused ∧ Recognised l (digitKey d) s t ∧ t.letters = s.letters ∧ SameUnits s t) ∧
    (∀ a : Nat, s.LineIn l .seek → s.lines[l].author = some a → s.HasRoom →
      ∃ t, exec (.seekEnter l) s = .next t ∧
        t.lines[l] = { s.lines[l] with
          state := .locate, locate := some s.xfer.nextTag, digitTimer := none, key := some .hash } ∧
        Placed 63 (.locate a (s.lines[l].seek.getD 1) s.xfer.nextTag) s t ∧
        t.xfer.nextTag = s.xfer.nextTag + 1 ∧
        t.xfer.collections = s.xfer.collections.filter (·.line ≠ l) ++
          [⟨l, s.xfer.nextTag, a, s.lines[l].seek.getD 1, false, 1000, []⟩] ∧
        t.tones[l].prompt = s.tones[l].prompt ∧ Recognised l .hash s t ∧ t.letters = s.letters ∧
        t.seg = s.seg) ∧
    (∀ k, s.LineIn l .seek → k = .kA ∨ k = .kB ∨ k = .kC ∨ k = .kD ∨ k = .star →
      ∃ t, exec (.refusedKey l k) s = .next t ∧
        t.lines[l] = { s.lines[l] with digitTimer := some 5000, key := some k } ∧
        t.Sounds l .refused ∧ Recognised l k s t ∧ t.letters = s.letters ∧ SameUnits s t) ∧
    (s.LineIn l .seek → s.lines[l].digitTimer ≠ none → ∃ t, exec (.seekDigitTimeout l) s = .next t ∧
      t.lines[l] = { s.lines[l] with state := .select, seek := none, digitTimer := none } ∧
      t.Sounds l .refused ∧ OtherLines l s t ∧ t.letters = s.letters ∧ SameUnits s t ∧ SameOutside s t)

/-- A refused key in SELECT, LOCATE or FETCH, Stop, A, * or # in READY, 3, 6, 7, 8, A, * or # in PLAYING:
the Refused prompt, and the line stays as it is. So do 1, A, * and # in RECORDING, after the tone-touched
entries of the Hold Buffer are discarded (R86). -/
def Obligations.KeysRefused : Prop :=
  ∀ (s : State) (l : LineNo) (k : Key), s.KeyFree l →
    ((s.LineIn l .select ∧ k ≠ .kA ∧ k ≠ .star) ∨ s.LineIn l .locate ∨ s.LineIn l .fetch ∨
        (s.LineIn l .ready ∧ (k = .k2 ∨ k = .kA ∨ k = .star ∨ k = .hash)) ∨
        (s.LineIn l .playing ∧ (k = .k3 ∨ k = .k6 ∨ k = .k7 ∨ k = .k8 ∨ k = .kA ∨ k = .star ∨ k = .hash)) →
      ∃ t, exec (.refusedKey l k) s = .next t ∧ t.lines[l] = { s.lines[l] with key := some k } ∧
        t.Sounds l .refused ∧ t.ports[l].outbound = none ∧ Recognised l k s t ∧ t.letters = s.letters ∧
        t.coders = s.coders ∧ SameUnits s t) ∧
    (s.LineIn l .recording → k = .k1 ∨ k = .kA ∨ k = .star ∨ k = .hash →
      ∃ t, exec (.refusedKey l k) s = .next t ∧
        t.lines[l] = { s.lines[l] with
          hold := s.lines[l].hold.filter fun h => !h.toneTouched
          key := some k } ∧
        t.Sounds l .refused ∧ Recognised l k s t ∧ t.letters = s.letters ∧ t.coders = s.coders ∧
        t.bus = { s.bus with counters := { s.bus.counters with
          discardedTone := s.bus.counters.discardedTone +
            BitVec.ofNat 32 (s.lines[l].hold.filter fun h => h.toneTouched).length } } ∧
        t.seg = s.seg ∧ t.peers = s.peers ∧ t.nums = s.nums ∧ t.xfer = s.xfer ∧ t.deliv = s.deliv)

/-- The digit timer of AUTHOR, the Wait timer, and auto-pause, which commits the entries of the Hold Buffer
before the pass ends (R87, R88); where a commit fails its own prompt and event stand in place of Paused. -/
def Obligations.LineTimeouts : Prop :=
  ∀ (s : State) (l : LineNo),
    (s.LineIn l .author → s.lines[l].digitTimer ≠ none → ∃ t, exec (.authorDigitTimeout l) s = .next t ∧
      t.lines[l] = { s.lines[l] with entry := [], digitTimer := none } ∧ t.Sounds l .refused ∧
      OtherLines l s t ∧ t.letters = s.letters ∧ SameUnits s t ∧ SameOutside s t) ∧
    (s.LineIn l .fetch → s.lines[l].waitTimer ≠ none → ∃ t, exec (.waitTimerExpiry l) s = .next t ∧
      t.lines[l] = { s.lines[l] with state := .select, fetchRef := none, waitTimer := none } ∧
      t.Sounds l .refused ∧ OtherLines l s t ∧ t.letters = s.letters ∧ SameUnits s t ∧ SameOutside s t) ∧
    (∀ i x, s.Works l .recording i x → s.bus.ctl.settings.autoPauseSlices ≤ s.lines[l].autoRun →
      s.lines[l].hold = [] →
      ∃ t, exec (.autoPause l) s = .next t ∧
        t.lines[l] = { s.lines[l] with state := .ready, filling := none } ∧ t.Sounds l .paused ∧
        t.letters[i] = some { x with pass := none } ∧
        t.coders[l] = { s.coders[l] with exit := none, silence := 0 } ∧
        SameBytes s t ∧ OtherLines l s t ∧ OtherLetters i s t ∧ SameOutside s t) ∧
    (∀ i x u f, s.Works l .recording i x → s.bus.ctl.settings.autoPauseSlices ≤ s.lines[l].autoRun →
      flushHold l s.lines[l].hold (s.taken (.autoPause l)) = (u, f) →
      ∃ t, exec (.autoPause l) s = .next t ∧
        t.lines[l] = { s.lines[l] with state := .ready, hold := [], filling := none } ∧
        (f = none → t.Sounds l .paused) ∧
        (∀ g, f = some g → t.Sounds l (if g = .memory then .memoryFull else .refused) ∧ FailTold g l u t) ∧
        (∀ y, u.letters[i] = some y → t.letters[i] = some { y with pass := none }) ∧
        t.coders[l] = { s.coders[l] with exit := none, silence := 0 } ∧ PassOver l i u t ∧
        OtherLines l s t ∧ t.nums = s.nums ∧ t.xfer = s.xfer ∧ t.deliv = s.deliv ∧ t.peers = s.peers ∧
        SameOutside s t)

/-- Record in READY or PLAYING: a pass starts, or is refused at pass count 255 (R11). Play in READY: PLAYING
from the cursor, or the End prompt at once with the cursor at the length; in RECORDING the pass ends first
(R82). -/
def Obligations.RecordAndPlayStart : Prop :=
  (∀ (s : State) (l : LineNo) (i : LetterIx) (x : Letter), s.KeyFree l →
    s.Works l .ready i x ∨ s.Works l .playing i x →
    (x.passCount < 255 → ∃ t, exec (.record l) s = .next t ∧
      t.lines[l] = { s.lines[l] with state := .recording, hold := [], autoRun := 0, key := some .k1 } ∧
      t.letters[i] = some { x with
        passCount := x.passCount + 1
        pass := some ⟨x.passCount + 1, x.mode, if x.instrNext = true then .instruction else .dictation⟩
        instrNext := false } ∧
      t.coders[l] = .reset ∧ t.ports[l].outbound = none ∧ t.tones[l].prompt = s.tones[l].prompt ∧
      Recognised l .k1 s t ∧ OtherLetters i s t ∧ SameUnits s t) ∧
    (255 ≤ x.passCount → ∃ t, exec (.record l) s = .next t ∧
      t.lines[l] = { s.lines[l] with key := some .k1 } ∧ t.Sounds l .refused ∧ t.letters = s.letters ∧
      t.coders = s.coders ∧ Recognised l .k1 s t ∧ SameUnits s t)) ∧
  ∀ (s : State) (l : LineNo) (i : LetterIx) (x : Letter), s.KeyFree l →
    (s.Works l .ready i x → x.cursor < x.length → ∃ t, exec (.play l) s = .next t ∧
      t.lines[l] = { s.lines[l] with state := .playing, key := some .k3 } ∧
      t.tones[l].prompt = s.tones[l].prompt ∧ t.letters = s.letters ∧ t.coders = s.coders ∧
      Recognised l .k3 s t ∧ SameUnits s t) ∧
    (s.Works l .ready i x → x.length ≤ x.cursor → ∃ t, exec (.play l) s = .next t ∧
      t.lines[l] = { s.lines[l] with state := .ready, key := some .k3 } ∧ t.Sounds l .ending ∧
      t.letters = s.letters ∧ t.coders = s.coders ∧ Recognised l .k3 s t ∧ SameUnits s t) ∧
    (∀ u f, s.Works l .recording i x → s.flushAtKey l (.play l) .k3 = (u, f) →
      ∃ t v y, PassEnded l i .k3 f s u v ∧ v.letters[i] = some y ∧ exec (.play l) s = .next t ∧
        (y.cursor < y.length → t.lines[l] = { v.lines[l] with state := .playing } ∧
          t.tones[l].prompt = v.tones[l].prompt) ∧
        (y.length ≤ y.cursor → t.lines[l] = v.lines[l] ∧ t.Sounds l .ending) ∧
        t.letters = v.letters ∧ t.coders = v.coders ∧ Recognised l .k3 s t ∧ SameUnits v t)

/-- Stop ends playback, or the pass after the untouched entries of the Hold Buffer are committed (R86, R87),
and leaves the line READY with no prompt of its own but that of a commit that failed. -/
def Obligations.StopStops : Prop :=
  ∀ (s : State) (l : LineNo) (i : LetterIx) (x : Letter), s.KeyFree l →
    (s.Works l .playing i x → ∃ t, exec (.stop l) s = .next t ∧
      t.lines[l] = { s.lines[l] with state := .ready, key := some .k2 } ∧ t.ports[l].outbound = none ∧
      t.tones[l].prompt = s.tones[l].prompt ∧ t.letters = s.letters ∧ t.coders = s.coders ∧
      Recognised l .k2 s t ∧ SameUnits s t) ∧
    (s.Works l .recording i x → (s.lines[l].hold.filter fun h => !h.toneTouched) = [] →
      ∃ t, exec (.stop l) s = .next t ∧
        t.lines[l] = { s.lines[l] with state := .ready, hold := [], filling := none, key := some .k2 } ∧
        t.letters[i] = some { x with pass := none } ∧ t.tones[l].prompt = s.tones[l].prompt ∧
        t.bus.counters.discardedTone =
          s.bus.counters.discardedTone + BitVec.ofNat 32 s.lines[l].hold.length ∧
        t.coders[l] = { s.coders[l] with exit := none, silence := 0 } ∧
        Recognised l .k2 s t ∧ OtherLetters i s t ∧ SameBytes s t) ∧
    (∀ u f, s.Works l .recording i x →
      flushHold l (s.lines[l].hold.filter fun h => !h.toneTouched)
        ((s.pressed l (.stop l) .k2).dropTouched l) = (u, f) →
      ∃ t, exec (.stop l) s = .next t ∧
        t.lines[l] = { s.lines[l] with state := .ready, hold := [], filling := none, key := some .k2 } ∧
        (f = none → t.tones[l].prompt = s.tones[l].prompt) ∧
        (∀ g, f = some g → t.Sounds l (if g = .memory then .memoryFull else .refused) ∧ FailTold g l u t) ∧
        (∀ y, u.letters[i] = some y → t.letters[i] = some { y with pass := none }) ∧
        t.bus.counters.discardedTone = s.bus.counters.discardedTone +
          BitVec.ofNat 32 (s.lines[l].hold.filter fun h => h.toneTouched).length ∧
        t.coders[l] = { s.coders[l] with exit := none, silence := 0 } ∧ PassOver l i u t ∧
        Recognised l .k2 s t)

/-- The cursor moves (R20): Go to start, Go to end, the short presses, and the wind steps. In RECORDING
Go to start and Go to end first end the pass (R82). -/
def Obligations.CursorMoves : Prop :=
  ∀ (s : State) (l : LineNo) (i : LetterIx) (x : Letter),
    (s.Works l .ready i x ∨ s.Works l .playing i x → s.KeyFree l →
      (∃ t, exec (.goToStart l) s = .next t ∧ t.letters[i] = some { x with cursor := 0 } ∧
        t.lines[l] = { s.lines[l] with key := some .k0 } ∧ Recognised l .k0 s t ∧ OtherLetters i s t ∧
        t.coders = s.coders ∧ t.ports = s.ports ∧ SameUnits s t) ∧
      (∃ t, exec (.goToEnd l) s = .next t ∧ t.letters[i] = some { x with cursor := x.length } ∧
        t.lines[l] = { s.lines[l] with key := some .kB } ∧ Recognised l .kB s t ∧ OtherLetters i s t ∧
        t.coders = s.coders ∧ t.ports = s.ports ∧ SameUnits s t)) ∧
    (∀ w : Wind, s.Works l .ready i x ∨ s.Works l .playing i x → s.tones[l].keyDown = some (windKey w) →
      s.tones[l].heldMark = false → s.lines[l].key = some (windKey w) →
      ∃ t, exec (.windShortPress l w) s = .next t ∧
        t.letters[i] = some { x with cursor := match w with
          | .rewind => x.cursor - 100
          | .forward => min x.length (x.cursor + 100) } ∧
        t.lines[l] = { s.lines[l] with key := none } ∧ t.tones[l].keyDown = none ∧
        t.tones[l].prompt = s.tones[l].prompt ∧ OtherLines l s t ∧ OtherLetters i s t ∧ SameUnits s t ∧
        SameOutside s t) ∧
    (∀ w : Wind, s.Works l .winding i x → s.lines[l].key = some (windKey w) →
      s.lines[l].windTimer ≠ none →
      ∃ t, exec (.windStep l) s = .next t ∧
        t.letters[i] = some { x with cursor := match w with
          | .rewind => x.cursor - 5
          | .forward => min x.length (x.cursor + 5) } ∧
        t.lines[l] = { s.lines[l] with windTimer := some 20 } ∧ OtherLines l s t ∧ OtherLetters i s t ∧
        t.coders = s.coders ∧ t.tones = s.tones ∧ t.ports = s.ports ∧ SameUnits s t ∧ SameOutside s t) ∧
    (∀ u f, s.Works l .recording i x → s.KeyFree l →
      (s.flushAtKey l (.goToStart l) .k0 = (u, f) →
        ∃ t v y, PassEnded l i .k0 f s u v ∧ v.letters[i] = some y ∧ exec (.goToStart l) s = .next t ∧
          t.letters[i] = some { y with cursor := 0 } ∧ t.lines = v.lines ∧ t.tones = v.tones ∧
          t.coders = v.coders ∧ t.ports = v.ports ∧ OtherLetters i v t ∧ SameUnits v t ∧ SameOutside s t) ∧
      (s.flushAtKey l (.goToEnd l) .kB = (u, f) →
        ∃ t v y, PassEnded l i .kB f s u v ∧ v.letters[i] = some y ∧ exec (.goToEnd l) s = .next t ∧
          t.letters[i] = some { y with cursor := y.length } ∧ t.lines = v.lines ∧ t.tones = v.tones ∧
          t.coders = v.coders ∧ t.ports = v.ports ∧ OtherLetters i v t ∧ SameUnits v t ∧ SameOutside s t))

/-- A wind key held takes the line to WINDING; its release takes it back (R81). -/
def Obligations.Winding : Prop :=
  ∀ (s : State) (l : LineNo) (i : LetterIx) (x : Letter) (w : Wind),
    s.tones[l].keyDown = some (windKey w) → s.lines[l].key = some (windKey w) →
    (s.Works l .ready i x → s.tones[l].heldMark = false → ∃ t, exec (.windHeld l w) s = .next t ∧
      t.lines[l] = { s.lines[l] with state := .winding, ret := some .ready, windTimer := some 20 } ∧
      t.tones[l].heldMark = true ∧ t.letters = s.letters ∧ OtherLines l s t ∧ SameUnits s t ∧
      SameOutside s t) ∧
    (s.Works l .playing i x → s.tones[l].heldMark = false → ∃ t, exec (.windHeld l w) s = .next t ∧
      t.lines[l] = { s.lines[l] with state := .winding, ret := some .playing, windTimer := some 20 } ∧
      t.tones[l].heldMark = true ∧ t.ports[l].outbound = none ∧ t.letters = s.letters ∧
      OtherLines l s t ∧ SameUnits s t ∧ SameOutside s t) ∧
    (s.Works l .winding i x → s.lines[l].ret = some .ready → ∃ t, exec (.windRelease l w) s = .next t ∧
      t.lines[l] = { s.lines[l] with state := .ready, ret := none, windTimer := none, key := none } ∧
      t.tones[l].keyDown = none ∧ t.tones[l].prompt = s.tones[l].prompt ∧ t.letters = s.letters ∧
      OtherLines l s t ∧ SameUnits s t ∧ SameOutside s t) ∧
    (s.Works l .winding i x → s.lines[l].ret = some .playing → x.cursor < x.length →
      ∃ t, exec (.windRelease l w) s = .next t ∧
        t.lines[l] = { s.lines[l] with state := .playing, ret := none, windTimer := none, key := none } ∧
        t.tones[l].keyDown = none ∧ t.tones[l].prompt = s.tones[l].prompt ∧ t.letters = s.letters ∧
        OtherLines l s t ∧ SameUnits s t ∧ SameOutside s t) ∧
    (s.Works l .winding i x → s.lines[l].ret = some .playing → x.length ≤ x.cursor →
      ∃ t, exec (.windRelease l w) s = .next t ∧
        t.lines[l] = { s.lines[l] with state := .ready, ret := none, windTimer := none, key := none } ∧
        t.Sounds l .ending ∧ t.letters = s.letters ∧ OtherLines l s t ∧ SameUnits s t ∧ SameOutside s t)

/-- The mode toggle, Instruction mark and the priority toggle in READY, and in RECORDING with no
tone-touched slice waiting, each with the Accepted prompt (R22 to R24). -/
def Obligations.MarkKeys : Prop :=
  ∀ (s : State) (l : LineNo) (i : LetterIx) (x : Letter), s.KeyFree l →
    s.Works l .ready i x ∨
      (s.Works l .recording i x ∧ (s.lines[l].hold.all fun h => !h.toneTouched) = true) →
    (∃ t, exec (.insertOverwriteToggle l) s = .next t ∧
      t.letters[i] = some { x with mode := if x.mode = .insert then .overwrite else .insert } ∧
      t.lines[l] = { s.lines[l] with key := some .k6 } ∧ t.Sounds l .accepted ∧ Recognised l .k6 s t ∧
      OtherLetters i s t ∧ t.coders = s.coders ∧ t.seg = s.seg ∧ t.nums = s.nums) ∧
    (∃ t, exec (.instructionMark l) s = .next t ∧
      t.letters[i] = some { x with instrNext := true } ∧
      t.lines[l] = { s.lines[l] with key := some .k7 } ∧ t.Sounds l .accepted ∧ Recognised l .k7 s t ∧
      OtherLetters i s t ∧ t.coders = s.coders ∧ t.seg = s.seg ∧ t.nums = s.nums) ∧
    (∃ t, exec (.priority l) s = .next t ∧
      t.letters[i] = some { x with priority := if x.priority = .normal then .urgent else .normal } ∧
      t.lines[l] = { s.lines[l] with key := some .k8 } ∧ t.Sounds l .accepted ∧ Recognised l .k8 s t ∧
      OtherLetters i s t ∧ t.coders = s.coders ∧ t.seg = s.seg ∧ t.nums = s.nums)

/-- End of letter and Hold in READY or PLAYING: the letter CLOSED, freed if empty, or HELD; the line in
SELECT with the Accepted prompt (R25, R26, R83). In RECORDING the pass ends first (R82). A held timer runs out:
a letter with audio closes as unfinished, an empty one is freed (R27). Where a letter with a number is CLOSED
the engine looks for work, whatever delivery is under way (R30, R174): what its look does is LetterStreams. -/
def Obligations.LetterEnds : Prop :=
  (∀ (s : State) (l : LineNo) (i : LetterIx) (x : Letter), s.KeyFree l →
    (s.Works l .ready i x ∨ s.Works l .playing i x →
    (0 < x.length → s.deliv.active = none → s.deliv.suspended = none →
      ∃ t y, exec (.endOfLetter l) s = .next t ∧ t.letters[i] = some y ∧ y.state = .closed ∧
        y.line = none ∧ y.chain = x.chain ∧ y.number = x.number ∧ y.unfinished = x.unfinished ∧
        t.lines[l] = { s.lines[l] with state := .select, attached := none, key := some .k9 } ∧
        t.Sounds l .accepted ∧ t.seg = s.seg ∧ t.nums = s.nums ∧ OtherLines l s t) ∧
    (0 < x.length → ∃ u, exec (.endOfLetter l) s = .next (if x.number = 0 then u else u.look) ∧
      u.letters[i] = some { x with state := .closed, line := none } ∧ OtherLetters i s u ∧
      u.lines[l] = { s.lines[l] with state := .select, attached := none, key := some .k9 } ∧
      u.Sounds l .accepted ∧ Recognised l .k9 s u ∧ SameUnits s u) ∧
    (x.length = 0 → ∃ t, exec (.endOfLetter l) s = .next t ∧ t.letters[i] = none ∧
      t.lines[l] = { s.lines[l] with state := .select, attached := none, key := some .k9 } ∧
      t.Sounds l .accepted ∧ t.nums.waiting = s.nums.waiting.filter (· ≠ i) ∧
      t.seg.poolFree = s.seg.poolFree + x.chain.length ∧ SameBytes s t ∧ OtherLetters i s t ∧
      OtherLines l s t) ∧
    (∃ t, exec (.hold l) s = .next t ∧
      t.letters[i] = some { x with
        state := .held, line := none, partner := none, held := some s.bus.ctl.settings.holdMs } ∧
      t.lines[l] = { s.lines[l] with state := .select, attached := none, key := some .kD } ∧
      t.Sounds l .accepted ∧ Recognised l .kD s t ∧ OtherLetters i s t ∧ t.coders = s.coders ∧
      SameUnits s t)) ∧
    (∀ u f, s.Works l .recording i x →
      (s.flushAtKey l (.endOfLetter l) .k9 = (u, f) →
        ∃ t v y, PassEnded l i .k9 f s u v ∧ v.letters[i] = some y ∧ exec (.endOfLetter l) s = .next t ∧
          t.lines[l] = { v.lines[l] with state := .select, attached := none } ∧ t.Sounds l .accepted ∧
          t.coders = v.coders ∧ OtherLines l s t ∧
          (0 < y.length → s.deliv.active = none → s.deliv.suspended = none →
            ∃ z, t.letters[i] = some z ∧ z.state = .closed ∧ z.line = none ∧ z.chain = y.chain ∧
              z.number = y.number ∧ z.unfinished = y.unfinished ∧ t.seg = v.seg ∧ t.nums = v.nums) ∧
          (0 < y.length → ∃ w, t = (if y.number = 0 then w else w.look) ∧
            w.letters[i] = some { y with state := .closed, line := none } ∧ OtherLetters i v w ∧
            SameUnits v w) ∧
          (y.length = 0 → t.letters[i] = none ∧ t.nums.waiting = v.nums.waiting.filter (· ≠ i) ∧
            t.seg.poolFree = v.seg.poolFree + y.chain.length ∧ SameBytes v t ∧ OtherLetters i v t)) ∧
      (s.flushAtKey l (.hold l) .kD = (u, f) →
        ∃ t v y, PassEnded l i .kD f s u v ∧ v.letters[i] = some y ∧ exec (.hold l) s = .next t ∧
          t.letters[i] = some { y with
            state := .held, line := none, partner := none, held := some s.bus.ctl.settings.holdMs } ∧
          t.lines[l] = { v.lines[l] with state := .select, attached := none } ∧ t.Sounds l .accepted ∧
          Recognised l .kD s t ∧ OtherLetters i v t ∧ t.coders = v.coders ∧ SameUnits v t))) ∧
  ∀ (s : State) (i : LetterIx) (x : Letter), s.letters[i] = some x → x.state = .held → x.held ≠ none →
    (0 < x.length → s.deliv.active = none → s.deliv.suspended = none →
      ∃ t y, exec (.heldTimerExpiry i) s = .next t ∧ t.letters[i] = some y ∧ y.state = .closed ∧
        y.unfinished = true ∧ y.held = none ∧ y.chain = x.chain ∧ y.number = x.number ∧
        y.author = x.author ∧ SameLines s t ∧ t.seg = s.seg ∧ t.nums = s.nums ∧ t.xfer = s.xfer) ∧
    (0 < x.length → ∃ u, exec (.heldTimerExpiry i) s = .next (if x.number = 0 then u else u.look) ∧
      u.letters[i] = some { x with state := .closed, line := none, unfinished := true, held := none } ∧
      OtherLetters i s u ∧ SameLines s u ∧ u.bus.ctl.eventSeq = s.bus.ctl.eventSeq + 1 ∧
      (∀ d, s.bus.ctl.eventDest = some d → s.HasRoom →
        u.InQueue d (.event 9 (s.bus.ctl.eventSeq + 1) s.bus.ctl.seconds
          (Event.closedUnfinished x.number x.author).details)) ∧
      u.seg = s.seg ∧ u.peers = s.peers ∧ u.nums = s.nums ∧ u.xfer = s.xfer ∧ u.deliv = s.deliv) ∧
    (x.length = 0 → ∃ t, exec (.heldTimerExpiry i) s = .next t ∧ t.letters[i] = none ∧
      t.nums.waiting = s.nums.waiting.filter (· ≠ i) ∧ OtherLetters i s t ∧ SameLines s t ∧
      SameBytes s t ∧ t.xfer = s.xfer ∧ t.deliv = s.deliv)

/-- Discard pass in READY or PLAYING: the records of the highest pass leave the chain and go back to the pool, and
the cursor moves to the first of them; on an empty chain it is refused (R19, R83). In
RECORDING the pass ends first, and the highest pass is then the one just ended, if it placed a record
(R82). -/
def Obligations.PassDiscarded : Prop :=
  ∀ (s : State) (l : LineNo) (i : LetterIx) (x : Letter), s.KeyFree l →
    (s.Works l .ready i x ∨ s.Works l .playing i x →
    (x.chain ≠ [] → ∃ t, exec (.discardPass l) s = .next t ∧
      t.letters[i] = some { x with
        chain := x.chain.filter fun r => r.pass ≠ highestPass x.chain
        cursor := min (firstOfPass (highestPass x.chain) x.chain)
          (chainLength (x.chain.filter fun r => r.pass ≠ highestPass x.chain)) } ∧
      t.seg.poolFree = s.seg.poolFree +
        (x.chain.filter fun r => r.pass = highestPass x.chain).length ∧
      t.lines[l] = { s.lines[l] with key := some .kC } ∧ t.Sounds l .accepted ∧ Recognised l .kC s t ∧
      OtherLetters i s t ∧ SameBytes s t) ∧
    (x.chain = [] → ∃ t, exec (.discardPass l) s = .next t ∧ t.letters = s.letters ∧
      t.lines[l] = { s.lines[l] with key := some .kC } ∧ t.Sounds l .refused ∧ Recognised l .kC s t ∧
      SameUnits s t)) ∧
    (∀ u f, s.Works l .recording i x → s.flushAtKey l (.discardPass l) .kC = (u, f) →
      ∃ t v y, PassEnded l i .kC f s u v ∧ v.letters[i] = some y ∧ exec (.discardPass l) s = .next t ∧
        t.lines = v.lines ∧ Recognised l .kC s t ∧ OtherLetters i v t ∧ SameBytes v t ∧ t.coders = v.coders ∧
        (y.chain ≠ [] → t.Sounds l .accepted ∧
          t.letters[i] = some { y with
            chain := y.chain.filter fun r => r.pass ≠ highestPass y.chain
            cursor := min (firstOfPass (highestPass y.chain) y.chain)
              (chainLength (y.chain.filter fun r => r.pass ≠ highestPass y.chain)) } ∧
          t.seg.poolFree = v.seg.poolFree +
            (y.chain.filter fun r => r.pass = highestPass y.chain).length) ∧
        (y.chain = [] → t.Sounds l .refused ∧ t.letters = v.letters ∧ SameUnits v t))

/-- Key events that move no line: a release, a key become held, a key on an IDLE line, a wind key
recognised in READY or PLAYING; a recognition while a key is down first releases it (log 8); and a wind key
recognised in RECORDING ends the pass (R82). -/
def Obligations.KeyEvents : Prop :=
  ∀ (s : State) (l : LineNo) (k : Key),
    (s.tones[l].keyDown = some k → keyWind k = none → s.lines[l].key = some k →
      ∃ t, exec (.keyReleased l k) s = .next t ∧ t.lines[l] = { s.lines[l] with key := none } ∧
        t.tones[l] = { s.tones[l] with keyDown := none, heldMark := false, downRun := 0, gapRun := 0 } ∧
        OtherLines l s t ∧ t.letters = s.letters ∧ SameUnits s t ∧ SameOutside s t) ∧
    (s.tones[l].keyDown = some k → s.tones[l].heldMark = false → keyWind k = none →
      ∃ t, exec (.keyBecomeHeld l k) s = .next t ∧ t.lines = s.lines ∧
        t.tones[l] = { s.tones[l] with heldMark := true, downRun := 4800 } ∧ OtherLines l s t ∧
        t.letters = s.letters ∧ SameUnits s t ∧ SameOutside s t) ∧
    (s.KeyFree l → s.LineIn l .idle → ∃ t, exec (.keyIgnoredInIdle l k) s = .next t ∧
      t.lines = s.lines ∧ t.tones[l].keyDown = some k ∧ t.tones[l].prompt = s.tones[l].prompt ∧
      OtherLines l s t ∧ t.letters = s.letters ∧ SameUnits s t ∧ SameOutside s t) ∧
    (∀ w i x, s.KeyFree l → s.Works l .ready i x ∨ s.Works l .playing i x →
      ∃ t, exec (.windKeyRecognised l w) s = .next t ∧
        t.lines[l] = { s.lines[l] with key := some (windKey w) } ∧
        t.tones[l].prompt = s.tones[l].prompt ∧ Recognised l (windKey w) s t ∧ t.letters = s.letters ∧
        t.ports = s.ports ∧ t.coders = s.coders ∧ SameUnits s t) ∧
    (∀ old, s.tones[l].keyDown = some old →
      (s.keyReleased l old).KeyFree l ∧
        s.keyRecognised l k = (s.keyReleased l old).keyRecognised l k) ∧
    (∀ w i x u f, s.KeyFree l → s.Works l .recording i x →
      s.flushAtKey l (.windKeyRecognised l w) (windKey w) = (u, f) →
      ∃ t, exec (.windKeyRecognised l w) s = .next t ∧ PassEnded l i (windKey w) f s u t)

/-- A prompt ends, whatever its place in its cadence (log 32): it is removed; a Refused that ends over a
SETTLING entry brings Wait back; Wait has no end (R105, R79). -/
def Obligations.PromptEnds : Prop :=
  ∀ (s : State) (l : LineNo) (r : PromptRun), s.tones[l].prompt = some r →
    (r.prompt ≠ .wait → r.prompt ≠ .refused ∨ s.waitsSettling l = false →
      ∃ t, exec (.promptEnded l) s = .next t ∧
        t.tones[l] = { s.tones[l] with prompt := none } ∧ t.lines = s.lines ∧ OtherLines l s t ∧
        t.letters = s.letters ∧ SameUnits s t ∧ SameOutside s t) ∧
    (r.prompt = .refused → s.waitsSettling l = true → ∃ t, exec (.promptEnded l) s = .next t ∧
      t.Sounds l .wait ∧ t.lines = s.lines ∧ OtherLines l s t ∧ t.letters = s.letters ∧ SameUnits s t ∧
      SameOutside s t) ∧
    (r.prompt = .wait → exec (.promptEnded l) s = .next (s.taken (.promptEnded l)))

/-! ### Peers and numbers -/

/-- The beacon timer places a Beacon with the figures of the moment and starts again (R134, R135). Its
caution flag while DETACHED is a free value (log 6). -/
def Obligations.BeaconPlaced : Prop :=
  ∀ s : State, s.nums.beacon ≠ none → ∃ t b, exec .beaconTimerExpiry s = .next t ∧
    t.nums = { s.nums with beacon := some 1000 } ∧
    t.bus = { s.bus with link := { s.bus.link with beacon := some b } } ∧
    b.cls = .squeeze ∧ b.state = 2 ∧ b.next = s.nums.next ∧ b.capacity = s.seg.free ∧
    b.seconds = s.bus.ctl.seconds.toNat ∧ b.held = s.countIn [.held] ∧
    b.closed = s.countIn [.closed, .delivering, .suspended, .stranded] ∧
    (s.bus.link.state = .normal → b.caution = false) ∧
    (s.bus.link.state = .caution ∨ s.bus.link.state = .muted → b.caution = true) ∧
    SameWork s t ∧ t.peers = s.peers

/-- A Beacon enters the Peer Table and raises the Next Number by its class; one that carries the
station's own number makes no entry, and raises it by that row of R141's table whatever class it names, which
is the model's reading (R136, R137, R141, log 43). A console newly present makes Station Control
choose again, a filing station newly present revives the STRANDED letters (R138, R184), and a restart seen
raises its event and resolves the transfers with the station (R139, R170). -/
def Obligations.BeaconTaken : Prop :=
  ∀ (s : State) (st : Station) (b : BeaconBody), s.Numbered →
    (s.bus.ctl.number ≠ some st → s.peer st = none → ∃ t, exec (.beacon st b) s = .next t ∧
      t.peers = s.peers ++ [⟨st, b.cls, b, 0, b.state == 2⟩] ∧
      t.nums.next = (match b.cls with
        | .squeeze => max s.nums.next (min b.next 16777215)
        | .filing => max s.nums.next (min (b.next + 1) 16777215)
        | .console => s.nums.next) ∧
      SameBytes s t ∧ SameLines s t) ∧
    (∀ old, s.bus.ctl.number ≠ some st → s.peer st = some old → ∃ t, exec (.beacon st b) s = .next t ∧
      t.peers = s.peers.map (fun p => if p.station = st then ⟨st, b.cls, b, 0, b.state == 2⟩ else p) ∧
      t.nums.next = (match b.cls with
        | .squeeze => max s.nums.next (min b.next 16777215)
        | .filing => max s.nums.next (min (b.next + 1) 16777215)
        | .console => s.nums.next) ∧
      SameBytes s t) ∧
    (s.bus.ctl.number = some st → ∃ t, exec (.beacon st b) s = .next t ∧ t.peers = s.peers ∧
      t.nums.next = max s.nums.next (min b.next 16777215) ∧ SameWork s t ∧ t.bus = s.bus) ∧
    (s.bus.ctl.number ≠ some st → b.state = 2 →
      (∀ old, s.peer st = some old → old.present = false ∧ old.last.seconds ≤ b.seconds) →
      ∃ t, exec (.beacon st b) s = .next t ∧
        (b.cls = .console → t.bus.ctl.eventDest = consoleOf t.peers ∧ t.bus.link = s.bus.link ∧
          SameWork s t) ∧
        (b.cls = .filing → ∀ i x, s.letters[i] = some x → x.state = .stranded →
          (∀ a, s.deliv.active = some a → a.letter ≠ i) → (∀ n, s.deliv.suspended ≠ some (i, n)) →
          ∃ y, t.letters[i] = some y ∧ y.state = .closed ∧ y.attempts = 0 ∧ y.number = x.number ∧
            y.chain = x.chain)) ∧
    (∀ old, s.bus.ctl.number ≠ some st → s.peer st = some old → old.cls = .squeeze → b.cls = .squeeze →
      b.seconds < old.last.seconds → s.bus.link.control.length ≤ 8 →
      ∃ t, exec (.beacon st b) s = .next t ∧
        (∀ d, s.bus.ctl.eventDest = some d → ∃ seq, t.InQueue d
          (.event 13 seq s.bus.ctl.seconds [BitVec.ofNat 8 st, 0#8])) ∧
        (∀ o x, s.xfer.outgoing = some o → o.taker = st → s.letters[o.letter] = some x →
          s.xfer.incoming.all (fun c => c.giver != st) = true →
          (∀ e ∈ s.xfer.settling, e.giver ≠ st) →
          NowHeld o.letter x s t ∧ t.xfer = { s.xfer with outgoing := none } ∧
            t.bus.link.offTransfer = none ∧ t.seg = s.seg) ∧
        (∀ c x, s.xfer.incoming = some c → c.giver = st → s.letters[c.letter] = some x →
          s.xfer.outgoing.all (fun o => o.taker != st) = true → (∀ e ∈ s.xfer.settling, e.giver ≠ st) →
          Freed c.letter x s t ∧ OtherLetters c.letter s t ∧ t.xfer = { s.xfer with incoming := none } ∧
            t.seg.reservation = 0 ∧
            (∀ l, s.fetchingLine c.letter = some l →
              t.lines[l] = { s.lines[l] with state := .select, fetchRef := none, waitTimer := none } ∧
                t.Sounds l .refused ∧ OtherLines l s t) ∧
            ∀ q ∈ t.bus.link.control, q.msg.kind = 0x01 → q ∈ s.bus.link.control) ∧
        (∀ e x, s.xfer.settling = [e] → e.giver = st → s.letters[e.letter] = some x →
          s.xfer.outgoing.all (fun o => o.taker != st) = true →
          s.xfer.incoming.all (fun c => c.giver != st) = true →
          t.xfer = { s.xfer with settling := [] } ∧ t.seg = s.seg ∧
            (s.attachingLine e.letter = none → NowHeld e.letter x s t) ∧
            (∀ l, s.attachingLine e.letter = some l →
              t.lines[l] = { s.lines[l] with
                state := .ready, attached := some e.letter, fetchRef := none, waitTimer := none } ∧
              t.Sounds l .ready ∧ OtherLines l s t ∧
              t.letters[e.letter] = some { x with
                state := .open, line := some l, partner := none, held := none } ∧
              OtherLetters e.letter s t)))

/-- A silence timer runs out: the peer is absent; a console's absence makes Station Control choose
again, and a filing station's absence aborts its deliveries, active and suspended (R138, R187). In the
last case no other delivery can start: the retry timer runs, or no filing station is left. -/
def Obligations.PeerFallsSilent : Prop :=
  ∀ (s : State) (st : Station) (p : Peer), s.peer st = some p → p.present = true →
    ∃ t, exec (.silenceTimerExpiry st) s = .next t ∧
      t.peers = s.peers.map (fun q =>
        if q.station = st then { q with silence := 3500, present := false } else q) ∧
      (p.cls = .console → t.bus.ctl.eventDest = consoleOf t.peers ∧ SameWork s t) ∧
      (p.cls = .squeeze → t.bus = s.bus ∧ SameWork s t) ∧
      (p.cls = .filing → s.deliv.retry ≠ none ∨ (s.silence st).chooseFiling = none →
        t.deliv.retry = s.deliv.retry ∧
        (∀ i n x q, s.deliv.suspended = some (i, n) → s.letters[i] = some x → x.progress = some q →
          q.filing = st → (∀ a, s.deliv.active = some a → a.letter ≠ i) →
          DeliveryAborted i x t ∧ t.deliv.suspended = none) ∧
        (∀ a x q, s.activeOf = some (a, x, q) → q.filing = st →
          (∀ i n, s.deliv.suspended = some (i, n) → i ≠ a.letter) →
          DeliveryAborted a.letter x t ∧
          (∀ g, a.phase = .ended → q.tag = some g → ⟨x.number, st, g⟩ ∈ t.deliv.unconfirmed) ∧
          (s.deliv.suspended = none → t.deliv.active = none ∧ t.bus.link.offDelivery = none) ∧
          (∀ i n y r, s.deliv.suspended = some (i, n) → s.letters[i] = some y → y.progress = some r →
            r.filing ≠ st → t.letters[i] = some { y with state := .delivering } ∧
              t.deliv.suspended = none ∧
              t.deliv.active = some ⟨i, n, .streaming, none, false, true, none⟩))) ∧
      SameBytes s t ∧ SameLines s t ∧ t.nums = s.nums

/-- Another station's Number Claim raises the Next Number, spoils a claim it passes, and draws a Claim
Objection for a number held here (R141, R150). A Claim Objection: for another station it only raises the
Next Number; for this one it is too late, refused, or takes the number back (R152, R29). That a refused
objection takes its entry out of the window too is the model's reading (log 13). -/
def Obligations.ClaimsAndObjections : Prop :=
  (∀ (s : State) (st : Station) (n : Nat), s.Numbered →
    (s.findNumber n = none → ∃ t, exec (.numberClaim st n) s = .next t ∧
      t.nums.next = max s.nums.next (min (n + 1) 16777215) ∧
      t.nums.link = s.nums.link.map (fun k => (k.1, k.2 && t.nums.next ≤ k.1)) ∧
      t.nums.waiting = s.nums.waiting ∧ t.nums.window = s.nums.window ∧ t.bus = s.bus ∧ SameWork s t ∧
      t.peers = s.peers) ∧
    (∀ i, s.findNumber n = some i → s.HasRoom → ∃ t, exec (.numberClaim st n) s = .next t ∧
      t.nums.next = max s.nums.next (min (n + 1) 16777215) ∧ Placed 63 (.claimObjection n st) s t ∧
      SameWork s t ∧ t.peers = s.peers)) ∧
  ∀ (s : State) (st : Station) (n : Nat) (claimer : Station), s.Numbered →
    (s.bus.ctl.number ≠ some claimer → ∃ t, exec (.claimObjection st n claimer) s = .next t ∧
      t.nums.next = max s.nums.next (min (n + 1) 16777215) ∧ t.nums.window = s.nums.window ∧
      t.nums.waiting = s.nums.waiting ∧ t.bus = s.bus ∧ SameWork s t) ∧
    (s.bus.ctl.number = some claimer → (∀ e ∈ s.nums.window, e.number ≠ n) →
      ∃ t, exec (.claimObjection st n claimer) s = .next t ∧
        t.bus.counters.objectionsIgnored = s.bus.counters.objectionsIgnored + 1 ∧
        t.bus.ctl.eventSeq = s.bus.ctl.eventSeq + 1 ∧ t.nums.window = s.nums.window ∧ SameWork s t) ∧
    (∀ e x, s.bus.ctl.number = some claimer → s.nums.window.find? (·.number == n) = some e →
      s.letters[e.letter] = some x →
      (x.state = .open ∨ x.state = .held ∨ (x.state = .closed ∧ x.progress = none) →
        ∃ t, exec (.claimObjection st n claimer) s = .next t ∧
          t.letters[e.letter] = some { x with number := 0 } ∧ OtherLetters e.letter s t ∧
          t.nums.waiting = e.letter :: s.nums.waiting ∧
          t.nums.window = s.nums.window.filter (·.number ≠ n) ∧ SameLines s t ∧ t.seg = s.seg) ∧
      (x.state = .transitOut ∨ x.state = .delivering ∨ x.state = .suspended ∨ x.state = .stranded ∨
          (x.state = .closed ∧ x.progress ≠ none) →
        ∃ t, exec (.claimObjection st n claimer) s = .next t ∧ t.letters = s.letters ∧
          t.bus.counters.objectionsIgnored = s.bus.counters.objectionsIgnored + 1 ∧
          t.nums.window = s.nums.window.filter (·.number ≠ n) ∧ t.nums.waiting = s.nums.waiting ∧
          SameLines s t ∧ t.seg = s.seg))

/-- The station's own claim completes: the head takes the number and opens its window, the Next Number
rises, and the next claim is made; with no letter waiting the number is a gap (R146). A CLOSED head joins
the Delivery Queue, and is offered at once where a delivery can start (R29, R174). The window's
50 ms are 5,000 units of 10 µs (R151, log 39). That the head takes the number whatever the claim link's
validity, as R146 gives it, is the model's reading where a transfer's entry has that number by then (log 42). -/
def Obligations.ClaimCompletes : Prop :=
  ∀ (s : State) (n : Nat) (valid : Bool), s.nums.frame = .current → s.nums.link = some (n, valid) →
    (∀ i rest x, s.nums.waiting = i :: rest → s.letters[i] = some x → x.state ≠ .closed →
      ∃ t, exec (.numberClaimCompletes n) s = .next t ∧
        t.letters[i] = some { x with number := n } ∧ OtherLetters i s t ∧ t.nums.waiting = rest ∧
        t.nums.window = s.nums.window ++ [⟨n, i, 5000⟩] ∧ t.nums.next = max s.nums.next (n + 1) ∧
        (s.Active → rest ≠ [] → s.nums.wait = none → max s.nums.next (n + 1) < 16777215 → s.HasRoom →
          t.nums.link = some (max s.nums.next (n + 1), true) ∧ t.nums.frame = .queued ∧
          Placed 63 (.numberClaim (max s.nums.next (n + 1))) s t) ∧
        (rest = [] → t.nums.link = none ∧ t.nums.frame = .none ∧ t.bus = s.bus) ∧
        SameLines s t ∧ t.seg = s.seg ∧ t.deliv = s.deliv ∧ t.xfer = s.xfer) ∧
    (∀ i rest x, s.nums.waiting = i :: rest → s.letters[i] = some x → x.state = .closed → 0 < n →
      (∀ a, s.deliv.active = some a → a.letter ≠ i) → (∀ m, s.deliv.suspended ≠ some (i, m)) →
      ∃ t y, exec (.numberClaimCompletes n) s = .next t ∧ t.letters[i] = some y ∧ y.number = n ∧
        y.queued = true ∧ y.chain = x.chain ∧ y.attempts = x.attempts ∧
        t.nums.window = s.nums.window ++ [⟨n, i, 5000⟩] ∧ t.nums.waiting = rest ∧
        t.nums.next = max s.nums.next (n + 1) ∧ SameLines s t ∧ t.seg = s.seg ∧ t.xfer = s.xfer ∧
        (s.deliv.retry ≠ none → y = { x with number := n } ∧ t.deliv = s.deliv ∧ OtherLetters i s t) ∧
        (∀ st, s.Active → s.isDetached = false → s.deliv = ⟨none, none, none, s.deliv.unconfirmed⟩ →
          s.queueHead = none → s.chooseFiling = some st → s.bus.link.control.length ≤ 8 →
          JustOffered i st s.streamId t ∧ OtherLetters i s t)) ∧
    (s.nums.waiting = [] → ∃ t, exec (.numberClaimCompletes n) s = .next t ∧
      t.nums = { s.nums with next := max s.nums.next (n + 1), link := none, frame := .none } ∧
      t.bus = s.bus ∧ SameWork s t)

/-- The claim wait timer and the objection window run out, and the answer when a Number Claim is about
to start (R145, R147, R151). -/
def Obligations.ClaimTimers : Prop :=
  ∀ s : State,
    (s.nums.wait ≠ none → s.Active → s.nums.waiting ≠ [] → s.nums.link = none →
      s.nums.next < 16777215 → s.HasRoom → ∃ t, exec .claimWaitTimerExpiry s = .next t ∧
        t.nums = { s.nums with wait := none, link := some (s.nums.next, true), frame := .queued } ∧
        Placed 63 (.numberClaim s.nums.next) s t ∧ SameWork s t) ∧
    (s.nums.wait ≠ none → s.nums.waiting = [] → ∃ t, exec .claimWaitTimerExpiry s = .next t ∧
      t.nums = { s.nums with wait := none } ∧ t.bus = s.bus ∧ SameWork s t) ∧
    (∀ n, ∃ t, exec (.objectionWindowExpiry n) s = .next t ∧
      t.nums = { s.nums with window := s.nums.window.filter (·.number ≠ n) } ∧ t.bus = s.bus ∧
      SameWork s t ∧ t.peers = s.peers) ∧
    (∀ n valid, s.nums.link = some (n, valid) →
      (s.nums.waiting = [] → s.consultClaim.2 = false ∧ s.consultClaim.1.nums.link = none ∧
        s.consultClaim.1.nums.run = s.nums.run ∧ s.consultClaim.1.bus = s.bus) ∧
      (s.nums.waiting ≠ [] → valid = true → s.consultClaim.2 = true ∧ s.consultClaim.1.nums.run = 0 ∧
        s.consultClaim.1.nums.frame = .current ∧ s.consultClaim.1.bus = s.bus) ∧
      (s.nums.waiting ≠ [] → valid = false → s.nums.run < 7 → s.Active → s.nums.wait = none →
        s.nums.next < 16777215 → s.HasRoom → s.consultClaim.2 = false ∧
          s.consultClaim.1.nums.link = some (s.nums.next, true) ∧
          s.consultClaim.1.nums.run = s.nums.run + 1 ∧
          Placed 63 (.numberClaim s.nums.next) s s.consultClaim.1) ∧
      (s.nums.waiting ≠ [] → valid = false → 7 ≤ s.nums.run → s.consultClaim.2 = false ∧
        s.consultClaim.1.nums.link = none ∧ s.consultClaim.1.nums.run = 0 ∧
        s.consultClaim.1.nums.wait = some 100 ∧ s.consultClaim.1.bus = s.bus))

/-! ### Locating and moving letters -/

/-- A Locate completes, waits too long, is answered, and draws an answer (R155 to R157). -/
def Obligations.LocateRows : Prop :=
  ∀ s : State,
    (∀ tag c, (s.xfer.collections.find? fun y => y.tag == tag && !y.collecting) = some c →
      ∃ t, exec (.locateCompletes tag) s = .next t ∧
        t.xfer = { s.xfer with collections := s.xfer.collections.map fun y =>
          if y = c then { c with collecting := true, timer := 150 } else y } ∧
        SameLines s t ∧ t.letters = s.letters ∧ t.bus = s.bus ∧ t.seg = s.seg ∧ SameOutside s t) ∧
    (∀ l c, (s.xfer.collections.find? fun y => y.line == l && !y.collecting) = some c →
      s.lines[l].locate = some c.tag → ∃ t, exec (.locateQueuedTimeout l) s = .next t ∧
        t.lines[l] = { s.lines[l] with state := .select, locate := none } ∧ t.Sounds l .refused ∧
        t.xfer = { s.xfer with collections := s.xfer.collections.filter (· ≠ c) } ∧
        OtherLines l s t ∧ t.letters = s.letters ∧ t.bus = s.bus ∧ t.seg = s.seg ∧ SameOutside s t) ∧
    (∀ sender author k tag, s.Active → s.HasRoom → 0 < k → s.heldNumbers author ≠ [] →
      ∃ t, exec (.locate sender author k tag) s = .next t ∧
        Placed sender (.locateAnswer tag author
          (((s.heldNumbers author).mergeSort fun a b => decide (b ≤ a)).take (min k 8))) s t ∧
        SameWork s t ∧ t.peers = s.peers ∧ t.nums = s.nums) ∧
    (∀ sender author k tag, s.heldNumbers author = [] →
      exec (.locate sender author k tag) s = .next (s.taken (.locate sender author k tag))) ∧
    (∀ sender tag author numbers c, s.Active →
      (s.xfer.collections.find? fun y => y.tag == tag && y.author == author && y.collecting) = some c →
      ∃ t, exec (.locateAnswer sender tag author numbers) s = .next t ∧
        t.xfer = { s.xfer with collections := s.xfer.collections.map fun y =>
          if y = c then
            { c with pairs := (numbers.map fun n => (sender, n)).foldl addPair c.pairs }
          else y } ∧
        SameLines s t ∧ t.letters = s.letters ∧ t.bus = s.bus ∧ t.seg = s.seg)

/-- The collection window runs out: the pick is the k-th of the ranking of the collected pairs joined with
the station's own held letters of the author, and the line acts on it (R157, R77, R158, R33). -/
def Obligations.PicksTaken : Prop :=
  (∀ pairs : List (Station × Nat), (ranking pairs).Perm pairs ∧
    (ranking pairs).Pairwise fun p q => q.2 < p.2 ∨ (p.2 = q.2 ∧ p.1 ≤ q.1)) ∧
  (∀ (s : State) (c : Collection), c.pairs.Nodup → ∃ pairs : List (Station × Nat), pairs.Nodup ∧
    (∀ q, q ∈ pairs ↔ q ∈ c.pairs ∨ (q.1 = s.bus.ctl.number.getD 0 ∧ ∃ (i : LetterIx) (x : Letter),
      s.letters[i] = some x ∧ x.state = .held ∧ x.author = c.author ∧ x.number = q.2 ∧ x.number ≠ 0)) ∧
    s.pickOf c = match (ranking pairs)[c.k - 1]? with
      | none => .none
      | some (st, n) =>
          if st = s.bus.ctl.number.getD 0 then
            match s.findNumber n with
            | some i => .own i
            | none => .none
          else .remote st n) ∧
  ∀ (s : State) (l : LineNo) (c : Collection),
    (s.xfer.collections.find? fun y => y.line == l && y.collecting) = some c →
    s.lines[l].locate = some c.tag →
    (s.pickOf c = .none → ∃ t, exec (.collectionWindowExpiry l) s = .next t ∧
      t.lines[l] = { s.lines[l] with state := .select, locate := none } ∧ t.Sounds l .refused ∧
      t.xfer = { s.xfer with collections := s.xfer.collections.filter (· ≠ c) } ∧
      OtherLines l s t ∧ t.letters = s.letters ∧ t.bus = s.bus ∧ t.seg = s.seg) ∧
    (∀ i x, s.pickOf c = .own i → s.letters[i] = some x → x.state = .held →
      ∃ t, exec (.collectionWindowExpiry l) s = .next t ∧ Landed l i x s t ∧
        t.xfer = { s.xfer with collections := s.xfer.collections.filter (· ≠ c) } ∧
        t.bus = s.bus ∧ t.seg = s.seg ∧ t.nums = s.nums) ∧
    (∀ st n i, s.pickOf c = .remote st n → s.xfer.incoming = none → s.findNumber n = none →
      s.isPresent st = true → s.freeEntry = some i → s.HasRoom →
      ∃ t, exec (.collectionWindowExpiry l) s = .next t ∧
        t.letters[i] = some (.new n c.author .transitIn none (some st)) ∧ OtherLetters i s t ∧
        t.lines[l] = { s.lines[l] with state := .fetch, locate := none, fetchRef := some i } ∧
        OtherLines l s t ∧ t.tones[l] = s.tones[l] ∧
        t.nums.next = max s.nums.next (min (n + 1) 16777215) ∧
        t.xfer.incoming = some ⟨i, n, st, none, 0, 0, none, 0xFFFFFFFF#32, 300, s.streamId⟩ ∧
        t.xfer.collections = s.xfer.collections.filter (· ≠ c) ∧
        t.bus = { s.bus with link := { s.bus.link with
          control := s.bus.link.control ++ [⟨st, .fetch n c.author, s.streamId⟩] } } ∧
        t.streamId = s.streamId + 1 ∧ t.seg = s.seg ∧ t.deliv = s.deliv) ∧
    (∀ st n, s.pickOf c = .remote st n →
      s.xfer.incoming ≠ none ∨ s.findNumber n ≠ none ∨ s.isPresent st = false ∨ s.freeEntry = none →
      ∃ t, exec (.collectionWindowExpiry l) s = .next t ∧
        t.lines[l] = { s.lines[l] with state := .select, locate := none } ∧ t.Sounds l .refused ∧
        OtherLines l s t ∧ t.letters = s.letters ∧ t.bus = s.bus ∧ t.seg = s.seg ∧ t.nums = s.nums)

/-- A Fetch is answered by the state of its letter; a HELD one is lent out, with a snapshot of its fields and
of the bytes and blocks its records come to (R159, R32). -/
def Obligations.FetchAnswered : Prop :=
  (∀ (s : State) (x : Letter), s.snapshotOf x =
    { number := x.number
      author := x.author
      priority := x.priority
      mode := x.mode
      instrNext := x.instrNext
      cursor := x.cursor
      length := x.length
      passCount := x.passCount
      records := x.chain.length
      bytes := (x.chain.map fun r => ((s.seg.items r 0).map fun it => it.bytes.length).sum).sum
      blocks := (x.chain.map fun r =>
        (((s.seg.items r 0).map fun it => it.bytes.length).sum + 1023) / 1024).sum }) ∧
  ∀ (s : State) (sender : Station) (n author : Nat), s.Active → s.HasRoom →
    (s.findNumber n = none → ∃ t, exec (.fetch sender n author) s = .next t ∧
      Placed sender (.fetchRefuse n .unknown) s t ∧ SameWork s t ∧ t.nums = s.nums ∧ t.peers = s.peers) ∧
    (∀ i x, s.findNumber n = some i → s.letters[i] = some x →
      (x.author ≠ author → ∃ t, exec (.fetch sender n author) s = .next t ∧
        Placed sender (.fetchRefuse n .unknown) s t ∧ SameWork s t ∧ t.nums = s.nums) ∧
      (x.author = author → x.state = .open ∨ x.state = .transitOut ∨ x.state = .transitIn ∨
          x.state = .settling ∨ (x.state = .held ∧ s.xfer.outgoing ≠ none) →
        ∃ t, exec (.fetch sender n author) s = .next t ∧
          Placed sender (.fetchRefuse n .busy) s t ∧ SameWork s t ∧ t.nums = s.nums) ∧
      (x.author = author → x.state = .closed ∨ x.state = .delivering ∨ x.state = .suspended ∨
          x.state = .stranded →
        ∃ t, exec (.fetch sender n author) s = .next t ∧
          Placed sender (.fetchRefuse n .closed) s t ∧ SameWork s t ∧ t.nums = s.nums) ∧
      (x.author = author → x.state = .held → s.xfer.outgoing = none →
        ∃ t, exec (.fetch sender n author) s = .next t ∧
          t.letters[i] = some { x with state := .transitOut, held := none, partner := some sender } ∧
          OtherLetters i s t ∧ SameLines s t ∧ t.seg = s.seg ∧ t.deliv = s.deliv ∧
          t.xfer = { s.xfer with
            outgoing := some ⟨i, x.number, sender, .accepted, 0, 0, 0xFFFFFFFF#32, none, false, s.streamId⟩ } ∧
          t.streamId = s.streamId + 1 ∧
          t.bus = { s.bus with link := { s.bus.link with
            control := s.bus.link.control ++
              [⟨sender, .fetchAccept (s.snapshotOf x), s.streamId⟩] } }))

/-- A Fetch Accept is admitted, not admitted, repeated (which restarts the receive timer, as a repeated
Transfer Data frame does), or for no transfer (R160, R163, R47, R33). -/
def Obligations.FetchAcceptTaken : Prop :=
  ∀ (s : State) (sender : Station) (snap : Snapshot), s.Active →
    (∀ inc x, s.incomingOf snap.number sender = some inc → s.letters[inc.letter] = some x →
      (inc.snapshot = none → snap.blocks ≤ s.seg.common →
        ∃ t, exec (.fetchAccept sender snap) s = .next t ∧
          t.seg = { s.seg with reservation := snap.blocks } ∧
          t.letters[inc.letter] = some { x with
            priority := snap.priority, mode := snap.mode, passCount := snap.passCount,
            instrNext := snap.instrNext } ∧
          OtherLetters inc.letter s t ∧
          t.xfer = { s.xfer with incoming := some { inc with snapshot := some snap, timer := 500 } } ∧
          t.bus = s.bus ∧ SameLines s t ∧ t.nums = s.nums) ∧
      (inc.snapshot = none → s.seg.common < snap.blocks → s.HasRoom →
        ∃ t, exec (.fetchAccept sender snap) s = .next t ∧ TransferFailed inc x s t ∧
          t.InQueue inc.giver (.fetchCancel inc.number .noMemory)) ∧
      (inc.snapshot ≠ none →
        ∃ t, exec (.fetchAccept sender snap) s = .next t ∧
          t.xfer = { s.xfer with incoming := some { inc with timer := 500 } } ∧ t.bus = s.bus ∧
          SameLines s t ∧ t.letters = s.letters ∧ t.seg = s.seg ∧ t.nums = s.nums ∧ t.deliv = s.deliv)) ∧
    (s.incomingOf snap.number sender = none → s.HasRoom →
      ∃ t, exec (.fetchAccept sender snap) s = .next t ∧
        Placed sender (.fetchCancel snap.number .timeout) s t ∧ SameWork s t)

/-- A Fetch Refuse, and the accept and receive timers, fail the incoming transfer; a timer's failure
places a Fetch Cancel and raises the transfer-cancelled event (R160, R167, R198). -/
def Obligations.IncomingFails : Prop :=
  ∀ (s : State) (inc : Incoming) (x : Letter), s.xfer.incoming = some inc →
    s.letters[inc.letter] = some x → s.bus.link.control.length ≤ 8 →
    (∀ r, s.Active → inc.snapshot = none →
      ∃ t, exec (.fetchRefuse inc.giver inc.number r) s = .next t ∧ TransferFailed inc x s t ∧
        ∀ d, s.bus.ctl.eventDest = some d → ∃ seq, t.InQueue d (.event 12 seq s.bus.ctl.seconds
          (Event.transferCancelled inc.number inc.giver (.refused r)).details)) ∧
    (inc.snapshot = none → ∃ t, exec .acceptTimerExpiry s = .next t ∧ TransferFailed inc x s t ∧
      t.InQueue inc.giver (.fetchCancel inc.number .timeout) ∧
      ∀ d, s.bus.ctl.eventDest = some d → ∃ seq, t.InQueue d (.event 12 seq s.bus.ctl.seconds
        (Event.transferCancelled inc.number inc.giver .timeout).details)) ∧
    (inc.snapshot ≠ none → ∃ t, exec .receiveTimerExpiry s = .next t ∧ TransferFailed inc x s t ∧
      t.InQueue inc.giver (.fetchCancel inc.number .timeout) ∧
      ∀ d, s.bus.ctl.eventDest = some d → ∃ seq, t.InQueue d (.event 12 seq s.bus.ctl.seconds
        (Event.transferCancelled inc.number inc.giver .timeout).details))

/-- The giver's stream: it starts when the Fetch Accept completes, moves past the items of each Transfer
Data frame, and waits for Take after the Transfer End (R161, R162). -/
def Obligations.GiverStreams : Prop :=
  ∀ (s : State) (o : Outgoing) (x : Letter), s.xfer.outgoing = some o → s.letters[o.letter] = some x →
    (o.phase = .accepted → ∃ t, exec (.fetchAcceptCompletes o.name) s = .next t ∧
      t.xfer = { s.xfer with outgoing := some { o with phase := .streaming } } ∧
      t.bus = { s.bus with link := { s.bus.link with offTransfer := some (s.transferFrame o x) } } ∧
      SameLines s t ∧ t.letters = s.letters ∧ t.seg = s.seg) ∧
    (∀ (d : DataBody) (r : SegRec), o.phase = .streaming → d.number = o.number → d.record = o.record →
      d.slice = o.slice → x.chain[o.record]? = some r →
      ∃ t p, exec (.transferDataCompletes o.name d) s = .next t ∧
        t.xfer = { s.xfer with outgoing := some p } ∧
        (let items := (s.seg.items r d.slice).take (d.items - if d.slice = 0 then 1 else 0)
         let span := (items.map (·.span)).sum
         p = { o with
           record := if r.count ≤ d.slice + span then d.record + 1 else d.record
           slice := if r.count ≤ d.slice + span then 0 else d.slice + span
           crc := items.foldl (fun k it => crc32 k it.bytes) o.crc }) ∧
        t.bus = { s.bus with link := { s.bus.link with offTransfer := some (s.transferFrame p x) } } ∧
        SameLines s t ∧ t.letters = s.letters ∧ t.seg = s.seg) ∧
    (o.phase = .streaming → ∃ t, exec (.transferEndCompletes o.name) s = .next t ∧
      t.xfer = { s.xfer with outgoing := some { o with phase := .ended, timer := some 2000 } } ∧
      t.bus = s.bus ∧ SameLines s t ∧ t.letters = s.letters ∧ t.seg = s.seg)

/-- A Transfer Data frame: one past the expected position, or malformed, fails the transfer; one before
it only restarts the timer; one at it is written into its record's block, whose bytes and counts are given,
and grows its record or places it. A header takes a block, or the transfer fails for lack of memory (R163,
R162, R206, R39, R48). A header alone and a frame without items are log 18. -/
def Obligations.TransferDataTaken : Prop :=
  ∀ (s : State) (sender : Station) (d : DataBody) (inc : Incoming) (snap : Snapshot) (x : Letter),
    s.Active → s.HasRoom → s.TableRising → s.MemoryCanonical → s.incomingOf d.number sender = some inc →
    inc.snapshot = some snap → s.letters[inc.letter] = some x →
    (inc.record < d.record ∨ (inc.record = d.record ∧ inc.slice < d.slice) ∨
        (inc.record = d.record ∧ inc.slice = d.slice ∧ s.checkItems snap inc d = none) →
      ∃ t, exec (.transferData sender d) s = .next t ∧ TransferFailed inc x s t ∧
        t.InQueue inc.giver (.fetchCancel inc.number .check)) ∧
    (d.record < inc.record ∨ (inc.record = d.record ∧ d.slice < inc.slice) ∨
        (inc.record = d.record ∧ inc.slice = d.slice ∧ s.checkItems snap inc d ≠ none ∧ d.items = 0) →
      ∃ t, exec (.transferData sender d) s = .next t ∧
        t.xfer = { s.xfer with incoming := some { inc with timer := 500 } } ∧ t.letters = s.letters ∧
        SameLines s t ∧ t.seg = s.seg ∧ t.bus = s.bus) ∧
    (∀ p, inc.record = d.record → inc.slice = d.slice → s.checkItems snap inc d = some p → d.items ≠ 0 →
      let written := inc.slice + (p.slices.map RxItem.span).sum
      let full := p.header.count ≤ written
      let after : Incoming := { inc with
        record := if full then inc.record + 1 else inc.record
        slice := if full then 0 else written
        header := if full then none else some p.header
        crc := p.slices.foldl (fun k it => crc32 k it.checkBytes) inc.crc
        timer := 500 }
      (∀ u, u = s.sealOwned inc.letter → inc.slice = 0 →
        (0 < u.seg.poolFree → u.transferMayTake = true →
          let b := Segment.lowestFrom 0 u.seg.blocks
          ∃ t e, exec (.transferData sender d) s = .next t ∧
            t.xfer = { s.xfer with incoming := some after } ∧ t.seg.find b = some e ∧
            (p.slices ≠ [] →
              t.letters[inc.letter] = some { x with
                chain := x.chain ++ [⟨b, 0, written, p.header.pass, p.header.kind⟩] } ∧
              t.seg.poolFree + 1 = s.seg.poolFree ∧
              e = ⟨b, 1, p.header.pass, 0, written, (joinedBytes 0 p.slices).length, inc.letter,
                if full then none else some .transfer⟩ ∧
              Memory.readBytes t.seg.mem (b * 1024) e.bytes = joinedBytes 0 p.slices) ∧
            (p.slices = [] → t.letters = s.letters ∧ t.seg.poolFree = s.seg.poolFree ∧
              e = ⟨b, 0, p.header.pass, 0, 0, 0, inc.letter, some .transfer⟩ ∧ SameBytes s t) ∧
            OtherBlocks b s t ∧ OtherLetters inc.letter s t ∧ SameLines s t ∧ t.nums = s.nums) ∧
        (u.seg.poolFree = 0 ∨ u.transferMayTake = false →
          ∃ t, exec (.transferData sender d) s = .next t ∧ TransferFailed inc x s t ∧
            t.InQueue inc.giver (.fetchCancel inc.number .noMemory)) ∧
        ((∀ b ∈ s.seg.blocks, b.owner = inc.letter → b.filler = none) → u = s)) ∧
      (∀ b front r, 0 < inc.slice → s.repackBlock inc.letter = some b → x.chain = front ++ [r] →
        s.WalkWhole b → ((s.seg.records b).map (·.span)).sum = inc.slice → p.header.count ≤ 250 →
        b.refs ≠ 0 →
        (∀ q, s.seg.trailingSilence b = some q → 0 < q.span ∧ s.seg.bytesOf b q = silenceRecord q.span) →
        ∃ t e, exec (.transferData sender d) s = .next t ∧
          t.xfer = { s.xfer with incoming := some after } ∧
          t.letters[inc.letter] = some { x with
            chain := front ++ [{ r with count := r.count + (p.slices.map RxItem.span).sum }] } ∧
          t.seg.find b.num = some e ∧
          e = { b with
            slices := b.slices + (p.slices.map RxItem.span).sum
            bytes := e.bytes
            filler := if full then none else b.filler } ∧
          Memory.readBytes t.seg.mem (b.num * 1024) e.bytes =
            (match s.seg.trailingSilence b with
              | some q => Memory.readBytes s.seg.mem (b.num * 1024) q.offset ++ joinedBytes q.span p.slices
              | none => Memory.readBytes s.seg.mem (b.num * 1024) b.bytes ++ joinedBytes 0 p.slices) ∧
          t.seg.poolFree = s.seg.poolFree ∧
          OtherBlocks b.num s t ∧ OtherLetters inc.letter s t ∧ SameLines s t ∧ t.nums = s.nums))

/-- A Transfer End: the letter is SETTLING, a Take is placed and the waiting line hears Wait; or the
transfer fails its check (R164, R79). -/
def Obligations.TransferEndTaken : Prop :=
  ∀ (s : State) (sender : Station) (n : Nat) (check : Word32) (inc : Incoming) (snap : Snapshot)
    (x : Letter), s.Active → s.HasRoom → s.incomingOf n sender = some inc → inc.snapshot = some snap →
    s.letters[inc.letter] = some x →
    (check = ~~~inc.crc → inc.record = snap.records → inc.slice = 0 → x.length = snap.length →
      ∃ t, exec (.transferEnd sender n check) s = .next t ∧
        t.letters[inc.letter] = some { x with state := .settling, cursor := min snap.cursor x.length } ∧
        OtherLetters inc.letter s t ∧
        t.xfer = { s.xfer with
          incoming := none
          settling := s.xfer.settling ++ [⟨inc.letter, inc.number, inc.giver, 2000⟩] } ∧
        t.seg.reservation = 0 ∧ SameBytes s t ∧ t.InQueue inc.giver (.take inc.number) ∧
        (∀ l, s.fetchingLine inc.letter = some l →
          t.lines[l] = { s.lines[l] with waitTimer := some 10000 } ∧ t.Sounds l .wait ∧
            OtherLines l s t) ∧
        (s.fetchingLine inc.letter = none → SameLines s t)) ∧
    (check ≠ ~~~inc.crc ∨ inc.record ≠ snap.records ∨ inc.slice ≠ 0 ∨ x.length ≠ snap.length →
      ∃ t, exec (.transferEnd sender n check) s = .next t ∧ TransferFailed inc x s t ∧
        t.InQueue inc.giver (.fetchCancel inc.number .check))

/-- The giver lets its letter go at a Take, keeps it at a Fetch Cancel, and acts on a Check Answer
(R165, R167, R169, R32). -/
def Obligations.LettingGo : Prop :=
  ∀ (s : State) (sender : Station) (n : Nat), s.Active →
    (∀ i x, s.lentTo n sender = some i → s.letters[i] = some x → s.HasRoom →
      ∃ t, exec (.take sender n) s = .next t ∧ Freed i x s t ∧ OtherLetters i s t ∧ SameLines s t ∧
        t.xfer = { s.xfer with
          outgoing := none
          releases := (if s.xfer.releases.length < 8 then s.xfer.releases else s.xfer.releases.drop 1) ++
            [(n, sender)] } ∧
        t.bus.link.offTransfer = none ∧ t.InQueue sender (.released n)) ∧
    (s.lentTo n sender = none → s.HasRoom → (n, sender) ∈ s.xfer.releases →
      ∃ t, exec (.take sender n) s = .next t ∧ Placed sender (.released n) s t ∧ SameWork s t) ∧
    (s.lentTo n sender = none → s.HasRoom → (n, sender) ∉ s.xfer.releases →
      ∃ t, exec (.take sender n) s = .next t ∧ Placed sender (.takeUnknown n) s t ∧ SameWork s t) ∧
    (∀ i x r, s.lentTo n sender = some i → s.letters[i] = some x →
      ∃ t, exec (.fetchCancel sender n r) s = .next t ∧ NowHeld i x s t ∧ t.seg = s.seg ∧
        t.xfer = { s.xfer with outgoing := none } ∧
        t.bus = { s.bus with link := { s.bus.link with offTransfer := none } }) ∧
    (∀ r, s.lentTo n sender = none →
      exec (.fetchCancel sender n r) s = .next (s.taken (.fetchCancel sender n r))) ∧
    (∀ o x, s.xfer.outgoing = some o → o.taker = sender → o.number = n → o.outstanding = true →
      s.letters[o.letter] = some x →
      (s.HasRoom → ∃ t, exec (.checkAnswer sender n .settling) s = .next t ∧ Freed o.letter x s t ∧
        OtherLetters o.letter s t ∧ t.xfer.outgoing = none ∧ (n, sender) ∈ t.xfer.releases ∧
        t.InQueue sender (.released n) ∧ SameLines s t) ∧
      (∃ t, exec (.checkAnswer sender n .receiving) s = .next t ∧
        t.xfer = { s.xfer with
          outgoing := some { o with phase := .streaming, timer := none, outstanding := false } } ∧
        t.bus = { s.bus with link := { s.bus.link with offTransfer := some (s.transferFrame o x) } } ∧
        t.letters = s.letters ∧ SameLines s t ∧ t.seg = s.seg) ∧
      (∃ t, exec (.checkAnswer sender n .notHeld) s = .next t ∧ NowHeld o.letter x s t ∧
        t.xfer = { s.xfer with outgoing := none } ∧ t.seg = s.seg ∧ t.bus.ctl = s.bus.ctl ∧
        t.bus.link.control = s.bus.link.control))

/-- A letter settles at Released or Take Unknown; until then its Take is placed again, and the partners
check on each other (R166, R164, R169). That the check timer starts again where the own link is DETACHED,
as where the partner is absent, is the model's reading (log 17). -/
def Obligations.Settles : Prop :=
  ∀ (s : State) (sender : Station) (n : Nat),
    (∀ e x, s.Active → s.settlingOf n sender = some e → s.letters[e.letter] = some x →
      (∀ l, s.attachingLine e.letter = some l →
        (∃ t, exec (.released sender n) s = .next t ∧
          t.lines[l] = { s.lines[l] with
            state := .ready, attached := some e.letter, fetchRef := none, waitTimer := none } ∧
          t.Sounds l .ready ∧ OtherLines l s t ∧
          t.letters[e.letter] = some { x with
            state := .open, line := some l, partner := none, held := none } ∧
          OtherLetters e.letter s t ∧
          t.xfer = { s.xfer with settling := s.xfer.settling.filter (·.letter ≠ e.letter) } ∧
          t.bus = s.bus ∧ t.seg = s.seg) ∧
        (∃ t, exec (.takeUnknown sender n) s = .next t ∧
          t.lines[l] = { s.lines[l] with
            state := .ready, attached := some e.letter, fetchRef := none, waitTimer := none } ∧
          t.Sounds l .ready ∧ OtherLines l s t ∧
          t.letters[e.letter] = some { x with
            state := .open, line := some l, partner := none, held := none } ∧
          OtherLetters e.letter s t ∧
          t.xfer = { s.xfer with settling := s.xfer.settling.filter (·.letter ≠ e.letter) } ∧
          t.bus = s.bus ∧ t.seg = s.seg)) ∧
      (s.attachingLine e.letter = none →
        (∃ t, exec (.released sender n) s = .next t ∧ NowHeld e.letter x s t ∧
          t.xfer = { s.xfer with settling := s.xfer.settling.filter (·.letter ≠ e.letter) } ∧
          t.bus = s.bus ∧ t.seg = s.seg) ∧
        (∃ t, exec (.takeUnknown sender n) s = .next t ∧ NowHeld e.letter x s t ∧
          t.xfer = { s.xfer with settling := s.xfer.settling.filter (·.letter ≠ e.letter) } ∧
          t.bus = s.bus ∧ t.seg = s.seg))) ∧
    (∀ e, s.xfer.settling.find? (fun y => y.number == n) = some e →
      ∃ t, exec (.takeTimerExpiry n) s = .next t ∧
        t.xfer = { s.xfer with
          settling := s.xfer.settling.map fun y => if y = e then { y with timer := 2000 } else y } ∧
        (s.isPresent e.giver = true → s.HasRoom → Placed e.giver (.take n) s t) ∧
        (s.isPresent e.giver = false → t.bus = s.bus) ∧
        t.letters = s.letters ∧ SameLines s t ∧ t.seg = s.seg) ∧
    (s.Active → s.HasRoom → ∃ t, exec (.transferCheck sender n) s = .next t ∧
      Placed sender (.checkAnswer n
        (if (s.settlingOf n sender).isSome then .settling
         else if (s.incomingOf n sender).any (·.snapshot.isSome) = true then .receiving
         else .notHeld)) s t ∧ SameWork s t) ∧
    (∀ o, s.xfer.outgoing = some o → o.timer ≠ none →
      (s.isDetached = false → s.isPresent o.taker = true → s.HasRoom →
        ∃ t, exec .checkTimerExpiry s = .next t ∧
          t.xfer = { s.xfer with outgoing := some { o with timer := some 2000, outstanding := true } } ∧
          Placed o.taker (.transferCheck o.number) s t ∧ t.letters = s.letters ∧ SameLines s t) ∧
      (s.isDetached = true ∨ s.isPresent o.taker = false →
        ∃ t, exec .checkTimerExpiry s = .next t ∧
          t.xfer = { s.xfer with outgoing := some { o with timer := some 2000 } } ∧
          t.bus = s.bus ∧ t.letters = s.letters ∧ SameLines s t))

/-! ### Deliveries -/

/-- An Offer is sent, accepted, refused or left unanswered, and the retry timer makes the next one (R174
to R177, R186). With a suspension pending, an Offer Accept suspends the delivery at once, before any frame, and
the urgent head is offered (R177, R185); where no urgent letter can be offered any more the delivery resumes,
which is the model's reading (log 29). -/
def Obligations.OffersAnswered : Prop :=
  (∀ (s : State) (sender : Station) (a : Active) (x : Letter) (p : Progress),
    s.activeOf = some (a, x, p) → a.phase = .offered →
    (∃ t, exec (.offerCompletes a.name) s = .next t ∧
      t.deliv = { s.deliv with active := some { a with timer := some 500 } } ∧
      t.bus = s.bus ∧ t.letters = s.letters ∧ t.seg = s.seg ∧ SameLines s t) ∧
    (∀ tag, s.Active → p.filing = sender → a.suspendPending = false →
      ∃ t, exec (.offerAccept sender x.number tag) s = .next t ∧
        t.letters[a.letter] = some { x with state := .delivering, progress := some { p with tag := some tag } } ∧
        OtherLetters a.letter s t ∧
        t.deliv = { s.deliv with active := some { a with phase := .streaming, timer := none } } ∧
        t.bus = { s.bus with link := { s.bus.link with
          offDelivery := some (s.deliveryFrame a x { p with tag := some tag }) } } ∧
        t.seg = s.seg ∧ SameLines s t) ∧
    (∀ tag, s.Active → p.filing = sender → a.suspendPending = true →
      (∀ j y st, s.isDetached = false → s.deliv.retry = none → s.queueHead = some j → j ≠ a.letter →
        s.letters[j] = some y → y.priority = .urgent → s.chooseFiling = some st → s.HasRoom →
        ∃ t, exec (.offerAccept sender x.number tag) s = .next t ∧
          t.letters[a.letter] = some { x with
            state := .suspended, progress := some { p with tag := some tag } } ∧
          t.deliv.suspended = some (a.letter, a.name) ∧ JustOffered j st s.streamId t ∧
          t.deliv.retry = none ∧ t.bus.link.offDelivery = none ∧ t.seg = s.seg ∧ SameLines s t) ∧
      (s.isDetached = true ∨ s.deliv.retry ≠ none ∨ s.chooseFiling = none ∨
          (∀ (k : LetterIx) (z : Letter), k ≠ a.letter → s.letters[k] = some z → z.queued = true →
            z.priority = .normal) →
        ∃ t, exec (.offerAccept sender x.number tag) s = .next t ∧
          t.letters[a.letter] = some { x with
            state := .delivering, progress := some { p with tag := some tag } } ∧
          OtherLetters a.letter s t ∧
          t.deliv = { s.deliv with
            active := some ⟨a.letter, a.name, .streaming, none, false, true, none⟩, suspended := none } ∧
          t.bus = { s.bus with link := { s.bus.link with
            offDelivery := some (s.deliveryFrame ⟨a.letter, a.name, .streaming, none, false, true, none⟩
              { x with state := .delivering, progress := some { p with tag := some tag } }
              { p with tag := some tag }) } } ∧
          t.seg = s.seg ∧ SameLines s t)) ∧
    (s.deliv.suspended = none →
      (∀ reason, s.Active → p.filing = sender → ∃ t, exec (.offerRefuse sender x.number reason) s = .next t ∧
        t.letters[a.letter] = some { x with progress := none } ∧ OtherLetters a.letter s t ∧
        t.deliv = { s.deliv with active := none, retry := some 1000 } ∧
        t.bus = { s.bus with link := { s.bus.link with offDelivery := none } } ∧
        t.seg = s.seg ∧ SameLines s t) ∧
      (a.timer ≠ none → ∃ t, exec .offerAnswerTimeout s = .next t ∧
        t.letters[a.letter] = some { x with progress := none } ∧ OtherLetters a.letter s t ∧
        t.deliv = { s.deliv with active := none, retry := some 1000 } ∧
        t.bus = { s.bus with link := { s.bus.link with offDelivery := none } } ∧
        t.seg = s.seg ∧ SameLines s t)) ∧
    (∀ i name y, s.deliv.suspended = some (i, name) → i ≠ a.letter → s.letters[i] = some y →
      ∀ reason, s.Active → p.filing = sender → ∃ t, exec (.offerRefuse sender x.number reason) s = .next t ∧
        t.letters[a.letter] = some { x with progress := none } ∧
        t.letters[i] = some { y with state := .delivering } ∧
        t.deliv = { s.deliv with
          active := some ⟨i, name, .streaming, none, false, true, none⟩
          suspended := none
          retry := some 1000 } ∧ t.seg = s.seg ∧ SameLines s t)) ∧
  ∀ s : State, s.deliv.retry ≠ none →
    (s.queueHead = none → ∃ t, exec .retryTimerExpiry s = .next t ∧
      t.deliv = { s.deliv with retry := none } ∧ t.letters = s.letters ∧ t.bus = s.bus ∧ t.seg = s.seg ∧
      SameLines s t) ∧
    (∀ i x st, s.Active → s.isDetached = false → s.deliv.active = none → s.deliv.suspended = none →
      s.queueHead = some i → s.letters[i] = some x → s.chooseFiling = some st → s.HasRoom →
      ∃ t, exec .retryTimerExpiry s = .next t ∧
        t.letters[i] = some { x with progress := some ⟨0, 0, 0xFFFFFFFF#32, st, none⟩ } ∧
        OtherLetters i s t ∧
        t.deliv = { s.deliv with
          retry := none
          active := some ⟨i, s.streamId, .offered, none, false, false, none⟩ } ∧
        t.streamId = s.streamId + 1 ∧
        t.bus = { s.bus with link := { s.bus.link with control := s.bus.link.control ++
          [⟨st, .offer ⟨x.number, x.author, x.priority, x.unfinished, x.length, x.chain.length,
            (x.chain.map s.seg.recordBytes).sum⟩, s.streamId⟩] } } ∧
        t.seg = s.seg ∧ SameLines s t)

/-- A letter streams to its filing station: past each Letter Data frame, to its suspension for an urgent
letter, and to the Letter End (R180, R185). When the engine looks for work with a delivery active, it suspends
a normal delivery for an urgent queue head: at once while it streams with no frame of it current at the link,
else by the suspension-pending mark; and it starts nothing where R174 does not let it. -/
def Obligations.LetterStreams : Prop :=
  (∀ (s : State) (a : Active) (x : Letter) (p : Progress), s.activeOf = some (a, x, p) →
    a.phase = .streaming →
    (∀ (d : DataBody) (r : SegRec), d.number = x.number → d.record = p.record → d.slice = p.slice →
      x.chain[p.record]? = some r →
      let items := (s.seg.items r d.slice).take (d.items - if d.slice = 0 then 1 else 0)
      let span := (items.map (·.span)).sum
      let q : Progress := { p with
        record := if r.count ≤ d.slice + span then d.record + 1 else d.record
        slice := if r.count ≤ d.slice + span then 0 else d.slice + span
        crc := items.foldl (fun k it => crc32 k it.bytes) p.crc }
      (∀ it, items.getLast? = some it → a.suspendPending = false →
        ∃ t b, exec (.letterDataCompletes a.name d) s = .next t ∧
          t.letters[a.letter] = some { x with progress := some q } ∧ OtherLetters a.letter s t ∧
          t.deliv = { s.deliv with active := some b } ∧
          b = { a with
            last := some ⟨it.block, it.slice + it.span - 1, it.voiced⟩
            resume := false } ∧
          t.bus = { s.bus with link := { s.bus.link with
            offDelivery := some (s.deliveryFrame b x q) } } ∧
          t.seg = s.seg ∧ SameLines s t) ∧
      (∀ j st, a.suspendPending = true → x.state = .delivering → s.startable = some (j, st) →
        s.isUrgent j = true → j ≠ a.letter → s.HasRoom →
        ∃ t, exec (.letterDataCompletes a.name d) s = .next t ∧
          t.letters[a.letter] = some { x with state := .suspended, progress := some q } ∧
          t.deliv = { s.deliv with
            suspended := some (a.letter, a.name)
            active := some ⟨j, s.streamId, .offered, none, false, false, none⟩ } ∧
          t.bus.link.offDelivery = none ∧ t.seg = s.seg ∧ SameLines s t)) ∧
    (x.chain.length ≤ p.record → ∃ t, exec (.letterEndCompletes a.name) s = .next t ∧
      t.deliv = { s.deliv with active := some { a with phase := .ended, timer := some 2000 } } ∧
      t.bus = s.bus ∧ t.letters = s.letters ∧ t.seg = s.seg ∧ SameLines s t)) ∧
  ∀ (s : State) (a : Active) (x : Letter), s.deliv.active = some a → s.letters[a.letter] = some x →
    (∀ j y st, s.Active → s.isDetached = false → s.deliv.retry = none → s.deliv.suspended = none →
      s.queueHead = some j → s.letters[j] = some y → y.priority = .urgent → s.chooseFiling = some st →
      x.priority = .normal →
      (a.phase = .offered → s.look = { s with deliv := { s.deliv with
        active := some { a with suspendPending := true } } }) ∧
      (a.phase = .streaming →
        (∃ c, s.bus.link.current = some c ∧ c.source = .delivery ∧ c.frame.owner = a.name) →
        s.look = { s with
          deliv := { s.deliv with active := some { a with suspendPending := true } }
          bus := { s.bus with link := { s.bus.link with offDelivery := none } } }) ∧
      (a.phase = .streaming →
        (∀ c, s.bus.link.current = some c → c.source ≠ .delivery ∨ c.frame.owner ≠ a.name) → s.HasRoom →
        s.look.letters[a.letter] = some { x with state := .suspended } ∧
          s.look.deliv.suspended = some (a.letter, a.name) ∧ JustOffered j st s.streamId s.look ∧
          s.look.deliv.retry = none ∧ s.look.bus.link.offDelivery = none ∧ s.look.seg = s.seg ∧
          s.look.nums = s.nums ∧ s.look.xfer = s.xfer ∧ SameLines s s.look ∧
          ∀ k : LetterIx, k ≠ a.letter → k ≠ j → s.look.letters[k] = s.letters[k])) ∧
    (¬ s.Active ∨ s.isDetached = true ∨ s.deliv.retry ≠ none ∨ s.queueHead = none ∨ s.chooseFiling = none ∨
        s.deliv.suspended ≠ none ∨ a.phase = .ended ∨ x.priority = .urgent ∨
        (∀ j y, s.queueHead = some j → s.letters[j] = some y → y.priority = .normal) →
      s.look = s)

/-- A delivery ends: filed, filed late, rejected, or its end unanswered (R182, R183, R31, R4). The retry
timer runs in the clauses that state the whole delivery context, so that no next delivery starts; the last
clauses give the next offer, the resumption of a suspended delivery, and its suspension anew by the urgent
letter that came back (R174, R185, R186). -/
def Obligations.DeliveriesEnd : Prop :=
  ∀ (s : State) (sender : Station) (n tag : Nat), s.Active → s.isFiling sender = true →
    (∀ a x p, s.taggedFor sender n tag = some (a, x, p) →
      a.phase = .ended ∨ (a.phase = .streaming ∧ x.chain.length ≤ p.record) →
      ∃ t, exec (.filed sender n tag) s = .next t ∧ t.letters[a.letter] = none ∧ SameBytes s t ∧
        t.seg.poolFree = s.seg.poolFree + x.chain.length ∧
        t.bus.counters.lettersFiled = s.bus.counters.lettersFiled + 1 ∧ SameLines s t ∧
        (s.deliv.retry ≠ none → s.deliv.suspended = none → OtherLetters a.letter s t ∧
          t.deliv = { s.deliv with active := none } ∧ t.bus.link.offDelivery = none)) ∧
    (s.taggedFor sender n tag = none →
      (⟨n, sender, tag⟩ ∉ s.deliv.unconfirmed →
        exec (.filed sender n tag) s = .next (s.taken (.filed sender n tag))) ∧
      (⟨n, sender, tag⟩ ∈ s.deliv.unconfirmed →
        (s.filesLate n = none → ∃ t, exec (.filed sender n tag) s = .next t ∧
          t.deliv = { s.deliv with unconfirmed := s.deliv.unconfirmed.erase ⟨n, sender, tag⟩ } ∧
          t.letters = s.letters ∧ t.bus = s.bus ∧ t.seg = s.seg ∧ SameLines s t) ∧
        (∀ i x, s.filesLate n = some i → s.letters[i] = some x →
          ∃ t, exec (.filed sender n tag) s = .next t ∧ Freed i x s t ∧ OtherLetters i s t ∧
            t.deliv = { s.deliv with unconfirmed := s.deliv.unconfirmed.erase ⟨n, sender, tag⟩ } ∧
            t.bus.counters.lettersFiled = s.bus.counters.lettersFiled + 1 ∧ SameLines s t)) ∧
      (∀ reason, exec (.deliveryRejected sender n tag reason) s =
        .next (s.taken (.deliveryRejected sender n tag reason)))) ∧
    (∀ a x p, s.deliv.suspended = none → s.deliv.retry ≠ none →
      (s.taggedFor sender n tag = some (a, x, p) → a.phase = .streaming ∨ a.phase = .ended →
        ∀ reason, ∃ t, exec (.deliveryRejected sender n tag reason) s = .next t ∧
          t.letters[a.letter] = some { x with
            progress := none
            attempts := x.attempts + 1
            state := if x.attempts + 1 < 3 then .closed else .stranded } ∧
          OtherLetters a.letter s t ∧ t.deliv = { s.deliv with active := none } ∧ t.seg = s.seg ∧
          (x.attempts + 1 < 3 →
            t.bus = { s.bus with link := { s.bus.link with offDelivery := none } }) ∧
          SameLines s t) ∧
      (s.activeOf = some (a, x, p) → a.phase = .ended → a.timer ≠ none → p.tag = some tag →
        ∃ t, exec .letterEndAnswerTimeout s = .next t ∧
          t.letters[a.letter] = some { x with
            progress := none
            attempts := x.attempts + 1
            state := if x.attempts + 1 < 3 then .closed else .stranded } ∧
          OtherLetters a.letter s t ∧
          t.deliv = { s.deliv with
            active := none
            unconfirmed := (if s.deliv.unconfirmed.length < 4 then s.deliv.unconfirmed
              else s.deliv.unconfirmed.drop 1) ++ [⟨x.number, p.filing, tag⟩] } ∧
          t.seg = s.seg ∧ SameLines s t)) ∧
    (∀ a x p st, s.taggedFor sender n tag = some (a, x, p) → 0 < n → s.isDetached = false →
      s.deliv.retry = none → s.deliv.suspended = none → s.chooseFiling = some st →
      s.bus.link.control.length ≤ 8 →
      (∀ j, x.state = .delivering → s.queueHead = some j →
        a.phase = .ended ∨ (a.phase = .streaming ∧ x.chain.length ≤ p.record) →
        ∃ t, exec (.filed sender n tag) s = .next t ∧ t.letters[a.letter] = none ∧
          JustOffered j st s.streamId t) ∧
      (s.queueHead = none → x.attempts + 1 < 3 → a.phase = .streaming ∨ a.phase = .ended →
        ∀ reason, ∃ t y, exec (.deliveryRejected sender n tag reason) s = .next t ∧
          JustOffered a.letter st s.streamId t ∧ t.letters[a.letter] = some y ∧
          y.attempts = x.attempts + 1) ∧
      (s.queueHead = none → x.attempts + 1 < 3 → a.phase = .ended → a.timer ≠ none →
        ∃ t y, exec .letterEndAnswerTimeout s = .next t ∧ JustOffered a.letter st s.streamId t ∧
          t.letters[a.letter] = some y ∧ y.attempts = x.attempts + 1)) ∧
    (∀ a x p j m y q, s.taggedFor sender n tag = some (a, x, p) → s.deliv.suspended = some (j, m) →
      j ≠ a.letter → s.letters[j] = some y → y.progress = some q →
      (s.deliv.retry ≠ none ∨ (∀ (k : LetterIx) (z : Letter), s.letters[k] = some z → z.queued = true →
          z.priority = .normal) →
        a.phase = .ended ∨ (a.phase = .streaming ∧ x.chain.length ≤ p.record) → x.state = .delivering →
        ∃ t, exec (.filed sender n tag) s = .next t ∧ t.letters[a.letter] = none ∧
          t.letters[j] = some { y with state := .delivering } ∧ t.deliv.suspended = none ∧
          t.deliv.active = some ⟨j, m, .streaming, none, false, true, none⟩) ∧
      (s.deliv.retry ≠ none → a.phase = .streaming ∨ a.phase = .ended →
        ∀ reason, ∃ t, exec (.deliveryRejected sender n tag reason) s = .next t ∧
          t.letters[j] = some { y with state := .delivering } ∧ t.deliv.suspended = none ∧
          t.deliv.active = some ⟨j, m, .streaming, none, false, true, none⟩) ∧
      (s.deliv.retry ≠ none → a.phase = .ended → a.timer ≠ none →
        ∃ t, exec .letterEndAnswerTimeout s = .next t ∧
          t.letters[j] = some { y with state := .delivering } ∧ t.deliv.suspended = none ∧
          t.deliv.active = some ⟨j, m, .streaming, none, false, true, none⟩) ∧
      (∀ st, 0 < n → s.isDetached = false → s.deliv.retry = none → s.queueHead = none →
        s.chooseFiling = some st → s.bus.link.control.length ≤ 8 → s.bus.link.current = none →
        x.priority = .urgent → y.priority = .normal → x.attempts + 1 < 3 →
        a.phase = .streaming ∨ a.phase = .ended →
        ∀ reason, ∃ t, exec (.deliveryRejected sender n tag reason) s = .next t ∧
          JustOffered a.letter st s.streamId t ∧ t.letters[j] = some { y with state := .suspended } ∧
          t.deliv.suspended = some (j, m)))

/-! ### The link -/

/-- A frame of another station completes, or fails its reception, which at fault count 255 takes the link
into DETACHED (R116, R119, R121 to R123, R125, R168, R187, R204, R205). -/
def Obligations.FramesReceived : Prop :=
  ∀ s : State, s.canFollow = true →
    (∀ f : Frame, ∃ t, exec (.frameReception f) s = .next t ∧
      t.bus.counters.framesReceived = s.bus.counters.framesReceived + 1 ∧
      t.bus.link.fault = (if s.bus.link.fault < 256 then s.bus.link.fault - 1 else s.bus.link.fault) ∧
      t.bus.link.view = .idle ∧ t.bus.link.holdOff = none ∧ t.bus.link.rx = none ∧
      t.bus.link.current = s.bus.link.current ∧
      (∀ i, s.handsUp f = some i → t.reports = s.reports.erase (.frameReception f) ++ [i]) ∧
      (s.handsUp f = none → t.reports = s.reports.erase (.frameReception f)) ∧
      SameWork s t ∧ t.peers = s.peers ∧ t.nums = s.nums) ∧
    (∀ kinds : List ErrKind, s.bus.link.fault + 1 < 256 →
      ∃ t, exec (.receiveError kinds) s = .next t ∧ t.bus.link.fault = s.bus.link.fault + 1 ∧
        t.bus.link.view = .errorWait ∧ t.bus.link.rx = none ∧ t.bus.link.sending = false ∧
        t.bus.link.errors = errorsAfter s.bus.ctl.settings.errMode s.bus.link.errors kinds ∧
        t.bus.link.burst = (if s.bus.link.fault + 1 < 128 then 12 else 0) ∧
        t.bus.link.current = s.bus.link.current ∧ SameWork s t ∧ t.peers = s.peers ∧ t.nums = s.nums) ∧
    (∀ kinds : List ErrKind, s.bus.link.fault = 255 →
      ∃ t, exec (.receiveError kinds) s = .next t ∧ WentDetached s t ∧ t.bus.link.view = .errorWait ∧
        t.bus.link.current = s.bus.link.current.filter (fun c => c.source == .control) ∧
        t.bus.link.beacon = s.bus.link.beacon ∧
        (∀ d, s.bus.ctl.eventDest = some d → s.HasRoom →
          ∃ seq, t.InQueue d (.event 0 seq s.bus.ctl.seconds [2#8, 3#8, 1#8, 0#8])))

/-- The arbiter chooses a frame, an attempt starts again, loses arbitration, succeeds or fails (R115,
R116, R119, R121 to R123, R126 to R128, R131). In LISTEN the arbiter takes the oldest Settings Refused from
wherever it stands, and nothing else. A Number Claim's owner is consulted before each start (R145); a success
in MUTED starts the hold-off (R122). The owner of a frame abandoned at its 16th failure is told (R147, R155,
R167, R168, R177, R187), and the frame-abandoned event raised. The count of abandoned frames is exact where
the Control Queue has room for what the owner places, or the owner places nothing (R129). The model's own
choices: an abandoned Fetch fails its transfer in either phase (log 31); where the 16th failure itself takes
the link into DETACHED, the frame is abandoned, counted and its owner told before what DETACHED does, where
R123 alone would keep a Control Queue frame current and give a stream frame back uncounted (log 11); and the
check timer of the transfer that halts then runs from 2,000 ms while the own link is DETACHED, of which R169
says nothing (log 17); a resumed delivery's first frame is never held back (log 38). -/
def Obligations.FramesSent : Prop :=
  (∀ s : State, s.canStart = true →
    (s.bus.link.current = none → s.Active →
      (∀ q rest, s.bus.link.control = q :: rest → isClaim q = false →
        ∃ t, exec .transmitArbiterChoose s = .next t ∧ SameWork s t ∧ t.nums = s.nums ∧
          t.bus = { s.bus with link := { s.bus.link with
            control := rest
            current := some ⟨q, .control, 0⟩
            view := .inFrame
            sending := true
            tx := (q.msg.toFrame (s.bus.ctl.number.getD 0) q.dest).wire
            rx := some Scan.empty } }) ∧
      (∀ b, s.bus.link.control = [] → s.bus.link.beacon = some b →
        ∃ t, exec .transmitArbiterChoose s = .next t ∧ SameWork s t ∧ t.nums = s.nums ∧
          t.bus.link.beacon = none ∧ t.bus.link.current = some ⟨⟨63, .beacon b, 0⟩, .beacon, 0⟩ ∧
          t.bus.link.view = .inFrame ∧ t.bus.link.sending = true) ∧
      (∀ q, s.bus.link.control = [] → s.bus.link.beacon = none → s.bus.link.offTransfer = some q →
        isClaim q = false → ∃ t, exec .transmitArbiterChoose s = .next t ∧ SameWork s t ∧
          t.bus.link.offTransfer = none ∧ t.bus.link.current = some ⟨q, .transfer, 0⟩ ∧
          t.bus.link.view = .inFrame ∧ t.bus.link.sending = true) ∧
      (∀ q, s.bus.link.control = [] → s.bus.link.beacon = none → s.bus.link.offTransfer = none →
        s.bus.link.offDelivery = some q →
        (s.deliveryReady q = true → isClaim q = false →
          ∃ t, exec .transmitArbiterChoose s = .next t ∧ SameWork s t ∧
            t.bus.link.offDelivery = none ∧ t.bus.link.current = some ⟨q, .delivery, 0⟩ ∧
            t.bus.link.view = .inFrame ∧ t.bus.link.sending = true) ∧
        (s.deliveryReady q = false →
          exec .transmitArbiterChoose s = .next (s.taken .transmitArbiterChoose))) ∧
      (∀ q n rest, s.bus.link.control = q :: rest → q.msg = .numberClaim n →
        (s.nums.waiting ≠ [] → s.nums.link = some (n, true) →
          ∃ t, exec .transmitArbiterChoose s = .next t ∧ SameWork s t ∧
            t.nums = { s.nums with run := 0, frame := .current } ∧
            t.bus = { s.bus with link := { s.bus.link with
              control := rest
              current := some ⟨q, .control, 0⟩
              view := .inFrame
              sending := true
              tx := (q.msg.toFrame (s.bus.ctl.number.getD 0) q.dest).wire
              rx := some Scan.empty } }) ∧
        (s.nums.waiting = [] → rest = [] → s.bus.link.beacon = none → s.bus.link.offTransfer = none →
          s.bus.link.offDelivery = none →
          ∃ t, exec .transmitArbiterChoose s = .next t ∧ SameWork s t ∧
            t.nums = { s.nums with link := none, frame := .none } ∧
            t.bus = { s.bus with link := { s.bus.link with control := [] } }) ∧
        (s.nums.waiting ≠ [] → s.nums.link = some (n, false) → s.nums.run < 7 → s.nums.wait = none →
          s.nums.next < 16777215 → rest = [] →
          ∃ t, exec .transmitArbiterChoose s = .next t ∧ SameWork s t ∧
            t.nums = { s.nums with run := 0, link := some (s.nums.next, true), frame := .current } ∧
            t.bus.link.current = some ⟨⟨63, .numberClaim s.nums.next, 0⟩, .control, 0⟩ ∧
            t.bus.link.control = [] ∧ t.bus.link.view = .inFrame ∧ t.bus.link.sending = true))) ∧
    (s.bus.link.current = none → s.Listening →
      (∀ front q rest why, s.bus.link.control = front ++ q :: rest → q.msg = .settingsRefused why →
        (∀ r ∈ front, r.msg.kind ≠ 0x18) →
        ∃ t, exec .transmitArbiterChoose s = .next t ∧ SameWork s t ∧ t.nums = s.nums ∧
          t.bus = { s.bus with link := { s.bus.link with
            control := front ++ rest
            current := some ⟨q, .control, 0⟩
            view := .inFrame
            sending := true
            tx := (q.msg.toFrame (s.bus.ctl.number.getD 0) q.dest).wire
            rx := some Scan.empty } }) ∧
      ((∀ r ∈ s.bus.link.control, r.msg.kind ≠ 0x18) →
        exec .transmitArbiterChoose s = .next (s.taken .transmitArbiterChoose))) ∧
    (∀ c n, s.bus.link.current = some c → c.frame.msg = .numberClaim n →
      (s.nums.waiting ≠ [] → s.nums.link = some (n, true) →
        ∃ t, exec .currentFrameReattempt s = .next t ∧ SameWork s t ∧
          t.nums = { s.nums with run := 0, frame := .current } ∧
          t.bus = { s.bus with link := { s.bus.link with
            view := .inFrame
            sending := true
            tx := (c.frame.msg.toFrame (s.bus.ctl.number.getD 0) c.frame.dest).wire
            rx := some Scan.empty } }) ∧
      (s.bus.link.control = [] → s.bus.link.beacon = none → s.bus.link.offTransfer = none →
        s.bus.link.offDelivery = none →
        (s.nums.waiting = [] → ∃ t, exec .currentFrameReattempt s = .next t ∧ SameWork s t ∧
          t.nums = { s.nums with link := none, frame := .none } ∧
          t.bus = { s.bus with link := { s.bus.link with current := none } }) ∧
        (s.nums.waiting ≠ [] → s.nums.link = some (n, false) → 7 ≤ s.nums.run →
          ∃ t, exec .currentFrameReattempt s = .next t ∧ SameWork s t ∧
            t.nums = { s.nums with link := none, frame := .none, run := 0, wait := some 100 } ∧
            t.bus = { s.bus with link := { s.bus.link with current := none } }) ∧
        (s.Active → s.nums.waiting ≠ [] → s.nums.link = some (n, false) → s.nums.run < 7 →
          s.nums.wait = none → s.nums.next < 16777215 →
          ∃ t, exec .currentFrameReattempt s = .next t ∧ SameWork s t ∧
            t.nums = { s.nums with run := 0, link := some (s.nums.next, true), frame := .current } ∧
            t.bus.link.current = some ⟨⟨63, .numberClaim s.nums.next, 0⟩, .control, 0⟩ ∧
            t.bus.link.control = [] ∧ t.bus.link.view = .inFrame ∧ t.bus.link.sending = true))) ∧
    (∀ c, s.bus.link.current = some c → isClaim c.frame = false →
      ∃ t, exec .currentFrameReattempt s = .next t ∧ SameWork s t ∧ t.nums = s.nums ∧
        t.bus = { s.bus with link := { s.bus.link with
          view := .inFrame
          sending := true
          tx := (c.frame.msg.toFrame (s.bus.ctl.number.getD 0) c.frame.dest).wire
          rx := some Scan.empty } })) ∧
  ∀ (s : State) (c : Current), s.Numbered → s.bus.link.sending = true → s.bus.link.current = some c →
    (∃ t, exec .lostArbitration s = .next t ∧
      t.bus = { s.bus with
        counters := { s.bus.counters with arbitrationLosses := s.bus.counters.arbitrationLosses + 1 }
        link := { s.bus.link with sending := false, tx := [] } } ∧ SameWork s t ∧ t.nums = s.nums) ∧
    (∃ t, exec .frameSuccess s = .next t ∧
      t.bus.counters.framesSent = s.bus.counters.framesSent + 1 ∧
      t.bus.link.fault = (if s.bus.link.fault < 256 then s.bus.link.fault - 1 else s.bus.link.fault) ∧
      t.bus.link.current = none ∧ t.bus.link.view = .idle ∧ t.bus.link.sending = false ∧
      (c.source = .delivery → t.bus.link.lastDelivery = some (c.frame.owner, 0)) ∧
      (c.source ≠ .delivery → t.bus.link.lastDelivery = s.bus.link.lastDelivery) ∧
      t.bus.link.holdOff = (if 128 < s.bus.link.fault ∧ s.bus.link.fault < 256 then some 16
        else if s.bus.link.fault = 128 then none else s.bus.link.holdOff) ∧
      t.reports = (s.reports.erase .frameSuccess).filter (· ≠ .holdOffExpiry) ++
        (State.completionOf c.frame).toList ∧
      SameWork s t ∧ t.nums = s.nums ∧ t.peers = s.peers) ∧
    (∀ kinds, s.bus.link.fault + 8 < 256 → c.fails + 1 < 16 →
      ∃ t, exec (.frameAttemptFailed kinds) s = .next t ∧ t.bus.link.fault = s.bus.link.fault + 8 ∧
        t.bus.link.current = some { c with fails := c.fails + 1 } ∧ t.bus.link.view = .errorWait ∧
        t.bus.link.sending = false ∧
        t.bus.link.errors = errorsAfter s.bus.ctl.settings.errMode s.bus.link.errors kinds ∧
        t.bus.link.burst = (if s.bus.link.fault + 8 < 128 then 12 else 0) ∧
        SameWork s t ∧ t.nums = s.nums) ∧
    (∀ kinds, s.bus.link.fault < 256 → 256 ≤ s.bus.link.fault + 8 → c.fails + 1 < 16 →
      ∃ t, exec (.frameAttemptFailed kinds) s = .next t ∧ WentDetached s t ∧ t.bus.link.view = .errorWait ∧
        t.bus.link.current =
          (if c.source = .control then some { c with fails := c.fails + 1 } else none)) ∧
    (∀ kinds, s.bus.link.fault + 8 < 256 → c.fails + 1 = 16 →
      ∃ t, exec (.frameAttemptFailed kinds) s = .next t ∧ t.bus.link.current = none ∧
        (s.bus.link.control.length ≤ 8 ∨ ownerPlaces c.frame.msg = false →
          t.bus.counters.framesAbandoned = s.bus.counters.framesAbandoned + 1) ∧
        (s.bus.link.control.length ≤ 8 → ∀ d, s.bus.ctl.eventDest = some d →
          ∃ seq, t.InQueue d (.event 2 seq s.bus.ctl.seconds [BitVec.ofNat 8 c.frame.msg.cls,
            BitVec.ofNat 8 c.frame.msg.kind, BitVec.ofNat 8 c.frame.dest])) ∧
        t.bus.link.fault = s.bus.link.fault + 8 ∧ t.bus.link.view = .errorWait ∧ t.bus.link.sending = false ∧
        (ownerActs c.frame.msg = false → SameWork s t ∧ t.nums = s.nums) ∧
        (∀ n, c.frame.msg = .numberClaim n →
          t.nums = { s.nums with link := none, frame := .none, run := 0, wait := some 100 } ∧
            SameWork s t) ∧
        (∀ author k tag col, c.frame.msg = .locate author k tag →
          (s.xfer.collections.find? fun y => y.tag == tag && !y.collecting) = some col →
          s.lines[col.line].locate = some tag →
          t.lines[col.line] = { s.lines[col.line] with state := .select, locate := none } ∧
            t.Sounds col.line .refused ∧
            t.xfer = { s.xfer with collections := s.xfer.collections.filter (· ≠ col) } ∧
            OtherLines col.line s t ∧ t.letters = s.letters ∧ t.seg = s.seg) ∧
        (∀ n author inc x, c.frame.msg = .fetch n author → s.xfer.incoming = some inc →
          inc.name = c.frame.owner → s.letters[inc.letter] = some x →
          TransferFailed inc x s t ∧
            (s.bus.link.control.length ≤ 8 → t.InQueue inc.giver (.fetchCancel inc.number .timeout))) ∧
        (∀ o, (c.frame.msg.kind = 0x08 ∨ c.frame.msg.kind = 0x13 ∨ c.frame.msg.kind = 0x14) →
          s.xfer.outgoing = some o → o.name = c.frame.owner →
          t.xfer = { s.xfer with outgoing := some { o with
            phase := .halted
            timer := some 2000
            outstanding := if s.isPresent o.taker = true then true else o.outstanding } } ∧
          t.bus.link.offTransfer = none ∧
          (s.isPresent o.taker = true → s.bus.link.control.length ≤ 8 →
            t.InQueue o.taker (.transferCheck o.number)) ∧
          t.letters = s.letters ∧ SameLines s t ∧ t.seg = s.seg) ∧
        (∀ body a x, c.frame.msg = .offer body → s.deliv.active = some a → a.name = c.frame.owner →
          a.phase = .offered → s.letters[a.letter] = some x → s.deliv.suspended = none →
          t.letters[a.letter] = some { x with progress := none } ∧ OtherLetters a.letter s t ∧
            t.deliv = { s.deliv with active := none, retry := some 1000 } ∧ t.seg = s.seg ∧ SameLines s t) ∧
        (∀ body a x j m y, c.frame.msg = .offer body → s.deliv.active = some a → a.name = c.frame.owner →
          a.phase = .offered → s.letters[a.letter] = some x → s.deliv.suspended = some (j, m) →
          j ≠ a.letter → s.letters[j] = some y →
          t.letters[a.letter] = some { x with progress := none } ∧
            t.letters[j] = some { y with state := .delivering } ∧
            t.deliv = { s.deliv with
              active := some ⟨j, m, .streaming, none, false, true, none⟩
              suspended := none
              retry := some 1000 } ∧ t.seg = s.seg ∧ SameLines s t) ∧
        (∀ a x p j m y, (c.frame.msg.kind = 0x15 ∨ c.frame.msg.kind = 0x16) → s.activeOf = some (a, x, p) →
          a.name = c.frame.owner → s.deliv.suspended = some (j, m) → j ≠ a.letter → s.letters[j] = some y →
          s.deliv.retry ≠ none →
          DeliveryAborted a.letter x t ∧ t.letters[j] = some { y with state := .delivering } ∧
            t.deliv.active = some ⟨j, m, .streaming, none, false, true, none⟩ ∧ t.deliv.suspended = none ∧
            t.deliv.retry = s.deliv.retry) ∧
        (∀ a x p, (c.frame.msg.kind = 0x15 ∨ c.frame.msg.kind = 0x16) → s.activeOf = some (a, x, p) →
          a.name = c.frame.owner → s.deliv.suspended = none →
          (s.deliv.retry ≠ none → DeliveryAborted a.letter x t ∧ OtherLetters a.letter s t ∧
            t.deliv.active = none ∧ t.bus.link.offDelivery = none ∧ t.deliv.retry = s.deliv.retry) ∧
          (∀ st, s.Active → s.deliv.retry = none → s.queueHead = none → x.number ≠ 0 →
            s.chooseFiling = some st → s.bus.link.control.length ≤ 8 →
            JustOffered a.letter st s.streamId t))) ∧
    (∀ kinds, s.bus.link.fault < 256 → 256 ≤ s.bus.link.fault + 8 → c.fails + 1 = 16 →
      ∃ t, exec (.frameAttemptFailed kinds) s = .next t ∧ t.bus.link.current = none ∧
        t.bus.link.fault = 256 ∧ t.bus.link.view = .errorWait ∧ t.bus.link.sending = false ∧
        t.bus.link.burst = 0 ∧ t.bus.link.offTransfer = none ∧ t.bus.link.offDelivery = none ∧
        t.bus.link.recoveryRuns = 0 ∧ t.bus.link.recessiveRun = 0 ∧ t.deliv.suspended = none ∧
        (s.bus.link.control.length ≤ 8 ∨ ownerPlaces c.frame.msg = false →
          t.bus.counters.framesAbandoned = s.bus.counters.framesAbandoned + 1) ∧
        (s.bus.link.control.length ≤ 8 → ∀ d, s.bus.ctl.eventDest = some d →
          ∃ seq, t.InQueue d (.event 2 seq s.bus.ctl.seconds [BitVec.ofNat 8 c.frame.msg.cls,
            BitVec.ofNat 8 c.frame.msg.kind, BitVec.ofNat 8 c.frame.dest])) ∧
        (ownerActs c.frame.msg = false → WentDetached s t) ∧
        (∀ n, c.frame.msg = .numberClaim n →
          t.nums = { s.nums with link := none, frame := .none, run := 0, wait := some 100 } ∧ SameLines s t ∧
            t.seg = s.seg) ∧
        (∀ author k tag col, c.frame.msg = .locate author k tag →
          (s.xfer.collections.find? fun y => y.tag == tag && !y.collecting) = some col →
          s.lines[col.line].locate = some tag →
          t.lines[col.line] = { s.lines[col.line] with state := .select, locate := none } ∧
            t.Sounds col.line .refused ∧ OtherLines col.line s t ∧ t.seg = s.seg) ∧
        (∀ n author inc x, c.frame.msg = .fetch n author → s.xfer.incoming = some inc →
          inc.name = c.frame.owner → s.letters[inc.letter] = some x → s.xfer.outgoing = none →
          s.deliv.active = none → s.deliv.suspended = none →
          TransferFailed inc x s t ∧
            (s.bus.link.control.length ≤ 8 → t.InQueue inc.giver (.fetchCancel inc.number .timeout))) ∧
        (∀ o, (c.frame.msg.kind = 0x08 ∨ c.frame.msg.kind = 0x13 ∨ c.frame.msg.kind = 0x14) →
          s.xfer.outgoing = some o → o.name = c.frame.owner →
          t.xfer = { s.xfer with outgoing := some { o with phase := .halted, timer := some 2000 } } ∧
            (∀ q ∈ t.bus.link.control, q ∈ s.bus.link.control ∨ q.msg.isEvent = true) ∧ SameLines s t ∧
            t.seg = s.seg) ∧
        (∀ body a x, c.frame.msg = .offer body → s.deliv.active = some a → a.name = c.frame.owner →
          a.phase = .offered → s.letters[a.letter] = some x →
          (∀ j m, s.deliv.suspended = some (j, m) → j ≠ a.letter) →
          t.letters[a.letter] = some { x with progress := none } ∧ t.deliv.retry = some 1000 ∧
            (s.deliv.suspended = none → t.deliv.active = none) ∧
            (∀ j m y, s.deliv.suspended = some (j, m) → s.letters[j] = some y → y.progress ≠ none →
              t.deliv.active = none ∧ DeliveryAborted j y t) ∧ t.seg = s.seg ∧ SameLines s t) ∧
        (∀ a x p, (c.frame.msg.kind = 0x15 ∨ c.frame.msg.kind = 0x16) → s.activeOf = some (a, x, p) →
          a.name = c.frame.owner → (∀ j m, s.deliv.suspended = some (j, m) → j ≠ a.letter) →
          DeliveryAborted a.letter x t ∧ t.deliv.retry = s.deliv.retry ∧
            (∀ j m y, s.deliv.suspended = some (j, m) → s.letters[j] = some y → y.progress ≠ none →
              t.deliv.active = none ∧ DeliveryAborted j y t) ∧
            (s.deliv.suspended = none → t.deliv.active = none) ∧ t.seg = s.seg ∧ SameLines s t))

/-- Recovery, with the Transfer Check of a halted transfer and the look for work; the stuck event, which at
fault count 255 takes the link into DETACHED; the bus falling idle; the hold-off (R111, R120 to R124, R169,
R174). -/
def Obligations.LinkEvents : Prop :=
  ∀ s : State,
    (s.bus.link.fault = 256 → s.xfer.outgoing = none → s.queueHead = none →
      ∃ t, exec .linkRecovery s = .next t ∧ t.bus.link.fault = 0 ∧ t.bus.link.recoveryRuns = 0 ∧
        t.bus.link.view = s.bus.link.view ∧ SameWork s t ∧ t.nums = s.nums ∧
        t.bus.ctl.eventSeq = s.bus.ctl.eventSeq + 1) ∧
    (s.bus.link.fault = 256 → s.bus.link.control.length ≤ 8 →
      ∃ t, exec .linkRecovery s = .next t ∧ t.bus.link.fault = 0 ∧ t.bus.link.recoveryRuns = 0 ∧
        (∀ o, s.xfer.outgoing = some o → o.phase = .halted →
          t.xfer = { s.xfer with outgoing := some { o with
            timer := some 2000
            outstanding := if s.isPresent o.taker = true then true else o.outstanding } } ∧
          (s.isPresent o.taker = true → t.InQueue o.taker (.transferCheck o.number))) ∧
        (∀ i st, s.Active → s.deliv = ⟨none, none, none, s.deliv.unconfirmed⟩ → s.queueHead = some i →
          s.chooseFiling = some st → JustOffered i st s.streamId t) ∧
        SameLines s t ∧ t.seg = s.seg ∧ t.nums = s.nums) ∧
    (s.Numbered → s.bus.link.fault = 255 →
      ∃ t, exec .stuckEvent s = .next t ∧ WentDetached s t ∧ t.bus.link.view = .stuckWait ∧
        t.bus.link.dominantRun = 0) ∧
    (s.Numbered → s.bus.link.fault + 1 < 256 →
      ∃ t, exec .stuckEvent s = .next t ∧ t.bus.link.fault = s.bus.link.fault + 1 ∧
        t.bus.link.view = .stuckWait ∧ t.bus.link.dominantRun = 0 ∧ t.bus.link.sending = false ∧
        t.bus.link.errors = errorsAfter s.bus.ctl.settings.errMode s.bus.link.errors [.stuck] ∧
        SameWork s t ∧ t.nums = s.nums) ∧
    (s.Numbered →
      s.bus.link.view = .joining ∨ s.bus.link.view = .errorWait ∨ s.bus.link.view = .stuckWait →
      ∃ t, exec .busViewIdle s = .next t ∧ SameWork s t ∧ t.nums = s.nums ∧
        t.bus = { s.bus with link := { s.bus.link with
          view := .idle
          wasOwn := false
          holdOff := if s.bus.link.wasOwn = true ∧ 128 ≤ s.bus.link.fault ∧ s.bus.link.fault < 256
            then some 16 else s.bus.link.holdOff } }) ∧
    (∃ t, exec .holdOffExpiry s = .next t ∧
      t.bus = { s.bus with link := { s.bus.link with holdOff := none } } ∧ SameWork s t ∧ t.nums = s.nums)

/-- The Control Queue and the events. An event with no destination, or before a full queue, is lost; with room
its Event frame joins the tail (R198, R129). A protocol frame joins the tail; in a full queue it takes the place
of the oldest Event frame, which is lost, or, in a queue full of protocol frames, is dropped: counted as
abandoned, its frame-abandoned event lost, and its owner told. A claim dropped waits 100 ms (R147), a Locate
dropped is no pick (R155), an Offer dropped fails (R177), a Fetch Accept dropped halts its transfer, with a
Transfer Check dropped in its turn (R168; the restart of the check timer where none can be sent is log 17), and
a Fetch dropped fails its transfer, with its event lost and its Fetch Cancel dropped (R167). -/
def Obligations.FullQueue : Prop :=
  (∀ (b : Bus) (e : Event),
    let raised : StationCtl := { b.ctl with eventSeq := b.ctl.eventSeq + 1 }
    let lost : Bus := { b with
      ctl := raised
      counters := { b.counters with eventsLost := b.counters.eventsLost + 1 } }
    (b.ctl.eventDest = none → b.raise e = lost) ∧
    (∀ d, b.ctl.eventDest = some d →
      (16 ≤ b.link.control.length → b.raise e = lost) ∧
      (b.link.control.length < 16 → b.raise e = { b with
        ctl := raised
        link := { b.link with control := b.link.control ++
          [⟨d, .event e.code (b.ctl.eventSeq + 1) b.ctl.seconds e.details, 0⟩] } }))) ∧
  (∀ (b : Bus) (q : QFrame),
    (b.link.control.length < 16 →
      b.place q = { b with link := { b.link with control := b.link.control ++ [q] } }) ∧
    (16 ≤ b.link.control.length →
      (∀ front x rest, b.link.control = front ++ x :: rest → x.msg.kind = 0x1B →
        (∀ y ∈ front, y.msg.kind ≠ 0x1B) →
        b.place q = { b with
          counters := { b.counters with eventsLost := b.counters.eventsLost + 1 }
          link := { b.link with control := front ++ rest ++ [q] } }) ∧
      ((∀ y ∈ b.link.control, y.msg.kind ≠ 0x1B) →
        b.place q = { b with
          ctl := { b.ctl with eventSeq := b.ctl.eventSeq + 1 }
          counters := { b.counters with
            framesAbandoned := b.counters.framesAbandoned + 1
            eventsLost := b.counters.eventsLost + 1 } }))) ∧
  ∀ s : State, s.QueueFull →
    (s.nums.wait ≠ none → s.Active → s.nums.waiting ≠ [] → s.nums.link = none → s.nums.next < 16777215 →
      ∃ t, exec .claimWaitTimerExpiry s = .next t ∧ FramesDropped 1 1 s t ∧ SameWork s t ∧
        t.nums = { s.nums with link := none, frame := .none, run := 0, wait := some 100 }) ∧
    (∀ l a, s.KeyFree l → s.LineIn l .seek → s.lines[l].author = some a →
      (∀ c ∈ s.xfer.collections, c.line ≠ l → c.tag ≠ s.xfer.nextTag) →
      ∃ t, exec (.seekEnter l) s = .next t ∧ FramesDropped 1 1 s t ∧
        t.lines[l] = { s.lines[l] with
          state := .select, locate := none, digitTimer := none, key := some .hash } ∧
        t.Sounds l .refused ∧ Recognised l .hash s t ∧
        t.xfer = { s.xfer with
          collections := s.xfer.collections.filter (·.line ≠ l), nextTag := s.xfer.nextTag + 1 } ∧
        t.letters = s.letters ∧ t.seg = s.seg ∧ t.deliv = s.deliv) ∧
    (∀ i x st, s.deliv.retry ≠ none → s.Active → s.isDetached = false → s.deliv.active = none →
      s.deliv.suspended = none → s.queueHead = some i → s.letters[i] = some x → s.chooseFiling = some st →
      ∃ t, exec .retryTimerExpiry s = .next t ∧ FramesDropped 1 1 s t ∧
        t.letters[i] = some { x with progress := none } ∧ OtherLetters i s t ∧
        t.deliv = { s.deliv with active := none, retry := some 1000 } ∧ t.bus.link.offDelivery = none ∧
        t.seg = s.seg ∧ SameLines s t) ∧
    (∀ sender n i x, s.Active → s.findNumber n = some i → s.letters[i] = some x → x.state = .held →
      s.xfer.outgoing = none →
      let sent := !s.isDetached && s.isPresent sender
      ∃ t, exec (.fetch sender n x.author) s = .next t ∧
        (sent = true → FramesDropped 2 2 s t) ∧ (sent = false → FramesDropped 1 1 s t) ∧
        t.letters[i] = some { x with state := .transitOut, held := none, partner := some sender } ∧
        OtherLetters i s t ∧
        t.xfer = { s.xfer with
          outgoing := some ⟨i, x.number, sender, .halted, 0, 0, 0xFFFFFFFF#32, some 2000, sent, s.streamId⟩ } ∧
        t.bus.link.offTransfer = none ∧ t.seg = s.seg ∧ t.deliv = s.deliv ∧ SameLines s t) ∧
    (∀ l c st n i, (s.xfer.collections.find? fun y => y.line == l && y.collecting) = some c →
      s.lines[l].locate = some c.tag → s.pickOf c = .remote st n → s.xfer.incoming = none →
      s.findNumber n = none → s.isPresent st = true → s.freeEntry = some i → s.fetchingLine i = none →
      ∃ t, exec (.collectionWindowExpiry l) s = .next t ∧ FramesDropped 2 3 s t ∧
        t.letters = s.letters ∧
        t.lines[l] = { s.lines[l] with
          state := .select, locate := none, fetchRef := none, waitTimer := none } ∧
        t.Sounds l .refused ∧ OtherLines l s t ∧
        t.nums.next = max s.nums.next (min (n + 1) 16777215) ∧
        t.xfer = { s.xfer with
          collections := s.xfer.collections.filter (· ≠ c), incoming := none } ∧
        t.seg.reservation = 0 ∧ SameBytes s t ∧ t.deliv = s.deliv)

/-! ### Coding -/

/-- The step table: its size, its recurrence, and every tier codes and reconstructs with it (R56). -/
def Obligations.StepTable : Prop :=
  stepTable.length = 64 ∧ stepAt 0 = 16 ∧
    (∀ i ≤ 62, stepAt (i + 1) = stepAt i + max 1 (stepAt i / 8)) ∧
    ∀ (tier : Tier) (c : Coding) (x : Int) (negative : Bool) (m : Nat),
      (sampleCode tier c x).2 = min tier.magnitude ((x - c.predictor).natAbs / stepAt c.index) ∧
      (reconstruct tier c negative m).predictor =
        clampSample (if negative then c.predictor - (m * stepAt c.index + stepAt c.index / 2 : Nat)
          else c.predictor + (m * stepAt c.index + stepAt c.index / 2 : Nat))

/-- Decoding a coded slice gives the samples the Coder reconstructed while it coded, and the records have
their stored sizes (R58 to R60, R62, R64). -/
def Obligations.CoderAgrees : Prop :=
  ∀ (tier : Tier) (mark : Bool) (entry : Coding) (xs : List Int), xs.length = 160 → entry.index ≤ 63 →
    -32768 ≤ entry.predictor → entry.predictor ≤ 32767 →
    (voicedRecord tier mark entry (packBits (codeSamples tier entry xs).1)).length = tier.stored ∧
    decodeVoiced (voicedRecord tier mark entry (packBits (codeSamples tier entry xs).1)) =
      (List.range 160).map fun n =>
        BitVec.ofInt 16 (codeSamples tier entry (xs.take (n + 1))).2.predictor

/-! ### Headlines -/

/-- A frame's payload, read with every check, is the message it was made from. -/
def Obligations.FramesRoundTrip : Prop :=
  ∀ (m : Msg) (sender dest : Station), m.wf = true → sender.isSender = true → dest.isDest = true →
    (m.toFrame sender dest).read = some m

/-- A frame's bits as a sender drives them, bit insertion included, with any acknowledge level and nine
recessive end bits, are scanned as that frame and nothing but that frame. -/
def Obligations.BitsRoundTrip : Prop :=
  ∀ (f : Frame) (acknowledge : Bool), f.wf = true →
    ∃ c, Scan.empty.feed (f.wire ++ acknowledge :: List.replicate 9 true) = .complete c ∧ c.frame = f

/-- Every step keeps the SDRAM list in its canonical form and the Block Table in its rising order. -/
def Obligations.MemoryKept : Prop :=
  ∀ s t : State, s.MemoryCanonical → s.TableRising → step s = .next t → t.MemoryCanonical ∧ t.TableRising

/-- Every step keeps the bounds of the Control Queue, the fault count and the two short lists, and keeps
an UNNUMBERED station at fault count 0. -/
def Obligations.BoundsKept : Prop :=
  ∀ s t : State, s.QueueBounded → s.FaultBounded → s.ListsBounded → s.UnnumberedQuiet →
    step s = .next t → t.QueueBounded ∧ t.FaultBounded ∧ t.ListsBounded ∧ t.UnnumberedQuiet

/-- Every step keeps the accounts of segment memory: reference counts are the numbers of records that name
a block, the pool and the chains hold 49,152 records together, and the FREE blocks cover the credits and the
reservation (R41, R43, R44). -/
def Obligations.AccountsKept : Prop :=
  ∀ s t : State, s.TableRising → s.CountsRight → s.PoolRight → s.CreditsRight → step s = .next t →
    t.CountsRight ∧ t.PoolRight ∧ t.CreditsRight
end

