-- ==== Sys2Proof/Laws/State.lean ====
section
/-! SUPPORT. One lemma per field and update of State: what each named update leaves, by rfl. -/

namespace Sys2Proof.Machine.State

variable (s : State)

@[simp] theorem onBus_bus (f : Bus → Bus) : (s.onBus f).bus = f s.bus := rfl
@[simp] theorem onBus_lines (f : Bus → Bus) : (s.onBus f).lines = s.lines := rfl
@[simp] theorem onBus_coders (f : Bus → Bus) : (s.onBus f).coders = s.coders := rfl
@[simp] theorem onBus_tones (f : Bus → Bus) : (s.onBus f).tones = s.tones := rfl
@[simp] theorem onBus_ports (f : Bus → Bus) : (s.onBus f).ports = s.ports := rfl
@[simp] theorem onBus_frames (f : Bus → Bus) : (s.onBus f).frames = s.frames := rfl
@[simp] theorem onBus_letters (f : Bus → Bus) : (s.onBus f).letters = s.letters := rfl
@[simp] theorem onBus_seg (f : Bus → Bus) : (s.onBus f).seg = s.seg := rfl
@[simp] theorem onBus_peers (f : Bus → Bus) : (s.onBus f).peers = s.peers := rfl
@[simp] theorem onBus_nums (f : Bus → Bus) : (s.onBus f).nums = s.nums := rfl
@[simp] theorem onBus_xfer (f : Bus → Bus) : (s.onBus f).xfer = s.xfer := rfl
@[simp] theorem onBus_deliv (f : Bus → Bus) : (s.onBus f).deliv = s.deliv := rfl
@[simp] theorem onBus_sub10us (f : Bus → Bus) : (s.onBus f).sub10us = s.sub10us := rfl
@[simp] theorem onBus_subMs (f : Bus → Bus) : (s.onBus f).subMs = s.subMs := rfl
@[simp] theorem onBus_streamId (f : Bus → Bus) : (s.onBus f).streamId = s.streamId := rfl
@[simp] theorem onBus_freeIdx (f : Bus → Bus) : (s.onBus f).freeIdx = s.freeIdx := rfl
@[simp] theorem onBus_reports (f : Bus → Bus) : (s.onBus f).reports = s.reports := rfl
@[simp] theorem onBus_ticks (f : Bus → Bus) : (s.onBus f).ticks = s.ticks := rfl
@[simp] theorem onBus_pending (f : Bus → Bus) : (s.onBus f).pending = s.pending := rfl
@[simp] theorem onBus_resetHeld (f : Bus → Bus) : (s.onBus f).resetHeld = s.resetHeld := rfl
@[simp] theorem onBus_filters (f : Bus → Bus) : (s.onBus f).filters = s.filters := rfl

@[simp] theorem onSeg_bus (f : Segment → Segment) : (s.onSeg f).bus = s.bus := rfl
@[simp] theorem onSeg_lines (f : Segment → Segment) : (s.onSeg f).lines = s.lines := rfl
@[simp] theorem onSeg_coders (f : Segment → Segment) : (s.onSeg f).coders = s.coders := rfl
@[simp] theorem onSeg_tones (f : Segment → Segment) : (s.onSeg f).tones = s.tones := rfl
@[simp] theorem onSeg_ports (f : Segment → Segment) : (s.onSeg f).ports = s.ports := rfl
@[simp] theorem onSeg_frames (f : Segment → Segment) : (s.onSeg f).frames = s.frames := rfl
@[simp] theorem onSeg_letters (f : Segment → Segment) : (s.onSeg f).letters = s.letters := rfl
@[simp] theorem onSeg_seg (f : Segment → Segment) : (s.onSeg f).seg = f s.seg := rfl
@[simp] theorem onSeg_peers (f : Segment → Segment) : (s.onSeg f).peers = s.peers := rfl
@[simp] theorem onSeg_nums (f : Segment → Segment) : (s.onSeg f).nums = s.nums := rfl
@[simp] theorem onSeg_xfer (f : Segment → Segment) : (s.onSeg f).xfer = s.xfer := rfl
@[simp] theorem onSeg_deliv (f : Segment → Segment) : (s.onSeg f).deliv = s.deliv := rfl
@[simp] theorem onSeg_sub10us (f : Segment → Segment) : (s.onSeg f).sub10us = s.sub10us := rfl
@[simp] theorem onSeg_subMs (f : Segment → Segment) : (s.onSeg f).subMs = s.subMs := rfl
@[simp] theorem onSeg_streamId (f : Segment → Segment) : (s.onSeg f).streamId = s.streamId := rfl
@[simp] theorem onSeg_freeIdx (f : Segment → Segment) : (s.onSeg f).freeIdx = s.freeIdx := rfl
@[simp] theorem onSeg_reports (f : Segment → Segment) : (s.onSeg f).reports = s.reports := rfl
@[simp] theorem onSeg_ticks (f : Segment → Segment) : (s.onSeg f).ticks = s.ticks := rfl
@[simp] theorem onSeg_pending (f : Segment → Segment) : (s.onSeg f).pending = s.pending := rfl
@[simp] theorem onSeg_resetHeld (f : Segment → Segment) : (s.onSeg f).resetHeld = s.resetHeld := rfl
@[simp] theorem onSeg_filters (f : Segment → Segment) : (s.onSeg f).filters = s.filters := rfl

@[simp] theorem onNums_bus (f : Numbers → Numbers) : (s.onNums f).bus = s.bus := rfl
@[simp] theorem onNums_lines (f : Numbers → Numbers) : (s.onNums f).lines = s.lines := rfl
@[simp] theorem onNums_coders (f : Numbers → Numbers) : (s.onNums f).coders = s.coders := rfl
@[simp] theorem onNums_tones (f : Numbers → Numbers) : (s.onNums f).tones = s.tones := rfl
@[simp] theorem onNums_ports (f : Numbers → Numbers) : (s.onNums f).ports = s.ports := rfl
@[simp] theorem onNums_frames (f : Numbers → Numbers) : (s.onNums f).frames = s.frames := rfl
@[simp] theorem onNums_letters (f : Numbers → Numbers) : (s.onNums f).letters = s.letters := rfl
@[simp] theorem onNums_seg (f : Numbers → Numbers) : (s.onNums f).seg = s.seg := rfl
@[simp] theorem onNums_peers (f : Numbers → Numbers) : (s.onNums f).peers = s.peers := rfl
@[simp] theorem onNums_nums (f : Numbers → Numbers) : (s.onNums f).nums = f s.nums := rfl
@[simp] theorem onNums_xfer (f : Numbers → Numbers) : (s.onNums f).xfer = s.xfer := rfl
@[simp] theorem onNums_deliv (f : Numbers → Numbers) : (s.onNums f).deliv = s.deliv := rfl
@[simp] theorem onNums_sub10us (f : Numbers → Numbers) : (s.onNums f).sub10us = s.sub10us := rfl
@[simp] theorem onNums_subMs (f : Numbers → Numbers) : (s.onNums f).subMs = s.subMs := rfl
@[simp] theorem onNums_streamId (f : Numbers → Numbers) : (s.onNums f).streamId = s.streamId := rfl
@[simp] theorem onNums_freeIdx (f : Numbers → Numbers) : (s.onNums f).freeIdx = s.freeIdx := rfl
@[simp] theorem onNums_reports (f : Numbers → Numbers) : (s.onNums f).reports = s.reports := rfl
@[simp] theorem onNums_ticks (f : Numbers → Numbers) : (s.onNums f).ticks = s.ticks := rfl
@[simp] theorem onNums_pending (f : Numbers → Numbers) : (s.onNums f).pending = s.pending := rfl
@[simp] theorem onNums_resetHeld (f : Numbers → Numbers) : (s.onNums f).resetHeld = s.resetHeld := rfl
@[simp] theorem onNums_filters (f : Numbers → Numbers) : (s.onNums f).filters = s.filters := rfl

@[simp] theorem onXfer_bus (f : Transfer → Transfer) : (s.onXfer f).bus = s.bus := rfl
@[simp] theorem onXfer_lines (f : Transfer → Transfer) : (s.onXfer f).lines = s.lines := rfl
@[simp] theorem onXfer_coders (f : Transfer → Transfer) : (s.onXfer f).coders = s.coders := rfl
@[simp] theorem onXfer_tones (f : Transfer → Transfer) : (s.onXfer f).tones = s.tones := rfl
@[simp] theorem onXfer_ports (f : Transfer → Transfer) : (s.onXfer f).ports = s.ports := rfl
@[simp] theorem onXfer_frames (f : Transfer → Transfer) : (s.onXfer f).frames = s.frames := rfl
@[simp] theorem onXfer_letters (f : Transfer → Transfer) : (s.onXfer f).letters = s.letters := rfl
@[simp] theorem onXfer_seg (f : Transfer → Transfer) : (s.onXfer f).seg = s.seg := rfl
@[simp] theorem onXfer_peers (f : Transfer → Transfer) : (s.onXfer f).peers = s.peers := rfl
@[simp] theorem onXfer_nums (f : Transfer → Transfer) : (s.onXfer f).nums = s.nums := rfl
@[simp] theorem onXfer_xfer (f : Transfer → Transfer) : (s.onXfer f).xfer = f s.xfer := rfl
@[simp] theorem onXfer_deliv (f : Transfer → Transfer) : (s.onXfer f).deliv = s.deliv := rfl
@[simp] theorem onXfer_sub10us (f : Transfer → Transfer) : (s.onXfer f).sub10us = s.sub10us := rfl
@[simp] theorem onXfer_subMs (f : Transfer → Transfer) : (s.onXfer f).subMs = s.subMs := rfl
@[simp] theorem onXfer_streamId (f : Transfer → Transfer) : (s.onXfer f).streamId = s.streamId := rfl
@[simp] theorem onXfer_freeIdx (f : Transfer → Transfer) : (s.onXfer f).freeIdx = s.freeIdx := rfl
@[simp] theorem onXfer_reports (f : Transfer → Transfer) : (s.onXfer f).reports = s.reports := rfl
@[simp] theorem onXfer_ticks (f : Transfer → Transfer) : (s.onXfer f).ticks = s.ticks := rfl
@[simp] theorem onXfer_pending (f : Transfer → Transfer) : (s.onXfer f).pending = s.pending := rfl
@[simp] theorem onXfer_resetHeld (f : Transfer → Transfer) : (s.onXfer f).resetHeld = s.resetHeld := rfl
@[simp] theorem onXfer_filters (f : Transfer → Transfer) : (s.onXfer f).filters = s.filters := rfl

@[simp] theorem onDeliv_bus (f : Delivery → Delivery) : (s.onDeliv f).bus = s.bus := rfl
@[simp] theorem onDeliv_lines (f : Delivery → Delivery) : (s.onDeliv f).lines = s.lines := rfl
@[simp] theorem onDeliv_coders (f : Delivery → Delivery) : (s.onDeliv f).coders = s.coders := rfl
@[simp] theorem onDeliv_tones (f : Delivery → Delivery) : (s.onDeliv f).tones = s.tones := rfl
@[simp] theorem onDeliv_ports (f : Delivery → Delivery) : (s.onDeliv f).ports = s.ports := rfl
@[simp] theorem onDeliv_frames (f : Delivery → Delivery) : (s.onDeliv f).frames = s.frames := rfl
@[simp] theorem onDeliv_letters (f : Delivery → Delivery) : (s.onDeliv f).letters = s.letters := rfl
@[simp] theorem onDeliv_seg (f : Delivery → Delivery) : (s.onDeliv f).seg = s.seg := rfl
@[simp] theorem onDeliv_peers (f : Delivery → Delivery) : (s.onDeliv f).peers = s.peers := rfl
@[simp] theorem onDeliv_nums (f : Delivery → Delivery) : (s.onDeliv f).nums = s.nums := rfl
@[simp] theorem onDeliv_xfer (f : Delivery → Delivery) : (s.onDeliv f).xfer = s.xfer := rfl
@[simp] theorem onDeliv_deliv (f : Delivery → Delivery) : (s.onDeliv f).deliv = f s.deliv := rfl
@[simp] theorem onDeliv_sub10us (f : Delivery → Delivery) : (s.onDeliv f).sub10us = s.sub10us := rfl
@[simp] theorem onDeliv_subMs (f : Delivery → Delivery) : (s.onDeliv f).subMs = s.subMs := rfl
@[simp] theorem onDeliv_streamId (f : Delivery → Delivery) : (s.onDeliv f).streamId = s.streamId := rfl
@[simp] theorem onDeliv_freeIdx (f : Delivery → Delivery) : (s.onDeliv f).freeIdx = s.freeIdx := rfl
@[simp] theorem onDeliv_reports (f : Delivery → Delivery) : (s.onDeliv f).reports = s.reports := rfl
@[simp] theorem onDeliv_ticks (f : Delivery → Delivery) : (s.onDeliv f).ticks = s.ticks := rfl
@[simp] theorem onDeliv_pending (f : Delivery → Delivery) : (s.onDeliv f).pending = s.pending := rfl
@[simp] theorem onDeliv_resetHeld (f : Delivery → Delivery) : (s.onDeliv f).resetHeld = s.resetHeld := rfl
@[simp] theorem onDeliv_filters (f : Delivery → Delivery) : (s.onDeliv f).filters = s.filters := rfl

@[simp] theorem onLine_bus (l : LineNo) (f : Line → Line) : (s.onLine l f).bus = s.bus := rfl
@[simp] theorem onLine_lines (l : LineNo) (f : Line → Line) : (s.onLine l f).lines = s.lines.set l (f s.lines[l]) := rfl
@[simp] theorem onLine_coders (l : LineNo) (f : Line → Line) : (s.onLine l f).coders = s.coders := rfl
@[simp] theorem onLine_tones (l : LineNo) (f : Line → Line) : (s.onLine l f).tones = s.tones := rfl
@[simp] theorem onLine_ports (l : LineNo) (f : Line → Line) : (s.onLine l f).ports = s.ports := rfl
@[simp] theorem onLine_frames (l : LineNo) (f : Line → Line) : (s.onLine l f).frames = s.frames := rfl
@[simp] theorem onLine_letters (l : LineNo) (f : Line → Line) : (s.onLine l f).letters = s.letters := rfl
@[simp] theorem onLine_seg (l : LineNo) (f : Line → Line) : (s.onLine l f).seg = s.seg := rfl
@[simp] theorem onLine_peers (l : LineNo) (f : Line → Line) : (s.onLine l f).peers = s.peers := rfl
@[simp] theorem onLine_nums (l : LineNo) (f : Line → Line) : (s.onLine l f).nums = s.nums := rfl
@[simp] theorem onLine_xfer (l : LineNo) (f : Line → Line) : (s.onLine l f).xfer = s.xfer := rfl
@[simp] theorem onLine_deliv (l : LineNo) (f : Line → Line) : (s.onLine l f).deliv = s.deliv := rfl
@[simp] theorem onLine_sub10us (l : LineNo) (f : Line → Line) : (s.onLine l f).sub10us = s.sub10us := rfl
@[simp] theorem onLine_subMs (l : LineNo) (f : Line → Line) : (s.onLine l f).subMs = s.subMs := rfl
@[simp] theorem onLine_streamId (l : LineNo) (f : Line → Line) : (s.onLine l f).streamId = s.streamId := rfl
@[simp] theorem onLine_freeIdx (l : LineNo) (f : Line → Line) : (s.onLine l f).freeIdx = s.freeIdx := rfl
@[simp] theorem onLine_reports (l : LineNo) (f : Line → Line) : (s.onLine l f).reports = s.reports := rfl
@[simp] theorem onLine_ticks (l : LineNo) (f : Line → Line) : (s.onLine l f).ticks = s.ticks := rfl
@[simp] theorem onLine_pending (l : LineNo) (f : Line → Line) : (s.onLine l f).pending = s.pending := rfl
@[simp] theorem onLine_resetHeld (l : LineNo) (f : Line → Line) : (s.onLine l f).resetHeld = s.resetHeld := rfl
@[simp] theorem onLine_filters (l : LineNo) (f : Line → Line) : (s.onLine l f).filters = s.filters := rfl

@[simp] theorem onCoder_bus (l : LineNo) (f : Coder → Coder) : (s.onCoder l f).bus = s.bus := rfl
@[simp] theorem onCoder_lines (l : LineNo) (f : Coder → Coder) : (s.onCoder l f).lines = s.lines := rfl
@[simp] theorem onCoder_coders (l : LineNo) (f : Coder → Coder) : (s.onCoder l f).coders = s.coders.set l (f s.coders[l]) := rfl
@[simp] theorem onCoder_tones (l : LineNo) (f : Coder → Coder) : (s.onCoder l f).tones = s.tones := rfl
@[simp] theorem onCoder_ports (l : LineNo) (f : Coder → Coder) : (s.onCoder l f).ports = s.ports := rfl
@[simp] theorem onCoder_frames (l : LineNo) (f : Coder → Coder) : (s.onCoder l f).frames = s.frames := rfl
@[simp] theorem onCoder_letters (l : LineNo) (f : Coder → Coder) : (s.onCoder l f).letters = s.letters := rfl
@[simp] theorem onCoder_seg (l : LineNo) (f : Coder → Coder) : (s.onCoder l f).seg = s.seg := rfl
@[simp] theorem onCoder_peers (l : LineNo) (f : Coder → Coder) : (s.onCoder l f).peers = s.peers := rfl
@[simp] theorem onCoder_nums (l : LineNo) (f : Coder → Coder) : (s.onCoder l f).nums = s.nums := rfl
@[simp] theorem onCoder_xfer (l : LineNo) (f : Coder → Coder) : (s.onCoder l f).xfer = s.xfer := rfl
@[simp] theorem onCoder_deliv (l : LineNo) (f : Coder → Coder) : (s.onCoder l f).deliv = s.deliv := rfl
@[simp] theorem onCoder_sub10us (l : LineNo) (f : Coder → Coder) : (s.onCoder l f).sub10us = s.sub10us := rfl
@[simp] theorem onCoder_subMs (l : LineNo) (f : Coder → Coder) : (s.onCoder l f).subMs = s.subMs := rfl
@[simp] theorem onCoder_streamId (l : LineNo) (f : Coder → Coder) : (s.onCoder l f).streamId = s.streamId := rfl
@[simp] theorem onCoder_freeIdx (l : LineNo) (f : Coder → Coder) : (s.onCoder l f).freeIdx = s.freeIdx := rfl
@[simp] theorem onCoder_reports (l : LineNo) (f : Coder → Coder) : (s.onCoder l f).reports = s.reports := rfl
@[simp] theorem onCoder_ticks (l : LineNo) (f : Coder → Coder) : (s.onCoder l f).ticks = s.ticks := rfl
@[simp] theorem onCoder_pending (l : LineNo) (f : Coder → Coder) : (s.onCoder l f).pending = s.pending := rfl
@[simp] theorem onCoder_resetHeld (l : LineNo) (f : Coder → Coder) : (s.onCoder l f).resetHeld = s.resetHeld := rfl
@[simp] theorem onCoder_filters (l : LineNo) (f : Coder → Coder) : (s.onCoder l f).filters = s.filters := rfl

@[simp] theorem onTone_bus (l : LineNo) (f : Tone → Tone) : (s.onTone l f).bus = s.bus := rfl
@[simp] theorem onTone_lines (l : LineNo) (f : Tone → Tone) : (s.onTone l f).lines = s.lines := rfl
@[simp] theorem onTone_coders (l : LineNo) (f : Tone → Tone) : (s.onTone l f).coders = s.coders := rfl
@[simp] theorem onTone_tones (l : LineNo) (f : Tone → Tone) : (s.onTone l f).tones = s.tones.set l (f s.tones[l]) := rfl
@[simp] theorem onTone_ports (l : LineNo) (f : Tone → Tone) : (s.onTone l f).ports = s.ports := rfl
@[simp] theorem onTone_frames (l : LineNo) (f : Tone → Tone) : (s.onTone l f).frames = s.frames := rfl
@[simp] theorem onTone_letters (l : LineNo) (f : Tone → Tone) : (s.onTone l f).letters = s.letters := rfl
@[simp] theorem onTone_seg (l : LineNo) (f : Tone → Tone) : (s.onTone l f).seg = s.seg := rfl
@[simp] theorem onTone_peers (l : LineNo) (f : Tone → Tone) : (s.onTone l f).peers = s.peers := rfl
@[simp] theorem onTone_nums (l : LineNo) (f : Tone → Tone) : (s.onTone l f).nums = s.nums := rfl
@[simp] theorem onTone_xfer (l : LineNo) (f : Tone → Tone) : (s.onTone l f).xfer = s.xfer := rfl
@[simp] theorem onTone_deliv (l : LineNo) (f : Tone → Tone) : (s.onTone l f).deliv = s.deliv := rfl
@[simp] theorem onTone_sub10us (l : LineNo) (f : Tone → Tone) : (s.onTone l f).sub10us = s.sub10us := rfl
@[simp] theorem onTone_subMs (l : LineNo) (f : Tone → Tone) : (s.onTone l f).subMs = s.subMs := rfl
@[simp] theorem onTone_streamId (l : LineNo) (f : Tone → Tone) : (s.onTone l f).streamId = s.streamId := rfl
@[simp] theorem onTone_freeIdx (l : LineNo) (f : Tone → Tone) : (s.onTone l f).freeIdx = s.freeIdx := rfl
@[simp] theorem onTone_reports (l : LineNo) (f : Tone → Tone) : (s.onTone l f).reports = s.reports := rfl
@[simp] theorem onTone_ticks (l : LineNo) (f : Tone → Tone) : (s.onTone l f).ticks = s.ticks := rfl
@[simp] theorem onTone_pending (l : LineNo) (f : Tone → Tone) : (s.onTone l f).pending = s.pending := rfl
@[simp] theorem onTone_resetHeld (l : LineNo) (f : Tone → Tone) : (s.onTone l f).resetHeld = s.resetHeld := rfl
@[simp] theorem onTone_filters (l : LineNo) (f : Tone → Tone) : (s.onTone l f).filters = s.filters := rfl

@[simp] theorem onPort_bus (l : LineNo) (f : Port → Port) : (s.onPort l f).bus = s.bus := rfl
@[simp] theorem onPort_lines (l : LineNo) (f : Port → Port) : (s.onPort l f).lines = s.lines := rfl
@[simp] theorem onPort_coders (l : LineNo) (f : Port → Port) : (s.onPort l f).coders = s.coders := rfl
@[simp] theorem onPort_tones (l : LineNo) (f : Port → Port) : (s.onPort l f).tones = s.tones := rfl
@[simp] theorem onPort_ports (l : LineNo) (f : Port → Port) : (s.onPort l f).ports = s.ports.set l (f s.ports[l]) := rfl
@[simp] theorem onPort_frames (l : LineNo) (f : Port → Port) : (s.onPort l f).frames = s.frames := rfl
@[simp] theorem onPort_letters (l : LineNo) (f : Port → Port) : (s.onPort l f).letters = s.letters := rfl
@[simp] theorem onPort_seg (l : LineNo) (f : Port → Port) : (s.onPort l f).seg = s.seg := rfl
@[simp] theorem onPort_peers (l : LineNo) (f : Port → Port) : (s.onPort l f).peers = s.peers := rfl
@[simp] theorem onPort_nums (l : LineNo) (f : Port → Port) : (s.onPort l f).nums = s.nums := rfl
@[simp] theorem onPort_xfer (l : LineNo) (f : Port → Port) : (s.onPort l f).xfer = s.xfer := rfl
@[simp] theorem onPort_deliv (l : LineNo) (f : Port → Port) : (s.onPort l f).deliv = s.deliv := rfl
@[simp] theorem onPort_sub10us (l : LineNo) (f : Port → Port) : (s.onPort l f).sub10us = s.sub10us := rfl
@[simp] theorem onPort_subMs (l : LineNo) (f : Port → Port) : (s.onPort l f).subMs = s.subMs := rfl
@[simp] theorem onPort_streamId (l : LineNo) (f : Port → Port) : (s.onPort l f).streamId = s.streamId := rfl
@[simp] theorem onPort_freeIdx (l : LineNo) (f : Port → Port) : (s.onPort l f).freeIdx = s.freeIdx := rfl
@[simp] theorem onPort_reports (l : LineNo) (f : Port → Port) : (s.onPort l f).reports = s.reports := rfl
@[simp] theorem onPort_ticks (l : LineNo) (f : Port → Port) : (s.onPort l f).ticks = s.ticks := rfl
@[simp] theorem onPort_pending (l : LineNo) (f : Port → Port) : (s.onPort l f).pending = s.pending := rfl
@[simp] theorem onPort_resetHeld (l : LineNo) (f : Port → Port) : (s.onPort l f).resetHeld = s.resetHeld := rfl
@[simp] theorem onPort_filters (l : LineNo) (f : Port → Port) : (s.onPort l f).filters = s.filters := rfl

@[simp] theorem onLetter_bus (i : LetterIx) (f : Letter → Letter) : (s.onLetter i f).bus = s.bus := rfl
@[simp] theorem onLetter_lines (i : LetterIx) (f : Letter → Letter) : (s.onLetter i f).lines = s.lines := rfl
@[simp] theorem onLetter_coders (i : LetterIx) (f : Letter → Letter) : (s.onLetter i f).coders = s.coders := rfl
@[simp] theorem onLetter_tones (i : LetterIx) (f : Letter → Letter) : (s.onLetter i f).tones = s.tones := rfl
@[simp] theorem onLetter_ports (i : LetterIx) (f : Letter → Letter) : (s.onLetter i f).ports = s.ports := rfl
@[simp] theorem onLetter_frames (i : LetterIx) (f : Letter → Letter) : (s.onLetter i f).frames = s.frames := rfl
@[simp] theorem onLetter_letters (i : LetterIx) (f : Letter → Letter) : (s.onLetter i f).letters = s.letters.set i (s.letters[i].map f) := rfl
@[simp] theorem onLetter_seg (i : LetterIx) (f : Letter → Letter) : (s.onLetter i f).seg = s.seg := rfl
@[simp] theorem onLetter_peers (i : LetterIx) (f : Letter → Letter) : (s.onLetter i f).peers = s.peers := rfl
@[simp] theorem onLetter_nums (i : LetterIx) (f : Letter → Letter) : (s.onLetter i f).nums = s.nums := rfl
@[simp] theorem onLetter_xfer (i : LetterIx) (f : Letter → Letter) : (s.onLetter i f).xfer = s.xfer := rfl
@[simp] theorem onLetter_deliv (i : LetterIx) (f : Letter → Letter) : (s.onLetter i f).deliv = s.deliv := rfl
@[simp] theorem onLetter_sub10us (i : LetterIx) (f : Letter → Letter) : (s.onLetter i f).sub10us = s.sub10us := rfl
@[simp] theorem onLetter_subMs (i : LetterIx) (f : Letter → Letter) : (s.onLetter i f).subMs = s.subMs := rfl
@[simp] theorem onLetter_streamId (i : LetterIx) (f : Letter → Letter) : (s.onLetter i f).streamId = s.streamId := rfl
@[simp] theorem onLetter_freeIdx (i : LetterIx) (f : Letter → Letter) : (s.onLetter i f).freeIdx = s.freeIdx := rfl
@[simp] theorem onLetter_reports (i : LetterIx) (f : Letter → Letter) : (s.onLetter i f).reports = s.reports := rfl
@[simp] theorem onLetter_ticks (i : LetterIx) (f : Letter → Letter) : (s.onLetter i f).ticks = s.ticks := rfl
@[simp] theorem onLetter_pending (i : LetterIx) (f : Letter → Letter) : (s.onLetter i f).pending = s.pending := rfl
@[simp] theorem onLetter_resetHeld (i : LetterIx) (f : Letter → Letter) : (s.onLetter i f).resetHeld = s.resetHeld := rfl
@[simp] theorem onLetter_filters (i : LetterIx) (f : Letter → Letter) : (s.onLetter i f).filters = s.filters := rfl

@[simp] theorem setLetter_bus (i : LetterIx) (x : Option Letter) : (s.setLetter i x).bus = s.bus := rfl
@[simp] theorem setLetter_lines (i : LetterIx) (x : Option Letter) : (s.setLetter i x).lines = s.lines := rfl
@[simp] theorem setLetter_coders (i : LetterIx) (x : Option Letter) : (s.setLetter i x).coders = s.coders := rfl
@[simp] theorem setLetter_tones (i : LetterIx) (x : Option Letter) : (s.setLetter i x).tones = s.tones := rfl
@[simp] theorem setLetter_ports (i : LetterIx) (x : Option Letter) : (s.setLetter i x).ports = s.ports := rfl
@[simp] theorem setLetter_frames (i : LetterIx) (x : Option Letter) : (s.setLetter i x).frames = s.frames := rfl
@[simp] theorem setLetter_letters (i : LetterIx) (x : Option Letter) : (s.setLetter i x).letters = s.letters.set i x := rfl
@[simp] theorem setLetter_seg (i : LetterIx) (x : Option Letter) : (s.setLetter i x).seg = s.seg := rfl
@[simp] theorem setLetter_peers (i : LetterIx) (x : Option Letter) : (s.setLetter i x).peers = s.peers := rfl
@[simp] theorem setLetter_nums (i : LetterIx) (x : Option Letter) : (s.setLetter i x).nums = s.nums := rfl
@[simp] theorem setLetter_xfer (i : LetterIx) (x : Option Letter) : (s.setLetter i x).xfer = s.xfer := rfl
@[simp] theorem setLetter_deliv (i : LetterIx) (x : Option Letter) : (s.setLetter i x).deliv = s.deliv := rfl
@[simp] theorem setLetter_sub10us (i : LetterIx) (x : Option Letter) : (s.setLetter i x).sub10us = s.sub10us := rfl
@[simp] theorem setLetter_subMs (i : LetterIx) (x : Option Letter) : (s.setLetter i x).subMs = s.subMs := rfl
@[simp] theorem setLetter_streamId (i : LetterIx) (x : Option Letter) : (s.setLetter i x).streamId = s.streamId := rfl
@[simp] theorem setLetter_freeIdx (i : LetterIx) (x : Option Letter) : (s.setLetter i x).freeIdx = s.freeIdx := rfl
@[simp] theorem setLetter_reports (i : LetterIx) (x : Option Letter) : (s.setLetter i x).reports = s.reports := rfl
@[simp] theorem setLetter_ticks (i : LetterIx) (x : Option Letter) : (s.setLetter i x).ticks = s.ticks := rfl
@[simp] theorem setLetter_pending (i : LetterIx) (x : Option Letter) : (s.setLetter i x).pending = s.pending := rfl
@[simp] theorem setLetter_resetHeld (i : LetterIx) (x : Option Letter) : (s.setLetter i x).resetHeld = s.resetHeld := rfl
@[simp] theorem setLetter_filters (i : LetterIx) (x : Option Letter) : (s.setLetter i x).filters = s.filters := rfl

@[simp] theorem report_bus (i : Instr) : (s.report i).bus = s.bus := rfl
@[simp] theorem report_lines (i : Instr) : (s.report i).lines = s.lines := rfl
@[simp] theorem report_coders (i : Instr) : (s.report i).coders = s.coders := rfl
@[simp] theorem report_tones (i : Instr) : (s.report i).tones = s.tones := rfl
@[simp] theorem report_ports (i : Instr) : (s.report i).ports = s.ports := rfl
@[simp] theorem report_frames (i : Instr) : (s.report i).frames = s.frames := rfl
@[simp] theorem report_letters (i : Instr) : (s.report i).letters = s.letters := rfl
@[simp] theorem report_seg (i : Instr) : (s.report i).seg = s.seg := rfl
@[simp] theorem report_peers (i : Instr) : (s.report i).peers = s.peers := rfl
@[simp] theorem report_nums (i : Instr) : (s.report i).nums = s.nums := rfl
@[simp] theorem report_xfer (i : Instr) : (s.report i).xfer = s.xfer := rfl
@[simp] theorem report_deliv (i : Instr) : (s.report i).deliv = s.deliv := rfl
@[simp] theorem report_sub10us (i : Instr) : (s.report i).sub10us = s.sub10us := rfl
@[simp] theorem report_subMs (i : Instr) : (s.report i).subMs = s.subMs := rfl
@[simp] theorem report_streamId (i : Instr) : (s.report i).streamId = s.streamId := rfl
@[simp] theorem report_freeIdx (i : Instr) : (s.report i).freeIdx = s.freeIdx := rfl
@[simp] theorem report_reports (i : Instr) : (s.report i).reports = s.reports ++ [i] := rfl
@[simp] theorem report_ticks (i : Instr) : (s.report i).ticks = s.ticks := rfl
@[simp] theorem report_pending (i : Instr) : (s.report i).pending = s.pending := rfl
@[simp] theorem report_resetHeld (i : Instr) : (s.report i).resetHeld = s.resetHeld := rfl
@[simp] theorem report_filters (i : Instr) : (s.report i).filters = s.filters := rfl

@[simp] theorem taken_bus (i : Instr) : (s.taken i).bus = s.bus := rfl
@[simp] theorem taken_lines (i : Instr) : (s.taken i).lines = s.lines := rfl
@[simp] theorem taken_coders (i : Instr) : (s.taken i).coders = s.coders := rfl
@[simp] theorem taken_tones (i : Instr) : (s.taken i).tones = s.tones := rfl
@[simp] theorem taken_ports (i : Instr) : (s.taken i).ports = s.ports := rfl
@[simp] theorem taken_frames (i : Instr) : (s.taken i).frames = s.frames := rfl
@[simp] theorem taken_letters (i : Instr) : (s.taken i).letters = s.letters := rfl
@[simp] theorem taken_seg (i : Instr) : (s.taken i).seg = s.seg := rfl
@[simp] theorem taken_peers (i : Instr) : (s.taken i).peers = s.peers := rfl
@[simp] theorem taken_nums (i : Instr) : (s.taken i).nums = s.nums := rfl
@[simp] theorem taken_xfer (i : Instr) : (s.taken i).xfer = s.xfer := rfl
@[simp] theorem taken_deliv (i : Instr) : (s.taken i).deliv = s.deliv := rfl
@[simp] theorem taken_sub10us (i : Instr) : (s.taken i).sub10us = s.sub10us := rfl
@[simp] theorem taken_subMs (i : Instr) : (s.taken i).subMs = s.subMs := rfl
@[simp] theorem taken_streamId (i : Instr) : (s.taken i).streamId = s.streamId := rfl
@[simp] theorem taken_freeIdx (i : Instr) : (s.taken i).freeIdx = s.freeIdx := rfl
@[simp] theorem taken_reports (i : Instr) : (s.taken i).reports = s.reports.erase i := rfl
@[simp] theorem taken_ticks (i : Instr) : (s.taken i).ticks = s.ticks := rfl
@[simp] theorem taken_pending (i : Instr) : (s.taken i).pending = s.pending := rfl
@[simp] theorem taken_resetHeld (i : Instr) : (s.taken i).resetHeld = s.resetHeld := rfl
@[simp] theorem taken_filters (i : Instr) : (s.taken i).filters = s.filters := rfl

@[simp] theorem cancel_bus (i : Instr) : (s.cancel i).bus = s.bus := rfl
@[simp] theorem cancel_lines (i : Instr) : (s.cancel i).lines = s.lines := rfl
@[simp] theorem cancel_coders (i : Instr) : (s.cancel i).coders = s.coders := rfl
@[simp] theorem cancel_tones (i : Instr) : (s.cancel i).tones = s.tones := rfl
@[simp] theorem cancel_ports (i : Instr) : (s.cancel i).ports = s.ports := rfl
@[simp] theorem cancel_frames (i : Instr) : (s.cancel i).frames = s.frames := rfl
@[simp] theorem cancel_letters (i : Instr) : (s.cancel i).letters = s.letters := rfl
@[simp] theorem cancel_seg (i : Instr) : (s.cancel i).seg = s.seg := rfl
@[simp] theorem cancel_peers (i : Instr) : (s.cancel i).peers = s.peers := rfl
@[simp] theorem cancel_nums (i : Instr) : (s.cancel i).nums = s.nums := rfl
@[simp] theorem cancel_xfer (i : Instr) : (s.cancel i).xfer = s.xfer := rfl
@[simp] theorem cancel_deliv (i : Instr) : (s.cancel i).deliv = s.deliv := rfl
@[simp] theorem cancel_sub10us (i : Instr) : (s.cancel i).sub10us = s.sub10us := rfl
@[simp] theorem cancel_subMs (i : Instr) : (s.cancel i).subMs = s.subMs := rfl
@[simp] theorem cancel_streamId (i : Instr) : (s.cancel i).streamId = s.streamId := rfl
@[simp] theorem cancel_freeIdx (i : Instr) : (s.cancel i).freeIdx = s.freeIdx := rfl
@[simp] theorem cancel_reports (i : Instr) : (s.cancel i).reports = s.reports.filter (· ≠ i) := rfl
@[simp] theorem cancel_ticks (i : Instr) : (s.cancel i).ticks = s.ticks := rfl
@[simp] theorem cancel_pending (i : Instr) : (s.cancel i).pending = s.pending := rfl
@[simp] theorem cancel_resetHeld (i : Instr) : (s.cancel i).resetHeld = s.resetHeld := rfl
@[simp] theorem cancel_filters (i : Instr) : (s.cancel i).filters = s.filters := rfl

/-- A step that is cancelled waits no more. -/
theorem not_mem_cancel (i : Instr) : i ∉ (s.cancel i).reports := by simp

/-- Cancelling a step leaves every other one waiting. -/
theorem mem_cancel {i j : Instr} (h : j ≠ i) : j ∈ (s.cancel i).reports ↔ j ∈ s.reports := by simp [h]

/-! Lists of lines and letters after an update at one index. -/

@[simp] theorem onLine_same (l : LineNo) (f : Line → Line) : (s.onLine l f).lines[l] = f s.lines[l] := by
  simp
@[simp] theorem onTone_same (l : LineNo) (f : Tone → Tone) : (s.onTone l f).tones[l] = f s.tones[l] := by
  simp
@[simp] theorem onPort_same (l : LineNo) (f : Port → Port) : (s.onPort l f).ports[l] = f s.ports[l] := by
  simp
@[simp] theorem onCoder_same (l : LineNo) (f : Coder → Coder) :
    (s.onCoder l f).coders[l] = f s.coders[l] := by simp
@[simp] theorem onLetter_same (i : LetterIx) (f : Letter → Letter) :
    (s.onLetter i f).letters[i] = s.letters[i].map f := by simp
@[simp] theorem setLetter_same (i : LetterIx) (x : Option Letter) : (s.setLetter i x).letters[i] = x := by
  simp

theorem onLine_other {l m : LineNo} (h : m ≠ l) (f : Line → Line) :
    (s.onLine l f).lines[m] = s.lines[m] := by
  simp [Fin.val_inj, h.symm]
theorem onTone_other {l m : LineNo} (h : m ≠ l) (f : Tone → Tone) :
    (s.onTone l f).tones[m] = s.tones[m] := by
  simp [Fin.val_inj, h.symm]
theorem onPort_other {l m : LineNo} (h : m ≠ l) (f : Port → Port) :
    (s.onPort l f).ports[m] = s.ports[m] := by
  simp [Fin.val_inj, h.symm]
theorem onCoder_other {l m : LineNo} (h : m ≠ l) (f : Coder → Coder) :
    (s.onCoder l f).coders[m] = s.coders[m] := by
  simp [Fin.val_inj, h.symm]
theorem onLetter_other {i j : LetterIx} (h : j ≠ i) (f : Letter → Letter) :
    (s.onLetter i f).letters[j] = s.letters[j] := by
  simp [Fin.val_inj, h.symm]
theorem setLetter_other {i j : LetterIx} (h : j ≠ i) (x : Option Letter) :
    (s.setLetter i x).letters[j] = s.letters[j] := by
  simp [Fin.val_inj, h.symm]

/-! The named steps over the bus change the bus alone. -/

theorem raise_eq (e : Event) : s.raise e = s.onBus (Bus.raise e) := rfl
theorem place_eq (d : Station) (m : Msg) : s.place d m = s.onBus (Bus.place ⟨d, m, 0⟩) := rfl
theorem count_eq (f : Counters → Counters) : s.count f = s.onBus (Bus.count f) := rfl

end Sys2Proof.Machine.State
end

