-- ==== Sys2Proof/Laws/Bus.lean ====
section
/-! SUPPORT. The bus operations: what an event, a placed frame and a new fault count leave. -/

namespace Sys2Proof.Machine.Bus

variable (b : Bus)

@[simp] theorem count_ctl (f : Counters → Counters) : (b.count f).ctl = b.ctl := rfl
@[simp] theorem count_link (f : Counters → Counters) : (b.count f).link = b.link := rfl
@[simp] theorem count_counters (f : Counters → Counters) : (b.count f).counters = f b.counters := rfl
@[simp] theorem onLink_ctl (f : Link → Link) : (b.onLink f).ctl = b.ctl := rfl
@[simp] theorem onLink_link (f : Link → Link) : (b.onLink f).link = f b.link := rfl
@[simp] theorem onLink_counters (f : Link → Link) : (b.onLink f).counters = b.counters := rfl
@[simp] theorem push_control (q : QFrame) : (b.push q).link.control = b.link.control ++ [q] := rfl
@[simp] theorem push_fault (q : QFrame) : (b.push q).link.fault = b.link.fault := rfl
@[simp] theorem push_ctl (q : QFrame) : (b.push q).ctl = b.ctl := rfl

/-- An event changes no more of Station Control than its sequence. -/
theorem raise_state (e : Event) : (b.raise e).ctl.state = b.ctl.state := by
  unfold raise; dsimp only; split
  · rfl
  · split <;> rfl

theorem raise_seq (e : Event) : (b.raise e).ctl.eventSeq = b.ctl.eventSeq + 1 := by
  unfold raise; dsimp only; split
  · rfl
  · split <;> rfl

theorem raise_fault (e : Event) : (b.raise e).link.fault = b.link.fault := by
  unfold raise; dsimp only; split
  · rfl
  · split <;> rfl

/-- An event never takes the Control Queue past its 16 frames (R129). -/
theorem raise_control_le (e : Event) (h : b.link.control.length ≤ Config.controlFrames) :
    (b.raise e).link.control.length ≤ Config.controlFrames := by
  unfold raise; dsimp only; split
  · exact h
  · split
    · simp_all
    · exact h

theorem place_state (q : QFrame) : (b.place q).ctl.state = b.ctl.state := by
  unfold place; split
  · rfl
  · split
    · rfl
    · exact raise_state _ _

theorem place_fault (q : QFrame) : (b.place q).link.fault = b.link.fault := by
  unfold place; split
  · rfl
  · split
    · rfl
    · exact raise_fault _ _

/-- A placed frame never takes the Control Queue past its 16 frames (R129). -/
theorem place_control_le (q : QFrame) (h : b.link.control.length ≤ Config.controlFrames) :
    (b.place q).link.control.length ≤ Config.controlFrames := by
  unfold place; split
  · simp
    omega
  · split
    · rename_i h1 h2
      obtain ⟨x, hx, hp⟩ := List.any_eq_true.mp h2
      have := List.length_eraseP_of_mem (p := fun q : QFrame => q.msg.isEvent) hx hp
      have hpos := List.length_pos_of_mem hx
      simp only [push_control, lose, dropEvent, count_link, onLink_link, List.length_append,
        List.length_singleton]
      omega
    · exact raise_control_le _ _ h

/-- With room in the queue, a placed frame joins its tail and nothing else changes. -/
theorem place_room (q : QFrame) (h : b.link.control.length < Config.controlFrames) :
    b.place q = b.push q := by
  unfold place; rw [if_pos h]

/-- A new fault count is the one given. -/
theorem setFault_fault (n : Nat) : (b.setFault n).link.fault = n := by
  unfold setFault; dsimp only; split
  · rfl
  · rw [raise_fault]; rfl

theorem setFault_control_le (n : Nat) (h : b.link.control.length ≤ Config.controlFrames) :
    (b.setFault n).link.control.length ≤ Config.controlFrames := by
  unfold setFault; dsimp only; split
  · exact h
  · exact raise_control_le _ _ h

end Sys2Proof.Machine.Bus

namespace Sys2Proof

/-- The fault count stays in its bounds (R121). -/
theorem faultUp_le (n count : Nat) : faultUp n count ≤ Config.faultLimit := Nat.min_le_left _ _

theorem faultDown_le {count : Nat} (h : count ≤ Config.faultLimit) : faultDown count ≤ Config.faultLimit := by
  unfold faultDown; split <;> omega

end Sys2Proof
end

