-- ==== Sys2Proof/Laws/Chain.lean ====
section
/-! SUPPORT. Chains: a split keeps the slices, a trim takes one, and the chain edit of a commit puts one slice
in at the cursor. -/

namespace Sys2Proof.Machine

@[simp] theorem chainLength_nil : chainLength [] = 0 := rfl

@[simp] theorem chainLength_cons (r : SegRec) (c : List SegRec) :
    chainLength (r :: c) = r.count + chainLength c := by simp [chainLength]

@[simp] theorem chainLength_append (c d : List SegRec) :
    chainLength (c ++ d) = chainLength c + chainLength d := by simp [chainLength]

/-- A chain cut at a position keeps its slices, and the front has as many as the position says (R9). -/
theorem chainLength_split (c : List SegRec) (k : Nat) (h : k ≤ chainLength c) :
    chainLength (chainSplit c k).1 = k ∧
      chainLength (chainSplit c k).1 + chainLength (chainSplit c k).2 = chainLength c := by
  induction c generalizing k with
  | nil => simp_all [chainSplit]
  | cons r rest ih =>
    simp only [chainLength_cons] at h
    simp only [chainSplit]
    split
    · simp_all
    · split
      · simp; omega
      · have := ih (k - r.count) (by omega)
        simp only [chainLength_cons]
        omega

/-- A trim takes one slice off a chain whose first record has any (R10). -/
theorem chainLength_trim (r : SegRec) (c : List SegRec) (h : 0 < r.count) :
    chainLength (trimFront (r :: c)) + 1 = chainLength (r :: c) := by
  simp only [trimFront]
  split
  · simp; omega
  · simp; omega

/-! ### The slices a chain stands for -/

@[simp] theorem slicesOf_nil : slicesOf [] = [] := rfl

/-- The slices of one record. -/
abbrev recSlices (r : SegRec) : List (Nat × Nat) := (List.range r.count).map fun k => (r.block, r.first + k)

@[simp] theorem slicesOf_cons (r : SegRec) (c : List SegRec) : slicesOf (r :: c) = recSlices r ++ slicesOf c := by
  simp [slicesOf]

@[simp] theorem slicesOf_append (c d : List SegRec) : slicesOf (c ++ d) = slicesOf c ++ slicesOf d := by
  simp [slicesOf]

@[simp] theorem length_slicesOf (c : List SegRec) : (slicesOf c).length = chainLength c := by
  induction c with
  | nil => rfl
  | cons r rest ih => simp [ih]

/-- The slices of a record cut in two. -/
theorem recSlices_cut (r : SegRec) {k : Nat} (h : k ≤ r.count) :
    recSlices { r with count := k } = (recSlices r).take k ∧
      recSlices { r with first := r.first + k, count := r.count - k } = (recSlices r).drop k := by
  constructor
  · simp [recSlices, ← List.map_take, List.take_range, Nat.min_eq_left h]
  · apply List.ext_getElem
    · simp
    · intro n h1 h2
      simp
      omega

/-- A chain cut at a position is its slices cut there (R9). -/
theorem slicesOf_split (c : List SegRec) (k : Nat) :
    slicesOf (chainSplit c k).1 = (slicesOf c).take k ∧ slicesOf (chainSplit c k).2 = (slicesOf c).drop k := by
  induction c generalizing k with
  | nil => simp [chainSplit]
  | cons r rest ih =>
    simp only [chainSplit]
    split
    · simp_all
    · split
      · rename_i h
        have := recSlices_cut r (Nat.le_of_lt h)
        simp only [slicesOf_cons, slicesOf_nil, List.append_nil, this.1, this.2]
        constructor
        · rw [List.take_append_of_le_length (by simp; omega)]
        · rw [List.drop_append_of_le_length (by simp; omega)]
      · rename_i h
        have hr : (recSlices r).length = r.count := by simp
        simp only [slicesOf_cons, (ih (k - r.count)).1, (ih (k - r.count)).2, List.take_append, List.drop_append,
          hr]
        constructor
        · rw [List.take_of_length_le (l := recSlices r) (by omega)]
        · rw [List.drop_of_length_le (l := recSlices r) (by omega), List.nil_append]

/-- A record that grows takes the next slice of its block (R13). -/
theorem slicesOf_growLast (front : List SegRec) (b i : Nat) (h : extendsLast front b i = true) :
    slicesOf (growLast front) = slicesOf front ++ [(b, i)] := by
  rcases List.eq_nil_or_concat front with rfl | ⟨c, r, rfl⟩
  · simp [extendsLast] at h
  · simp only [extendsLast, List.concat_eq_append, List.getLast?_append, List.getLast?_singleton, Option.some_or,
      Bool.and_eq_true, beq_iff_eq] at h
    simp [growLast, recSlices, List.range_succ, h.1, h.2]

/-- A trim takes the first slice off a chain whose first record has any (R10). -/
theorem slicesOf_trim (c : List SegRec) (h : ∀ r ∈ c, 1 ≤ r.count) :
    slicesOf (trimFront c) = (slicesOf c).drop 1 := by
  cases c with
  | nil => rfl
  | cons r rest =>
    have hr := h r (by simp)
    simp only [trimFront]
    split
    · have : r.count = 1 := by omega
      simp [recSlices, this]
    · have := (recSlices_cut r hr).2
      simp only [slicesOf_cons, this]
      rw [List.drop_append_of_le_length (by simp; omega)]

/-- Cutting leaves no empty record after the cut. -/
theorem chainSplit_pos (c : List SegRec) (k : Nat) (h : ∀ r ∈ c, 1 ≤ r.count) :
    ∀ r ∈ (chainSplit c k).2, 1 ≤ r.count := by
  induction c generalizing k with
  | nil => simp [chainSplit]
  | cons r rest ih =>
    simp only [chainSplit]
    split
    · exact h
    · split
      · intro q hq
        rcases List.mem_cons.mp hq with rfl | hq
        · simp; omega
        · exact h q (by simp [hq])
      · exact ih _ fun q hq => h q (by simp [hq])

/-- The chain edit of a commit puts the slice in at the cursor, and by overwrite takes the one after it
(R9, R10, R13, R14). -/
theorem slicesOf_chainEdit (x : Letter) (p : Pass) (b i : Nat) (h : ∀ r ∈ x.chain, 1 ≤ r.count) :
    slicesOf (chainEdit x p b i).chain = (slicesOf x.chain).take x.cursor ++ (b, i) ::
      (slicesOf x.chain).drop (if p.mode = .overwrite then x.cursor + 1 else x.cursor) := by
  have hs := slicesOf_split x.chain x.cursor
  have hp := chainSplit_pos x.chain x.cursor h
  have back : slicesOf (if (p.mode == .overwrite) = true then trimFront (chainSplit x.chain x.cursor).2
      else (chainSplit x.chain x.cursor).2) =
      (slicesOf x.chain).drop (if p.mode = .overwrite then x.cursor + 1 else x.cursor) := by
    by_cases hm : p.mode = .overwrite
    · simp [hm, slicesOf_trim _ hp, hs.2]
    · simp [hm, hs.2]
  simp only [chainEdit, slicesOf_append, back]
  split
  · rename_i he
    simp only [Bool.and_eq_true] at he
    simp [slicesOf_growLast _ _ _ he.2, hs.1]
  · simp [hs.1, recSlices]

/-- A position lies inside a record where the chain falls into a front, that record and a rest so. -/
theorem chainInside_iff (c : List SegRec) (k : Nat) :
    (chainInside c k).isSome = true ↔ ∃ front r rest, c = front ++ r :: rest ∧ chainLength front < k ∧
      k < chainLength front + r.count := by
  induction c generalizing k with
  | nil => simp [chainInside]
  | cons q c ih =>
    simp only [chainInside]
    split
    · simp_all
    · split
      · simp only [Option.isSome_some, true_iff]
        exact ⟨[], q, c, by simp, by simp; omega, by simp; omega⟩
      · rw [ih]
        constructor
        · rintro ⟨f, r, d, rfl, h1, h2⟩
          exact ⟨q :: f, r, d, by simp, by simp; omega, by simp; omega⟩
        · rintro ⟨f, r, d, he, h1, h2⟩
          cases f with
          | nil =>
            simp only [List.nil_append, List.cons.injEq] at he
            obtain ⟨rfl, rfl⟩ := he
            simp at h2
            omega
          | cons g f =>
            simp only [List.cons_append, List.cons.injEq] at he
            obtain ⟨rfl, rfl⟩ := he
            simp only [chainLength_cons] at h1 h2
            exact ⟨f, r, d, rfl, by omega, by omega⟩

end Sys2Proof.Machine
end

