-- ==== Sys2Proof/Laws/Memory.lean ====
section
/-! SUPPORT. The byte memory: a write keeps the canonical form and is what a read gives back. -/

namespace Sys2Proof.Machine.Memory

/-- Every listed address lies above a bound. -/
def above (a : Nat) : List Host.Cell → Prop
  | [] => True
  | (b, _) :: _ => a < b

theorem wf_cons {b : Nat} {w : Byte} {rest : List Host.Cell} :
    wf ((b, w) :: rest) = true ↔ w ≠ unlisted ∧ above b rest ∧ wf rest = true := by
  cases rest with
  | nil => simp [wf, above]
  | cons c tail => obtain ⟨c, x⟩ := c; simp [wf, above, and_assoc]

theorem above_trans {a b : Nat} {mem : List Host.Cell} (h : above b mem) (hab : a ≤ b) : above a mem := by
  cases mem with
  | nil => trivial
  | cons c tail => obtain ⟨c, x⟩ := c; simp only [above] at *; omega

theorem above_write {a b : Nat} {v : Byte} {mem : List Host.Cell} (hw : wf mem = true) (h : above b mem)
    (hab : b < a) : above b (write mem a v) := by
  cases mem with
  | nil => by_cases hv : v = unlisted <;> simp [write, hv, above, hab]
  | cons c tail =>
    obtain ⟨c, x⟩ := c
    have ht := (wf_cons.mp hw).2.1
    simp only [above] at h
    simp only [write]
    split
    · split <;> simp [above, h, hab]
    · split
      · split
        · exact above_trans ht (by omega)
        · simp [above, hab]
      · simp [above, h]

/-- A write keeps the canonical form. -/
theorem wf_write {mem : List Host.Cell} (h : wf mem = true) (a : Nat) (v : Byte) :
    wf (write mem a v) = true := by
  induction mem with
  | nil => by_cases hv : v = unlisted <;> simp [write, hv, wf]
  | cons c tail ih =>
    obtain ⟨c, x⟩ := c
    have hc := wf_cons.mp h
    simp only [write]
    split
    · split
      · exact h
      · exact wf_cons.mpr ⟨by assumption, by simpa [above], h⟩
    · split
      · split
        · exact hc.2.2
        · exact wf_cons.mpr ⟨by assumption, by subst_vars; exact hc.2.1, hc.2.2⟩
      · exact wf_cons.mpr ⟨hc.1, above_write hc.2.2 hc.2.1 (by omega), ih hc.2.2⟩

theorem wf_writeBytes {mem : List Host.Cell} (h : wf mem = true) (bytes : List Byte) (a : Nat) :
    wf (writeBytes mem a bytes) = true := by
  induction bytes generalizing mem a with
  | nil => exact h
  | cons v rest ih => exact ih (wf_write h a v) (a + 1)

/-- An address below every listed one reads as unlisted. -/
theorem read_above {mem : List Host.Cell} {a : Nat} (hw : wf mem = true) (h : above a mem) :
    read mem a = unlisted := by
  induction mem with
  | nil => rfl
  | cons c tail ih =>
    obtain ⟨c, x⟩ := c
    have ht := (wf_cons.mp hw).2
    simp only [above] at h
    simp only [read]
    rw [if_neg (by omega)]
    exact ih ht.2 (above_trans ht.1 (by omega))

/-- What a read gives after a write. -/
theorem read_write {mem : List Host.Cell} (h : wf mem = true) (a b : Nat) (v : Byte) :
    read (write mem a v) b = if b = a then v else read mem b := by
  induction mem with
  | nil => by_cases hv : v = unlisted <;> simp [write, hv, read]
  | cons c tail ih =>
    obtain ⟨c, x⟩ := c
    have hc := wf_cons.mp h
    simp only [write]
    split
    · rename_i hac
      split
      · rename_i hv
        by_cases hb : b = a
        · subst hb hv
          simp only [if_true]
          exact read_above h hac
        · simp [hb]
      · simp [read]
    · split
      · rename_i hca
        subst hca
        split
        · rename_i hv
          by_cases hb : b = a
          · subst hb hv
            simpa using read_above hc.2.2 hc.2.1
          · simp [read, hb]
        · by_cases hb : b = a <;> simp [read, hb]
      · rename_i h1 h2
        simp only [read, ih hc.2.2]
        by_cases hbc : b = c
        · simp only [hbc, if_true]
          rw [if_neg (by omega)]
        · simp [hbc]

theorem read_write_same {mem : List Host.Cell} (h : wf mem = true) (a : Nat) (v : Byte) :
    read (write mem a v) a = v := by simp [read_write h]

/-- Bytes outside the range written read as before. -/
theorem read_writeBytes_outside {mem : List Host.Cell} (h : wf mem = true) (bytes : List Byte) (a b : Nat)
    (hb : b < a ∨ a + bytes.length ≤ b) : read (writeBytes mem a bytes) b = read mem b := by
  induction bytes generalizing mem a with
  | nil => rfl
  | cons v rest ih =>
    simp only [List.length_cons] at hb
    simp only [writeBytes]
    rw [ih (wf_write h a v) (a + 1) (by omega), read_write h, if_neg (by omega)]

/-- Bytes written read back. -/
theorem readBytes_writeBytes {mem : List Host.Cell} (h : wf mem = true) (bytes : List Byte) (a : Nat) :
    readBytes (writeBytes mem a bytes) a bytes.length = bytes := by
  induction bytes generalizing mem a with
  | nil => rfl
  | cons v rest ih =>
    simp only [writeBytes, List.length_cons, readBytes]
    rw [ih (wf_write h a v) (a + 1), read_writeBytes_outside (wf_write h a v) rest (a + 1) a (by omega),
      read_write_same h]

end Sys2Proof.Machine.Memory

namespace Sys2Proof.Machine.Segment

@[simp] theorem update_mem (g : Segment) (b : Nat) (f : Block → Block) : (g.update b f).mem = g.mem := rfl
@[simp] theorem takeRecords_mem (n : Nat) (g : Segment) : (takeRecords n g).mem = g.mem := rfl
@[simp] theorem returnRecords_mem (n : Nat) (g : Segment) : (returnRecords n g).mem = g.mem := rfl

/-- Writing a voiced record keeps the canonical form. -/
theorem wf_appendVoiced {g : Segment} (h : Memory.wf g.mem = true) (b : Nat) (bytes : List Byte) :
    Memory.wf (g.appendVoiced b bytes).mem = true := by
  unfold appendVoiced
  split
  · exact h
  · exact Memory.wf_writeBytes h _ _

/-- Writing a silence slice keeps the canonical form. -/
theorem wf_appendSilence {g : Segment} (h : Memory.wf g.mem = true) (b : Nat) :
    Memory.wf (g.appendSilence b).mem = true := by
  unfold appendSilence
  split
  · exact h
  · split
    · exact Memory.wf_write h _ _
    · exact Memory.wf_writeBytes h _ _

end Sys2Proof.Machine.Segment

namespace Sys2Proof.Machine.State

/-! The block operations that write no byte. -/

theorem mem_evalPressure (s : State) : s.evalPressure.seg.mem = s.seg.mem := rfl

theorem mem_freeBlock (s : State) (b : Nat) : (s.freeBlock b).seg.mem = s.seg.mem := by
  unfold freeBlock; split <;> rfl

theorem mem_incRef (s : State) (b : Nat) : (s.incRef b).seg.mem = s.seg.mem := rfl

theorem mem_decRef (s : State) (b : Nat) : (s.decRef b).seg.mem = s.seg.mem := by
  simp only [decRef, when]
  split
  · rw [mem_freeBlock]; rfl
  · rfl

theorem mem_sealBlock (s : State) (b : Nat) : (s.sealBlock b).seg.mem = s.seg.mem := by
  unfold sealBlock
  split
  · rfl
  · split
    · simp only [when]
      split
      · rw [mem_freeBlock]; rfl
      · rfl
    · rfl

theorem mem_giveBlock (s : State) (o : LetterIx) (f : Filler) (p q : Nat) :
    (s.giveBlock o f p q).seg.mem = s.seg.mem := rfl

theorem mem_dropRecords (c : List SegRec) (s : State) : (dropRecords c s).seg.mem = s.seg.mem := by
  induction c generalizing s with
  | nil => rfl
  | cons r rest ih => simp only [dropRecords]; rw [ih, mem_decRef]; rfl

theorem mem_sealAll (bs : List Nat) (s : State) : (sealAll bs s).seg.mem = s.seg.mem := by
  induction bs generalizing s with
  | nil => rfl
  | cons b rest ih => simp only [sealAll]; rw [ih, mem_sealBlock]

/-- Freeing a letter writes no byte. -/
theorem mem_freeLetter (s : State) (i : LetterIx) : (s.freeLetter i).seg.mem = s.seg.mem := by
  unfold freeLetter
  split
  · rfl
  · simp only [setLetter_seg, onNums_seg]
    rw [mem_sealAll, mem_dropRecords]

end Sys2Proof.Machine.State
end

