-- ==== Sys2Proof/Laws/Frames.lean ====
section
/-! SUPPORT. What the shared operations can change: each answers the state it was given with a few of its
parts replaced. -/

namespace Sys2Proof.Machine.State

/-- Only segment memory and the bus side may differ. -/
def OnlySeg (s t : State) : Prop := t = { s with seg := t.seg, bus := t.bus }

/-- Only the bus side, the number context and the steps owed may differ. -/
def OnlyNums (s t : State) : Prop := t = { s with bus := t.bus, nums := t.nums, reports := t.reports }

/-- Only the bus side, the letters, the delivery engine, the names given and the steps owed may differ. -/
def OnlyDeliv (s t : State) : Prop :=
  t = { s with
    bus := t.bus, letters := t.letters, deliv := t.deliv, streamId := t.streamId, reports := t.reports }

/-- Only one letter's freeing may show: segment memory, the bus side, the number context, the letters. -/
def OnlyLetter (s t : State) : Prop :=
  t = { s with seg := t.seg, bus := t.bus, nums := t.nums, letters := t.letters }

theorem OnlySeg.refl (s : State) : OnlySeg s s := rfl
theorem OnlyNums.refl (s : State) : OnlyNums s s := rfl
theorem OnlyDeliv.refl (s : State) : OnlyDeliv s s := rfl

theorem OnlySeg.trans {s t u : State} (h : OnlySeg s t) (k : OnlySeg t u) : OnlySeg s u := by
  unfold OnlySeg at *; rw [k, h]

theorem OnlyNums.trans {s t u : State} (h : OnlyNums s t) (k : OnlyNums t u) : OnlyNums s u := by
  unfold OnlyNums at *; rw [k, h]

theorem OnlyDeliv.trans {s t u : State} (h : OnlyDeliv s t) (k : OnlyDeliv t u) : OnlyDeliv s u := by
  unfold OnlyDeliv at *; rw [k, h]

/-! ### Blocks -/

theorem onSeg_only (s : State) (f : Segment → Segment) : OnlySeg s (s.onSeg f) := rfl

theorem evalPressure_only (s : State) : OnlySeg s s.evalPressure := rfl

theorem freeBlock_only (s : State) (b : Nat) : OnlySeg s (s.freeBlock b) := by
  unfold freeBlock; split <;> rfl

theorem decRef_only (s : State) (b : Nat) : OnlySeg s (s.decRef b) := by
  unfold decRef when; dsimp only; split
  · exact (onSeg_only s _).trans (freeBlock_only _ b)
  · rfl

theorem sealBlock_only (s : State) (b : Nat) : OnlySeg s (s.sealBlock b) := by
  unfold sealBlock; split
  · rfl
  · split
    · unfold when; split
      · exact (onSeg_only s _).trans (freeBlock_only _ b)
      · rfl
    · rfl

theorem giveBlock_only (s : State) (o : LetterIx) (f : Filler) (p q : Nat) : OnlySeg s (s.giveBlock o f p q) :=
  rfl

theorem dropRecords_only (c : List SegRec) (s : State) : OnlySeg s (dropRecords c s) := by
  induction c generalizing s with
  | nil => rfl
  | cons r rest ih => exact ((onSeg_only s _).trans (decRef_only _ _)).trans (ih _)

theorem sealAll_only (bs : List Nat) (s : State) : OnlySeg s (sealAll bs s) := by
  induction bs generalizing s with
  | nil => rfl
  | cons b rest ih => exact (sealBlock_only s b).trans (ih _)

/-- Freeing a letter leaves lines, peers, transfers, deliveries and all that waits (R4). -/
theorem freeLetter_only (s : State) (i : LetterIx) : OnlyLetter s (s.freeLetter i) := by
  unfold freeLetter
  split
  · rfl
  · rename_i x _
    have h := (dropRecords_only x.chain.reverse s).trans (sealAll_only
      (((dropRecords x.chain.reverse s).seg.blocks.filter fun b => b.owner == i && b.filler.isSome).map (·.num)) _)
    unfold OnlySeg at h
    unfold OnlyLetter
    dsimp only
    rw [h]
    rfl

/-! ### Numbers -/

theorem onNums_only (s : State) (f : Numbers → Numbers) : OnlyNums s (s.onNums f) := rfl
theorem place_only (s : State) (d : Station) (m : Msg) : OnlyNums s (s.place d m) := rfl
theorem raise_only (s : State) (e : Event) : OnlyNums s (s.raise e) := rfl

/-- Making a claim changes numbering and the bus side alone (R144, R149). -/
theorem makeClaim_only (s : State) : OnlyNums s s.makeClaim := by
  unfold makeClaim; split
  · split
    · unfold placeClaim; dsimp only; split <;> rfl
    · unfold exhaust; split <;> rfl
  · rfl

/-- The consultation of R145 changes numbering and the bus side alone. -/
theorem consultClaim_only (s : State) : OnlyNums s s.consultClaim.1 := by
  unfold consultClaim; split
  · rfl
  · split
    · rfl
    · split
      · exact OnlyNums.trans (t := s.endClaim.onNums fun n => { n with run := n.run + 1 }) rfl (makeClaim_only _)
      · rfl

/-- Reports given one after the other change the steps owed alone, and each of them is owed (log 1). -/
theorem reports_fold {α : Type} (f : α → Instr) (xs : List α) (s : State) :
    xs.foldl (fun s x => s.report (f x)) s = { s with reports := s.reports ++ xs.map f } := by
  induction xs generalizing s with
  | nil => simp
  | cons x xs ih => rw [List.foldl_cons, ih]; simp [report]

/-- 10 µs lower every entry of the objection window by one unit and report those at their last (R151). -/
theorem windowUnits_eq (s : State) : s.windowUnits =
    { s with
      nums := { s.nums with window := s.nums.window.map fun e => { e with left := e.left - 1 } }
      reports := s.reports ++
        (s.nums.window.filter (·.left == 1)).map fun e => .objectionWindowExpiry e.number } := by
  unfold windowUnits; dsimp only; rw [reports_fold]; rfl

/-! ### Deliveries -/

/-- An update before a change that keeps the frame, keeps the frame. -/
theorem OnlyDeliv.after {s t u : State} (k : OnlyDeliv t u) (h : OnlyDeliv s t) : OnlyDeliv s u := h.trans k

theorem resumeSuspended_only (s : State) : OnlyDeliv s s.resumeSuspended := by
  unfold resumeSuspended; split
  · unfold offerDelivery; dsimp only; split
    · split <;> rfl
    · rfl
  · rfl

theorem offerFailed_only (s : State) : OnlyDeliv s s.offerFailed := by
  unfold offerFailed; split
  · exact (resumeSuspended_only _).after rfl
  · rfl

theorem offerLetter_only (s : State) (i : LetterIx) (st : Station) : OnlyDeliv s (s.offerLetter i st) := by
  unfold offerLetter; split
  · rfl
  · dsimp only; split
    · rfl
    · exact (offerFailed_only _).after rfl

theorem suspendNow_only (s : State) : OnlyDeliv s s.suspendNow := by
  unfold suspendNow; split <;> rfl

theorem afterSuspend_only (s : State) : OnlyDeliv s s.afterSuspend := by
  unfold afterSuspend; split
  · split
    · exact offerLetter_only _ _ _
    · exact resumeSuspended_only _
  · exact resumeSuspended_only _

/-- The engine that looks for work changes letters, deliveries and the bus side alone (R174, R185). -/
theorem look_only (s : State) : OnlyDeliv s s.look := by
  unfold look; split
  · rfl
  · split
    · split
      · exact offerLetter_only _ _ _
      · exact resumeSuspended_only _
    · split
      · dsimp only; split
        · split
          · rfl
          · exact ((suspendNow_only _).trans (afterSuspend_only _)).after rfl
        · rfl
      · rfl

theorem afterEnd_only (s : State) : OnlyDeliv s s.afterEnd := by
  unfold afterEnd when; split
  · exact (resumeSuspended_only s).trans (look_only _)
  · exact look_only s

end Sys2Proof.Machine.State
end

