-- ==== Sys2Proof/Laws/Sines.lean ====
section
/-! SUPPORT. The sine table of the prompts is the sine of R106, to one unit of 1/65,536 of a sample. -/

namespace Sys2Proof

open Complex

/-- Cosine and sine of one phase step, times 10^20. -/
def stepCos : Int := 99996915764478971220
def stepSin : Int := 785390088871133390

/-- One phase step, as a complex number near `exp (I pi / 400)`. -/
noncomputable def phaseStep : ℂ := ⟨(stepCos : ℝ) / 10 ^ 20, (stepSin : ℝ) / 10 ^ 20⟩

theorem phaseStep_near : ‖exp (((Real.pi / 400 : ℝ) : ℂ) * I) - phaseStep‖ ≤ 1 / 10 ^ 15 := by
  set q : ℝ := 785398163397448309615 / 10 ^ 23 with hq
  have hp : |Real.pi / 400 - q| ≤ 1 / 10 ^ 20 := by
    rw [abs_le, hq]; constructor <;> linarith [Real.pi_gt_d20, Real.pi_lt_d20]
  have h1 : ‖exp (((Real.pi / 400 : ℝ) : ℂ) * I) - exp ((q : ℂ) * I)‖ ≤ 1 / 10 ^ 20 := by
    have : exp (((Real.pi / 400 : ℝ) : ℂ) * I) - exp ((q : ℂ) * I) =
        exp ((q : ℂ) * I) * (exp (I * ((Real.pi / 400 - q : ℝ) : ℂ)) - 1) := by
      rw [mul_sub, ← exp_add, mul_one]; congr 2; push_cast; ring
    rw [this, norm_mul, norm_exp_ofReal_mul_I, one_mul]
    exact (Real.norm_exp_I_mul_ofReal_sub_one_le).trans hp
  have hn : ‖(q : ℂ) * I‖ = q := by
    rw [norm_mul, norm_I, mul_one, norm_real, Real.norm_eq_abs, abs_of_pos]; rw [hq]; positivity
  have h2 := exp_bound (x := (q : ℂ) * I) (by rw [hn, hq]; norm_num) (n := 8) (by norm_num)
  rw [hn] at h2
  have h3 : ‖(∑ m ∈ Finset.range 8, ((q : ℂ) * I) ^ m / m.factorial) - phaseStep‖ ≤ 1 / 10 ^ 18 := by
    have e : (∑ m ∈ Finset.range 8, ((q : ℂ) * I) ^ m / m.factorial) =
        ⟨1 - q ^ 2 / 2 + q ^ 4 / 24 - q ^ 6 / 720, q - q ^ 3 / 6 + q ^ 5 / 120 - q ^ 7 / 5040⟩ := by
      apply Complex.ext <;>
        simp [Finset.sum_range_succ, Nat.factorial, pow_succ] <;> ring
    rw [e]
    refine (norm_le_abs_re_add_abs_im _).trans ?_
    have a : |1 - q ^ 2 / 2 + q ^ 4 / 24 - q ^ 6 / 720 - (stepCos : ℝ) / 10 ^ 20| ≤ 1 / 10 ^ 19 := by
      rw [abs_le, hq, stepCos]; constructor <;> norm_num
    have b : |q - q ^ 3 / 6 + q ^ 5 / 120 - q ^ 7 / 5040 - (stepSin : ℝ) / 10 ^ 20| ≤ 1 / 10 ^ 19 := by
      rw [abs_le, hq, stepSin]; constructor <;> norm_num
    calc _ ≤ (1 : ℝ) / 10 ^ 19 + 1 / 10 ^ 19 := add_le_add a b
      _ ≤ _ := by norm_num
  have h4 : q ^ 8 * ((Nat.succ 8 : ℝ) * ((Nat.factorial 8 : ℝ) * 8)⁻¹) ≤ 1 / 10 ^ 18 := by
    rw [hq]; norm_num [Nat.factorial]
  calc _ ≤ ‖exp (((Real.pi / 400 : ℝ) : ℂ) * I) - exp ((q : ℂ) * I)‖ +
        ‖exp ((q : ℂ) * I) - ∑ m ∈ Finset.range 8, ((q : ℂ) * I) ^ m / m.factorial‖ +
        ‖(∑ m ∈ Finset.range 8, ((q : ℂ) * I) ^ m / m.factorial) - phaseStep‖ := by
        refine le_trans ?_ (norm_add₃_le ..); apply le_of_eq; congr 1; ring
    _ ≤ 1 / 10 ^ 20 + 1 / 10 ^ 18 + 1 / 10 ^ 18 := by
        refine add_le_add (add_le_add h1 (h2.trans ?_)) h3
        exact_mod_cast h4
    _ ≤ _ := by norm_num

/-- The phases in turn, as cosine and sine times 10^20, each rounded down. -/
def phaseAt : Nat → Int × Int
  | 0 => (10 ^ 20, 0)
  | k + 1 =>
      let p := phaseAt k
      ((p.1 * stepCos - p.2 * stepSin) / 10 ^ 20, (p.1 * stepSin + p.2 * stepCos) / 10 ^ 20)

noncomputable def phasePoint (k : Nat) : ℂ := ⟨((phaseAt k).1 : ℝ) / 10 ^ 20, ((phaseAt k).2 : ℝ) / 10 ^ 20⟩

theorem floor_near (x : Int) : |((x / 10 ^ 20 : Int) : ℝ) / 10 ^ 20 - (x : ℝ) / 10 ^ 20 / 10 ^ 20| ≤ 1 / 10 ^ 20 := by
  have h := Int.mul_ediv_add_emod x (10 ^ 20)
  have l := Int.emod_nonneg x (b := 10 ^ 20) (by norm_num)
  have u := Int.emod_lt_of_pos x (b := 10 ^ 20) (by norm_num)
  have h' : (x : ℝ) = 10 ^ 20 * ((x / 10 ^ 20 : Int) : ℝ) + ((x % 10 ^ 20 : Int) : ℝ) := by exact_mod_cast h.symm
  have l' : (0 : ℝ) ≤ ((x % 10 ^ 20 : Int) : ℝ) := by exact_mod_cast l
  have u' : ((x % 10 ^ 20 : Int) : ℝ) ≤ 10 ^ 20 := by exact_mod_cast u.le
  generalize ((x / 10 ^ 20 : Int) : ℝ) = a at *
  generalize ((x % 10 ^ 20 : Int) : ℝ) = r at *
  have e : a / 10 ^ 20 - (x : ℝ) / 10 ^ 20 / 10 ^ 20 = -(r / 10 ^ 40) := by rw [h']; ring
  rw [e, abs_neg, abs_of_nonneg (by positivity), div_le_div_iff₀ (by norm_num) (by norm_num)]
  linarith

theorem phasePoint_succ (k : Nat) : ‖phasePoint (k + 1) - phasePoint k * phaseStep‖ ≤ 2 / 10 ^ 20 := by
  refine (norm_le_abs_re_add_abs_im _).trans ?_
  have a := floor_near ((phaseAt k).1 * stepCos - (phaseAt k).2 * stepSin)
  have b := floor_near ((phaseAt k).1 * stepSin + (phaseAt k).2 * stepCos)
  push_cast at a b
  have ea : (phasePoint (k + 1) - phasePoint k * phaseStep).re =
      (((phaseAt k).1 * stepCos - (phaseAt k).2 * stepSin) / 10 ^ 20 : Int) / 10 ^ 20 -
        (((phaseAt k).1 : ℝ) * stepCos - (phaseAt k).2 * stepSin) / 10 ^ 20 / 10 ^ 20 := by
    simp only [phasePoint, phaseStep, phaseAt, sub_re, mul_re]; ring
  have eb : (phasePoint (k + 1) - phasePoint k * phaseStep).im =
      (((phaseAt k).1 * stepSin + (phaseAt k).2 * stepCos) / 10 ^ 20 : Int) / 10 ^ 20 -
        (((phaseAt k).1 : ℝ) * stepSin + (phaseAt k).2 * stepCos) / 10 ^ 20 / 10 ^ 20 := by
    simp only [phasePoint, phaseStep, phaseAt, sub_im, mul_im]; ring
  rw [ea, eb]
  calc _ ≤ (1 : ℝ) / 10 ^ 20 + 1 / 10 ^ 20 := add_le_add a b
    _ ≤ _ := by norm_num

/-- The phases follow the circle. -/
theorem phasePoint_near (k : Nat) (hk : k ≤ 200) :
    ‖exp (((k * (Real.pi / 400) : ℝ) : ℂ) * I) - phasePoint k‖ ≤ k * (3 / 10 ^ 15) := by
  induction k with
  | zero =>
      have : phasePoint 0 = 1 := by
        apply Complex.ext <;> norm_num [phasePoint, phaseAt]
      simp [this]
  | succ k ih =>
      have ih := ih (by omega)
      set z := exp (((k * (Real.pi / 400) : ℝ) : ℂ) * I)
      set w := exp (((Real.pi / 400 : ℝ) : ℂ) * I)
      have hz : ‖z‖ = 1 := norm_exp_ofReal_mul_I _
      have hw : ‖w‖ = 1 := norm_exp_ofReal_mul_I _
      have hk' : (k : ℝ) ≤ 200 := by exact_mod_cast (by omega : k ≤ 200)
      have hp : ‖phasePoint k‖ ≤ 2 := by
        have := norm_sub_norm_le (phasePoint k) z
        rw [norm_sub_rev] at this
        have : (k : ℝ) * (3 / 10 ^ 15) ≤ 1 := by linarith
        linarith
      have e : exp ((((k + 1 : Nat) * (Real.pi / 400) : ℝ) : ℂ) * I) = z * w := by
        rw [← exp_add]; congr 1; push_cast; ring
      rw [e]
      have split : z * w - phasePoint (k + 1) =
          (z - phasePoint k) * w + phasePoint k * (w - phaseStep) +
            -(phasePoint (k + 1) - phasePoint k * phaseStep) := by ring
      rw [split]
      refine (norm_add₃_le ..).trans ?_
      rw [norm_mul, norm_mul, norm_neg, hw, mul_one]
      have h1 := phaseStep_near
      have h2 := phasePoint_succ k
      have h3 : ‖phasePoint k‖ * ‖w - phaseStep‖ ≤ 2 * (1 / 10 ^ 15) :=
        mul_le_mul hp h1 (norm_nonneg _) (by norm_num)
      push_cast
      linarith

theorem sineTable_phases : ∀ k ≤ 200,
    |sineTable.getD k 0 * 10 ^ 20 - 539426816 * (phaseAt k).2| ≤ 51 * 10 ^ 18 := by decide +kernel

/-- The table's entries lie within one unit of the sine (R106, log 23). -/
theorem sineTable_near (k : Nat) (hk : k ≤ 200) :
    |(sineTable.getD k 0 : ℝ) - 539426816 * Real.sin (k * (Real.pi / 400))| ≤ 1 := by
  have h1 := (abs_im_le_norm _).trans (phasePoint_near k hk)
  rw [sub_im, exp_ofReal_mul_I_im] at h1
  have h2 : |(sineTable.getD k 0 : ℝ) * 10 ^ 20 - 539426816 * ((phaseAt k).2 : ℝ)| ≤ 51 * 10 ^ 18 := by
    exact_mod_cast sineTable_phases k hk
  have hk' : (k : ℝ) ≤ 200 := by exact_mod_cast hk
  have e : (phasePoint k).im = ((phaseAt k).2 : ℝ) / 10 ^ 20 := rfl
  rw [e] at h1
  rw [abs_le] at h1 h2 ⊢
  constructor <;> linarith [h1.1, h1.2, h2.1, h2.2]

/-- The sine of any phase within one unit (R106). -/
theorem sineAt_near (k : Nat) : |(sineAt k : ℝ) - 539426816 * Real.sin (k * (Real.pi / 400))| ≤ 1 := by
  have hr : Real.sin (k * (Real.pi / 400)) = Real.sin ((k % 800 : Nat) * (Real.pi / 400)) := by
    have : (k : ℝ) * (Real.pi / 400) = (k % 800 : Nat) * (Real.pi / 400) + (k / 800 : Nat) * (2 * Real.pi) := by
      have := congrArg (Nat.cast (R := ℝ)) (Nat.mod_add_div k 800)
      push_cast at this ⊢
      rw [← this]; ring
    rw [this, Real.sin_add_nat_mul_two_pi]
  rw [hr]
  unfold sineAt
  generalize hm : k % 800 = m
  have hlt : m < 800 := hm ▸ Nat.mod_lt _ (by norm_num)
  dsimp only
  split
  · exact sineTable_near m ‹_›
  · split
    · have h := sineTable_near (400 - m) (by omega)
      have : Real.sin ((400 - m : Nat) * (Real.pi / 400)) = Real.sin (m * (Real.pi / 400)) := by
        rw [← Real.sin_pi_sub]; congr 1; rw [Nat.cast_sub ‹_›]; push_cast; ring
      rwa [this] at h
    · split
      · have h := sineTable_near (m - 400) (by omega)
        have : Real.sin ((m - 400 : Nat) * (Real.pi / 400)) = -Real.sin (m * (Real.pi / 400)) := by
          rw [← Real.sin_sub_pi]; congr 1; rw [Nat.cast_sub (by omega)]; push_cast; ring
        rw [this] at h; push_cast; rw [abs_le] at h ⊢; constructor <;> linarith [h.1, h.2]
      · have h := sineTable_near (800 - m) (by omega)
        have : Real.sin ((800 - m : Nat) * (Real.pi / 400)) = -Real.sin (m * (Real.pi / 400)) := by
          rw [← Real.sin_two_pi_sub]; congr 1; rw [Nat.cast_sub hlt.le]; push_cast; ring
        rw [this] at h; push_cast; rw [abs_le] at h ⊢; constructor <;> linarith [h.1, h.2]

end Sys2Proof
end

