-- ==== Sys2Proof/Laws/Ticks.lean ====
section
/-! SUPPORT. What one line's share of a tick can change, and how a prompt runs through a phase. -/

namespace Sys2Proof.Machine

/-- A prompt inside a phase goes down by one sample at a time (R105). -/
theorem PromptRun.next_iterate (r : PromptRun) (n : Nat) (h : n < r.left) :
    (fun o : Option PromptRun => o.bind PromptRun.next)^[n] (some r) = some { r with left := r.left - n } := by
  induction n with
  | zero => rfl
  | succ n ih =>
      rw [Function.iterate_succ_apply', ih (by omega)]
      have : 1 < r.left - n := by omega
      simp [PromptRun.next, this, Nat.sub_sub]

/-- A Tone Unit's work on a sample leaves the key down, its mark and the prompt (R96 to R102): the rows of the
key events change them. -/
theorem Tone.feed_keeps (bank : FilterBank) (x : Sample) (t : Tone) :
    let u := (t.feed bank x).1
    u.keyDown = t.keyDown ∧ u.heldMark = t.heldMark ∧ u.keySeen = t.keySeen ∧ u.prompt = t.prompt := by
  unfold Tone.feed Tone.seekKey Tone.followKey; dsimp only; repeat' split
  all_goals exact ⟨rfl, rfl, rfl, rfl⟩

namespace State

/-- A line-active input at 10 µs: its run, and the row owed once the level has held for 20 ms (R69). -/
theorem linePin_eq (s : State) (l : LineNo) (level : Bool) : s.linePin l level = { s with
    ports := s.ports.set l { s.ports[l] with
      activeRun := if level = s.ports[l].active then 0 else s.ports[l].activeRun + 1 }
    reports := s.reports ++
      if level ≠ s.ports[l].active ∧ 2000 ≤ s.ports[l].activeRun + 1 then
        [if level then .lineActiveRising l else .lineClear l]
      else [] } := by
  unfold linePin reportIf when
  by_cases h : level = s.ports[l].active
  · simp only [h, if_pos, onPort, ne_eq, not_true_eq_false, false_and, if_false, List.append_nil]
  · by_cases k : 2000 ≤ s.ports[l].activeRun + 1 <;>
      simp only [h, k, onPort, report, Config.lineActiveHold, decide_true, decide_false, if_true, if_false, ne_eq,
        not_false_eq_true, true_and, Bool.false_eq_true, List.append_nil]

/-- A sample on one line changes Tone Units, ports and the steps owed alone (R52, R65). -/
theorem lineSync_only (s : State) (l : LineNo) (x : Sample) :
    let t := s.lineSync l x
    t = { s with tones := t.tones, ports := t.ports, reports := t.reports } := by
  unfold lineSync stepPrompt; dsimp only; repeat' split
  all_goals rfl

/-- A sample on one line leaves the other lines' Tone Units and ports. -/
theorem lineSync_other (s : State) (l m : LineNo) (x : Sample) (h : m ≠ l) :
    (s.lineSync l x).tones[m] = s.tones[m] ∧ (s.lineSync l x).ports[m] = s.ports[m] := by
  have hv : l.val ≠ m.val := fun e => h (Fin.ext e.symm)
  unfold lineSync stepPrompt; dsimp only; repeat' split
  all_goals simp [onTone, onPort, report, reportAll, hv]

end State

end Sys2Proof.Machine
end

