-- ==== Sys2Proof/Tests/Slice0.lean ====
section
/-! SUPPORT. Tests: ill-formed operands refused, the spec's worked examples, and for each statement with
hypotheses a state that meets them. -/

namespace Sys2Proof.Tests

open Sys2Proof Sys2Proof.Machine

/-! ### Ill-formed operands are refused -/

def goodSlice : InSlice := ⟨zeroSlice, false, false⟩
def goodBeacon : BeaconBody := ⟨.filing, 2, false, 7, 100, 0, 0, 9⟩
def goodSnapshot : Snapshot := ⟨7, 1234, .normal, .insert, false, 5, 10, 1, 2, 300, 2⟩
def goodOffer : OfferBody := ⟨7, 1234, .normal, false, 10, 2, 300⟩
def goodSettings : SettingsBody := ⟨0, 0, 100, 30, 60, 20, 255, 0, 0⟩
def goodData : DataBody := ⟨7, 0, 0, 2, headerItem 1 1 .dictation ++ silenceRecord 1⟩

theorem test_wellFormed_accepted :
    [Instr.slicePeriodEnd (List.replicate 8 goodSlice), .beacon 1 goodBeacon, .beacon 62 goodBeacon,
      .numberClaimCompletes 16777214, .locate 5 9999 9 0#8, .locateAnswer 5 0#8 0 [1, 16777215],
      .fetchAccept 5 goodSnapshot, .transferData 5 goodData, .letterDataCompletes 0 goodData,
      .offer 5 goodOffer, .settings 5 63 goodSettings, .queryUnknownKind 5 1 255,
      .frameReception ⟨0#3, 0#5, 5#6, 1#6, List.replicate 248 0#8⟩, .frameAttemptFailed [.bit],
      .receiveError [.insertion, .form, .check]].all Instr.wf = true := by decide +kernel

theorem test_illFormed_stations_refused :
    [Instr.beacon 0 goodBeacon, .beacon 63 goodBeacon, .silenceTimerExpiry 0, .numberClaim 63 1,
      .claimObjection 0 1 1, .locate 63 0 1 0#8, .locateAnswer 0 0#8 0 [1], .fetch 0 1 0,
      .fetchAccept 63 goodSnapshot, .fetchRefuse 0 1 .busy, .transferData 0 goodData,
      .transferEnd 0 1 0#32, .fetchCancel 63 1 .check, .take 0 1, .released 63 1, .takeUnknown 0 1,
      .transferCheck 0 1, .checkAnswer 0 1 .settling, .offerAccept 0 1 0, .offerRefuse 63 1 0,
      .filed 0 1 0, .deliveryRejected 0 1 0 0, .offer 0 goodOffer, .settings 0 1 goodSettings,
      .settings 1 0 goodSettings, .settings 1 64 goodSettings, .queryCounters 0 1, .queryCounters 1 0,
      .queryErrorRecord 1 64, .queryLetterSummary 0 1, .queryLineStates 1 0, .queryClearCounters 63 1,
      .queryUnknownKind 5 0 9, .serviceFrameDiscard 0 .event].all (fun i => !i.wf) = true := by decide

theorem test_illFormed_numbers_refused :
    [Instr.numberClaimCompletes 0, .numberClaimCompletes 16777215, .numberClaim 5 0,
      .numberClaim 5 16777216, .claimObjection 5 0 1, .claimObjection 5 1 256, .objectionWindowExpiry 0,
      .locate 5 10000 1 0#8, .locate 5 0 0 0#8, .locate 5 0 10 0#8, .locateAnswer 5 0#8 10000 [1],
      .locateAnswer 5 0#8 0 [], .locateAnswer 5 0#8 0 [0], .locateAnswer 5 0#8 0 (List.replicate 9 1),
      .fetch 5 0 0, .fetch 5 1 10000, .fetchRefuse 5 0 .busy, .transferEnd 5 0 0#32,
      .fetchCancel 5 0 .check, .take 5 0, .released 5 0, .takeUnknown 5 0, .transferCheck 5 0,
      .takeTimerExpiry 0, .checkAnswer 5 0 .settling, .offerAccept 5 0 0, .offerAccept 5 1 4,
      .offerRefuse 5 1 256, .offerRefuse 5 0 0, .filed 5 0 0, .filed 5 1 4, .deliveryRejected 5 0 0 0,
      .deliveryRejected 5 1 4 0, .deliveryRejected 5 1 0 256, .queryUnknownKind 5 1 4,
      .queryUnknownKind 5 1 256].all (fun i => !i.wf) = true := by decide

theorem test_illFormed_contents_refused :
    [Instr.slicePeriodEnd [goodSlice], .slicePeriodEnd (List.replicate 8 ⟨[], false, false⟩),
      .beacon 5 { goodBeacon with state := 256 }, .beacon 5 { goodBeacon with next := 16777216 },
      .beacon 5 { goodBeacon with capacity := 65536 }, .beacon 5 { goodBeacon with held := 256 },
      .beacon 5 { goodBeacon with closed := 256 }, .beacon 5 { goodBeacon with seconds := 4294967296 },
      .fetchAccept 5 { goodSnapshot with number := 0 }, .fetchAccept 5 { goodSnapshot with author := 10000 },
      .fetchAccept 5 { goodSnapshot with length := 45001 }, .fetchAccept 5 { goodSnapshot with cursor := 11 },
      .fetchAccept 5 { goodSnapshot with passCount := 256 },
      .fetchAccept 5 { goodSnapshot with records := 8193 },
      .fetchAccept 5 { goodSnapshot with bytes := 16777216 },
      .fetchAccept 5 { goodSnapshot with blocks := 65536 },
      .transferDataCompletes 0 { goodData with number := 0 },
      .transferData 5 { goodData with record := 65536 }, .transferData 5 { goodData with slice := 256 },
      .transferData 5 { goodData with items := 256 },
      .transferData 5 { goodData with bytes := List.replicate 242 0#8 },
      .letterDataCompletes 0 { goodData with bytes := List.replicate 241 0#8 },
      .letterDataCompletes 0 { goodData with number := 0 },
      .offer 5 { goodOffer with number := 0 }, .offer 5 { goodOffer with author := 10000 },
      .offer 5 { goodOffer with length := 65536 }, .offer 5 { goodOffer with records := 65536 },
      .offer 5 { goodOffer with bytes := 16777216 }, .settings 5 1 { goodSettings with tier := 4 },
      .settings 5 1 { goodSettings with errMode := 4 }, .settings 5 1 { goodSettings with pauseCap := 256 },
      .settings 5 1 { goodSettings with autoPause := 256 },
      .settings 5 1 { goodSettings with holdLimit := 256 },
      .settings 5 1 { goodSettings with pacingGap := 256 },
      .settings 5 1 { goodSettings with lineMask := 256 },
      .settings 5 1 { goodSettings with floor := 16777216 },
      .settings 5 1 { goodSettings with preferred := 64 },
      .frameReception ⟨0#3, 0#5, 5#6, 1#6, List.replicate 249 0#8⟩, .frameAttemptFailed [],
      .frameAttemptFailed [.stuck], .receiveError [], .receiveError [.acknowledge]].all
      (fun i => !i.wf) = true := by decide +kernel

/-! ### The spec's worked examples -/

/-- The six samples of section 3.8 at tier B and at tier C. -/
theorem test_coder_six_samples :
    (codeSamples .b .zero [40, 100, 90, -30, -35, 0]).2 = ⟨2, 5⟩ ∧
      (codeSamples .c .zero [40, 100, 90, -30, -35, 0]).2 = ⟨-1, 4⟩ ∧
      (codeSamples .b .zero [40, 100, 90, -30]).2 = ⟨22, 4⟩ ∧
      sampleCode .b ⟨92, 2⟩ (-30) = (true, 3) ∧ sampleCode .c ⟨12, 5⟩ 0 = (true, 0) := by decide

/-- The first, second and thirteenth commits of section 1.11. -/
theorem test_chain_insert :
    let s1 : SegRec := ⟨7, 0, 40, 1, .dictation⟩
    let s2 : SegRec := ⟨9, 0, 30, 1, .dictation⟩
    let s1a : SegRec := ⟨7, 0, 25, 1, .dictation⟩
    let s1b : SegRec := ⟨7, 25, 15, 1, .dictation⟩
    let p : Pass := ⟨2, .insert, .dictation⟩
    let x : Letter := { Letter.new 7 0 .open (some 2) none with chain := [s1, s2], cursor := 25 }
    let y : Letter := { x with chain := [s1a, ⟨12, 0, 12, 2, .dictation⟩, s1b, s2], cursor := 37 }
    chainEdit x p 12 0 = ⟨[s1a, ⟨12, 0, 1, 2, .dictation⟩, s1b, s2], 2, some 7, true, none⟩ ∧
      chainEdit y p 12 12 = ⟨[s1a, ⟨12, 0, 13, 2, .dictation⟩, s1b, s2], 0, none, false, none⟩ ∧
      chainEdit y p 13 0 =
        ⟨[s1a, ⟨12, 0, 12, 2, .dictation⟩, ⟨13, 0, 1, 2, .dictation⟩, s1b, s2], 1, none, true, none⟩ := by
  decide

/-- The first and third commits of section 1.12, and its commit 14. -/
theorem test_chain_overwrite :
    let t1a : SegRec := ⟨20, 0, 7, 1, .dictation⟩
    let t2 : SegRec := ⟨31, 0, 4, 2, .dictation⟩
    let t3 : SegRec := ⟨20, 10, 6, 1, .dictation⟩
    let p : Pass := ⟨3, .overwrite, .dictation⟩
    let x : Letter := { Letter.new 7 0 .open (some 2) none with
      chain := [⟨20, 0, 10, 1, .dictation⟩, t2, t3], cursor := 7 }
    let y : Letter := { x with chain := [t1a, ⟨40, 0, 2, 3, .dictation⟩, ⟨20, 9, 1, 1, .dictation⟩, t2, t3], cursor := 9 }
    let z : Letter := { x with chain := [t1a, ⟨40, 0, 13, 3, .dictation⟩], cursor := 20 }
    chainEdit x p 40 0 =
        ⟨[t1a, ⟨40, 0, 1, 3, .dictation⟩, ⟨20, 8, 2, 1, .dictation⟩, t2, t3], 2, some 20, true, none⟩ ∧
      chainEdit y p 40 2 = ⟨[t1a, ⟨40, 0, 3, 3, .dictation⟩, t2, t3], 0, none, false, some 20⟩ ∧
      chainEdit z p 40 13 = ⟨[t1a, ⟨40, 0, 14, 3, .dictation⟩], 0, none, false, none⟩ := by decide

/-- The tiers of section 2.8. -/
theorem test_pressure_hysteresis :
    [(Tier.a, 24575), (.a, 24576), (.b, 24575), (.b, 20480), (.b, 20479), (.b, 28672), (.c, 24576),
      (.c, 24575)].map (fun x => pressureAfter x.1 x.2) = [.a, .b, .b, .b, .a, .c, .c, .b] := by decide

/-- The refills of steps 6 and 8 of section 2.7. -/
theorem test_credit_refill :
    Segment.refill #v[128, 128, 127, 128, 125, 128, 128, 0] = #v[128, 128, 128, 128, 125, 128, 128, 0] ∧
      Segment.refill #v[128, 128, 128, 128, 125, 128, 128, 0] = #v[128, 128, 128, 128, 126, 128, 128, 0] ∧
      Segment.refill #v[128, 128, 128, 128, 128, 128, 128, 0] = #v[128, 128, 128, 128, 128, 128, 128, 1] := by
  decide

/-- The fault counts and link states of section 6.7. -/
theorem test_fault_counts :
    [68, 92, 100, 124, 132, 188, faultUp 8 252, 7 * 8].map LinkState.ofFault =
      [.normal, .normal, .caution, .caution, .muted, .muted, .detached, .normal] := by decide

/-- The Control Queue of section 6.8: the oldest Event frame goes, and then an event is lost. -/
theorem test_full_queue :
    let e : Nat → QFrame := fun k => ⟨61, .event 1 (BitVec.ofNat 16 k) 0#32 [], 0⟩
    let p : Nat → QFrame := fun k => ⟨5, .take k, 0⟩
    let b : Bus := { State.reset.bus with
      link := { Link.reset with control := [p 1, e 1, e 2, e 3, p 2] ++ (List.range 11).map fun k => e (k + 4) }
      ctl := { State.reset.bus.ctl with eventDest := some 61 } }
    let n : QFrame := ⟨63, .numberClaim 9, 0⟩
    (Bus.place n b).link.control =
        [p 1, e 2, e 3, p 2] ++ ((List.range 11).map fun k => e (k + 4)) ++ [n] ∧
      (Bus.place n b).counters.eventsLost = 1#32 ∧
      (Bus.raise .stuckBus (Bus.place n b)).link = (Bus.place n b).link ∧
      (Bus.raise .stuckBus (Bus.place n b)).counters.eventsLost = 2#32 := by decide

/-! ### States for the witnesses below -/

/-- What a command answers, as a state. -/
def after : Result → State
  | .next s => s
  | _ => .reset

/-- Station 1, ACTIVE. -/
def act : State :=
  State.reset.onBus fun b => { b with ctl := { b.ctl with state := .active, listen := none } }

/-- Letter 7 of author 1234 in a state, with three slices in one record. -/
def letter (st : LetterState) : Letter :=
  { Letter.new 7 1234 st none none with chain := [⟨0, 0, 3, 1, .dictation⟩] }

/-- Line 0 in a state, with a letter in entry 3 attached. -/
def works (st : LineState) (x : Letter) : State :=
  (act.setLetter 3 (some x)).onLine 0 fun c => { c with state := st, attached := some 3 }

/-- Line 0 in a state, with author 1234. -/
def lineIn (st : LineState) : State := act.onLine 0 fun c => { c with state := st, author := some 1234 }

/-- A key down on line 0, recognised there. -/
def keyed (s : State) (k : Key) : State :=
  (s.onTone 0 fun t => { t with keyDown := some k }).onLine 0 fun c => { c with key := some k }

/-- A present peer of a class. -/
def heard (s : State) (st : Station) (c : StationClass) : State :=
  { s with peers := s.peers ++ [⟨st, c, { goodBeacon with cls := c }, 0, true⟩] }

/-- Entry 3 holds a letter. -/
def holds (st : LetterState) : State := act.setLetter 3 (some (letter st))

/-- Line 0 records at a cursor into letter 7, whose three slices of silence stand in its filling block. -/
def passing (hold : List HoldSlice) (cursor : Nat) : State :=
  let x := { letter .open with line := some 0, passCount := 1, pass := some ⟨1, .insert, .dictation⟩, cursor := cursor }
  let b : Block := ⟨0, 1, 1, 0, 3, 2, 3, some (.line 0)⟩
  ((works .recording x).onLine 0 fun c => { c with hold := hold, filling := some 0 }).onSeg fun g =>
    { g with blocks := [b], mem := Memory.writeBytes [] 0 (silenceRecord 3), poolFree := 49151 }

/-- A coded slice of silence, and one of sound. -/
def quiet : HoldSlice := ⟨.silence, false, false, .zero⟩
def loud : HoldSlice := ⟨.voiced .c .zero (List.replicate 40 0#8), false, true, .zero⟩

/-- The incoming transfer of letter 7 from station 12, with a snapshot or without, at a position. -/
def taking (snap : Option Snapshot) (slice : Nat) (header : Option RepackHeader) : State :=
  ((holds .transitIn).onLine 0 fun c => { c with state := .fetch, fetchRef := some 3 }).onXfer fun x =>
    { x with incoming := some ⟨3, 7, 12, snap, 0, slice, header, crc32Start, 1, 0⟩ }

/-- A letter lent to station 12, in a phase. -/
def lending (ph : OutPhase) : State :=
  (act.setLetter 3 (some { letter .transitOut with partner := some 12 })).onXfer fun x =>
    { x with outgoing := some ⟨3, 7, 12, ph, 0, 0, crc32Start, some 1, true, 5⟩ }

/-- A delivery of letter 7 to filing station 40 with tag 2, in a phase. -/
def progressAt (record : Nat) : Progress := ⟨record, 0, crc32Start, 40, some 2⟩
def delivery (ph : DeliveryPhase) (pending : Bool) : Active := ⟨3, 5, ph, some 1, pending, false, none⟩
def delivering (st : LetterState) (ph : DeliveryPhase) (pending : Bool) (record : Nat) : State :=
  ((heard act 40 .filing).setLetter 3 (some { letter st with progress := some (progressAt record) })).onDeliv
    fun d => { d with active := some (delivery ph pending) }

/-! ### Each statement's hypotheses are met -/

/-- Timers at their last unit, a level one unit short of 20 ms, runs of bits one short, the last sample of a
period and of a prompt; RESETN held low. -/
theorem test_meets_timersTick :
    let s : State := { act with sub10us := 99, subMs := 999 }
    let one (c : Line) : Line := { c with digitTimer := some 1, waitTimer := some 1, windTimer := some 1 }
    let p : State := heard act 12 .squeeze
    let link (v : BusView) (r d : Nat) := act.onBus (Bus.onLink fun k =>
      { k with view := v, recessiveRun := r, dominantRun := d, holdOff := some 1 })
    let det := act.onBus (Bus.onLink fun k => { k with fault := 256, recessiveRun := 15, recoveryRuns := 95 })
    ({ act with resetHeld := true } : State).resetHeld = true ∧ s.resetHeld = false ∧ 99 ≤ s.sub10us ∧
      act.sub10us < 99 ∧ 999 ≤ s.subMs ∧ ((s.onLine 0 one).lines[(0 : LineNo)]).digitTimer = some 1 ∧
      ((s.onLine 0 one).lines[(0 : LineNo)]).waitTimer = some 1 ∧
      ((s.onLine 0 one).lines[(0 : LineNo)]).windTimer = some 1 ∧
      (s.onPort 0 fun x => { x with activeRun := 1999 }).ports[(0 : LineNo)].activeRun = 1999 ∧
      (∀ x ∈ ({ p with peers := p.peers.map fun q => { q with silence := 3499 } } : State).peers,
        x.present = true ∧ x.silence = 3499) ∧
      (s.onNums fun n => { n with beacon := some 1, wait := some 1, window := [⟨7, 3, 1⟩] }).nums.wait = some 1 ∧
      (link .joining 8 0).Numbered ∧ (link .joining 8 0).startDue = none ∧
      (link .stuckWait 15 0).startDue = none ∧ (link .stuckWait 15 0).bus.link.recessiveRun = 15 ∧
      (link .idle 0 0).startDue = none ∧ (link .idle 0 0).bus.link.holdOff = some 1 ∧
      ((true && (link .joining 8 0).drives) != false) = true ∧
      ((false && (link .joining 0 63).drives) != false) = false ∧ (link .joining 0 63).bus.link.dominantRun = 63 ∧
      ((true && (link .joining 0 63).drives) != true) = false ∧ det.isDetached = true ∧ det.startDue = none ∧
      159 ≤ ({ act with frames := 159 } : State).frames ∧
      (⟨.ready, true, 1, 1⟩ : PromptRun).next = none := by decide

/-- What those ticks report, and RESETN low: the Beacon timer, a level, the bus view, a stuck event that a
disturbance brings, a station kept at its reset values. -/
theorem test_ticks_report :
    let s := { act with sub10us := 99 }.onNums fun n => { n with beacon := some 1 }
    let t := act.onPort 3 fun x => { x with activeRun := 1999 }
    let j := act.onBus (Bus.onLink fun k => { k with recessiveRun := 8 })
    let d := act.onBus (Bus.onLink fun k => { k with dominantRun := 63 })
    (s.tick (.timebase (Vector.replicate 8 false)) []).reports = [.beaconTimerExpiry] ∧
      (t.tick (.timebase (Vector.replicate 8 true)) []).reports = [.lineActiveRising 3] ∧
      (j.tick (.busBit true false) []).reports = [.busViewIdle] ∧
      (d.tick (.busBit true true) []).reports = [.stuckEvent] ∧
      (act.tick .resetLow []).resetHeld = true ∧ (act.tick .resetLow []).isNumbered = false ∧
      (act.tick .resetLow []).tick (.busBit true false) [] = act.tick .resetLow [] ∧
      (after (exec (.stationReset 1 0) (act.tick .resetLow []))).resetHeld = false ∧
      ((act.onNums fun n => { n with window := [⟨7, 3, 1⟩] }).tick
        (.timebase (Vector.replicate 8 false)) []).reports = [.objectionWindowExpiry 7] := by decide +kernel

/-- A key held at the sample of its release: held, then released (R100). -/
theorem test_held_then_released :
    let t := { Tone.reset with keyDown := some .k4, downRun := 4799, gapRun := 239 }
    (t.followKey .k4 none).2 = [.held .k4, .released .k4] ∧
      (t.followKey .k4 (some .k5)).2 = [.held .k4, .released .k4] ∧ (t.followKey .k4 (some .k4)).2 = [.held .k4] ∧
      eventRows 0 { Line.reset with state := .ready, key := some .k4 } false [.held .k4, .released .k4] =
        [.windHeld 0 .rewind, .windRelease 0 .rewind] := by decide

/-- A key at the expiry of the digit timer, and a key's prompt at the end of another: the expiry and the end
that waited are taken no more (R74, R76, R107). -/
theorem test_stale_steps_cancelled :
    let a := (lineIn .author).report (.authorDigitTimeout 0)
    let k := (lineIn .seek).report (.seekDigitTimeout 0)
    let p := ((lineIn .select).prompt 0 .accepted).report (.promptEnded 0)
    (after (exec (.authorDigit 0 5) a)).reports = [] ∧ (after (exec (.seekDigit 0 5) k)).reports = [] ∧
      (after (exec (.refusedKey 0 .k1) p)).reports = [] := by decide

/-- A level that had held for 20 ms when a reset took its report away is owed again at the next 10 µs, and not
while the report waits (R69). -/
theorem test_level_after_reset :
    let up : Vector Bool 8 := Vector.replicate 8 true
    let held (n : Nat) := act.onPort 0 fun p => { p with activeRun := n }
    let r := after (exec (.stationReset 1 0) ((held 2000).report (.lineActiveRising 0)))
    ((held 1998).tick (.timebase up) []).reports = [] ∧
      ((held 1999).tick (.timebase up) []).reports = [.lineActiveRising 0] ∧ r.reports = [] ∧
      r.ports[(0 : LineNo)].activeRun = 2000 ∧ (r.tick (.timebase up) []).reports = [.lineActiveRising 0] ∧
      1999 ≤ r.ports[(0 : LineNo)].activeRun := by decide +kernel

/-- An inserted dominant bit that its sender sees recessive is an insertion error too (R118). -/
theorem test_insertion_at_sender :
    let c : Scan := ⟨List.replicate 20 true, 7, true, true, 0⟩
    c.senderSees false true = .error [.insertion, .bit] ∧ c.push true = .error [.insertion] c ∧
      ({ c with inserted := false } : Scan).senderSees false true = .error [.bit] := by decide

theorem test_meets_steps :
    ({ act with pending := [.holdOffExpiry, .stuckEvent] } : State).pending = .holdOffExpiry :: [.stuckEvent] ∧
      act.pending = [] ∧ (act.report .stuckEvent).reports = .stuckEvent :: [] ∧ act.reports = [] ∧
      ({ act with ticks := [.busBit true false] } : State).ticks = .busBit true false :: [] ∧
      act.ticks = [] := by decide

/-- The strap readings at the ends of each clause of `ResetByStraps`, and what station 62 gets. -/
theorem test_meets_reset :
    (0 : Fin 64).val = 0 ∧ (63 : Fin 64).val = 63 ∧ (3 : Fin 4).val = 3 ∧
      ((1 : Fin 64).val ≠ 0 ∧ (62 : Fin 64).val ≠ 63 ∧ (2 : Fin 4).val ≠ 3) ∧
      (after (exec (.stationReset 62 2) act)).bus.ctl.number = some 62 ∧
      (after (exec (.stationReset 63 2) act)).bus.ctl.number = none := by decide

/-- LISTEN; a line that is high, enabled and IDLE; one that is low; one that is disabled. -/
theorem test_meets_listenEnds :
    let s := State.reset.onPort 7 fun p => { p with active := true }
    s.Listening ∧ s.ports[(7 : LineNo)].active = true ∧ s.bus.ctl.settings.enables 7 = true ∧ s.LineIn 7 .idle ∧
      s.ports[(0 : LineNo)].active = false ∧
      ({ Settings.default with lineMask := 127#8 }).enables 7 = false ∧
      ¬ (lineIn .author).LineIn 0 .idle := by decide

theorem test_meets_settings :
    let s := State.reset
    let t := s.onBus fun b => { b with ctl := { b.ctl with accepted := true } }
    s.Listening ∧ s.bus.ctl.accepted = false ∧ s.bus.ctl.number = some 1 ∧
      (∀ l : LineNo, s.LineIn l .idle ∧ s.lines[l].attached = none) ∧
      t.Listening ∧ t.bus.ctl.accepted = true ∧ t.bus.ctl.number = some 1 ∧ t.HasRoom ∧
      act.Active ∧ act.HasRoom ∧ act.bus.ctl.number = some 1 ∧ act.bus.ctl.number ≠ some 2 ∧
      act.bus.ctl.number ≠ some 63 := by decide

/-- The slice's place: in the filling block, in a new block; the three failures; a full pause. -/
theorem test_meets_commit :
    let x := fun k => { letter .open with
      line := some 0, passCount := 1, pass := some ⟨1, .insert, .dictation⟩, cursor := k }
    let p : Pass := ⟨1, .insert, .dictation⟩
    let s := passing [] 3
    let n := s.onLine 0 fun c => { c with filling := none }
    let g := n.onSeg fun g => { g with reservation := 32768, credits := Vector.replicate 8 0 }
    let long := (passing [] 0).onLetter 3 fun y => { y with chain := [⟨0, 0, 45000, 1, .dictation⟩] }
    let cap := s.onCoder 0 fun c => { c with silence := 100 }
    s.passOf 0 = some (3, x 3, p) ∧ (s.landing 0 .silence).isSome = true ∧
      (∀ b, s.landing 0 .silence = some b → b.filler = some (.line 0)) ∧ (∀ r ∈ (x 3).chain, 1 ≤ r.count) ∧
      (x 3).cursor ≤ (x 3).length ∧ s.MemoryCanonical ∧ s.TableRising ∧
      s.coders[(0 : LineNo)].silence < s.bus.ctl.settings.pauseCap ∧
      (passing [] 1).passOf 0 = some (3, x 1, p) ∧ (s.seg.trailingSilence ⟨0, 1, 1, 0, 3, 2, 3, some (.line 0)⟩).isSome = true ∧
      n.passOf 0 = some (3, x 3, p) ∧ n.landing 0 loud.coded = none ∧ n.lineMayTake 0 = true ∧
      g.landing 0 loud.coded = none ∧ g.lineMayTake 0 = false ∧
      (long.leaveHold 0 loud).2 = some .length ∧ ((s.onSeg fun g => { g with poolFree := 0 }).leaveHold 0 loud).2 = none ∧
      ((n.onSeg fun g => { g with poolFree := 0 }).leaveHold 0 loud).2 = some .chain ∧
      (g.leaveHold 0 loud).2 = some .memory ∧ (s.leaveHold 0 quiet).2 = none ∧ (s.leaveHold 0 loud).2 = none ∧
      cap.passOf 0 = some (3, x 3, p) ∧ cap.bus.ctl.settings.pauseCap ≤ cap.coders[(0 : LineNo)].silence := by
  decide +kernel

/-- A commit inside the record: split, and the slice between (R13); the invariants hold after it. -/
theorem test_commit_splits :
    let t := ((passing [] 1).leaveHold 0 quiet).1
    (t.letters[(3 : LetterIx)].map (·.chain)) =
        some [⟨0, 0, 1, 1, .dictation⟩, ⟨0, 3, 1, 1, .dictation⟩, ⟨0, 1, 2, 1, .dictation⟩] ∧
      t.seg.find 0 = some ⟨0, 3, 1, 0, 4, 2, 3, some (.line 0)⟩ ∧ t.CountsRight ∧ t.PoolRight ∧ t.CreditsRight ∧
      Memory.readBytes t.seg.mem 0 2 = silenceRecord 4 := by decide +kernel

theorem test_meets_blocksGivenAndFreed :
    let s := passing [] 3
    let n := s.onLine 0 fun c => { c with filling := none }
    let g := n.onSeg fun g => { g with reservation := 31743 }
    n.TableRising ∧ n.CreditsRight ∧ n.lines[(0 : LineNo)].filling = none ∧ n.lineMayTake 0 = true ∧
      0 < n.seg.common ∧ g.CreditsRight ∧ g.seg.common = 0 ∧ g.lineMayTake 0 = true ∧
      g.transferMayTake = true ∧ 0 < g.seg.reservation ∧ n.seg.reservation = 0 ∧ n.transferMayTake = true ∧
      (s.seg.find 0).isSome = true ∧ s.seg.credits[(0 : LineNo)] = 128 ∧
      (n.onSeg fun g => { g with credits := g.credits.set 2 5 }).CreditsRight ∧
      (n.onSeg fun g => { g with credits := g.credits.set 2 5 }).seg.credits[(2 : LineNo)] < 128 := by
  decide +kernel

/-- The answers' lengths: 48, 31 and 72 bytes of content (R201). -/
theorem test_answer_lengths :
    (State.counterBytes act.bus.counters).length = 48 ∧ act.summaryBytes.length = 31 ∧
      (allLines.flatMap act.lineBytes).length = 72 := by
  refine ⟨by decide, by decide, ?_⟩
  simp [State.lineBytes, allLines, be8, be16, be24, List.finRange]

/-- The Tone Unit's last sample before each key event, and a prompt's at each end of a phase: key 1's two filters
stay on through a sample of silence. -/
theorem test_meets_toneSamples :
    let on : Detector := ⟨[], List.replicate 40 1310720000, 0, true⟩
    let heardKey : Vector Detector 9 := ((Vector.replicate 9 Detector.reset).set 0 on).set 4 on
    let s (f : Tone → Tone) := (lineIn .author).onTone 0 fun t => f { t with detectors := heardKey }
    let t (x : State) := x.tick (.frameSync (Vector.replicate 8 0#16)) []
    let e (x : State) := (t x).tones[(0 : LineNo)]
    let run (n : Nat) := s fun x => { x with candidate := some .k1, candidateRun := n }
    let down (k : Key) (n g : Nat) := s fun x => { x with keyDown := some k, downRun := n, gapRun := g }
    let gap (n g : Nat) := (lineIn .author).onTone 0 fun x => { x with keyDown := some .k1, downRun := n, gapRun := g }
    observe (e (run 319)).detectors = some .k1 ∧ (t (run 318)).reports = [] ∧
      (t (run 319)).reports = [.authorDigit 0 1] ∧ (e (run 319)).candidateRun = 320 ∧
      (e (run 319)).toneTouched = true ∧ (e (run 319)).speech = false ∧ (lineIn .author).KeyFree 0 ∧
      observe (e (gap 5 239)).detectors = none ∧ (t (gap 5 238)).reports = [] ∧
      (t (gap 5 239)).reports = [.keyReleased 0 .k1] ∧ (e (gap 5 239)).gapRun = 240 ∧
      (t (gap 4799 239)).reports = [.keyBecomeHeld 0 .k1, .keyReleased 0 .k1] ∧
      (t (down .k1 4799 9)).reports = [.keyBecomeHeld 0 .k1] ∧ (e (down .k1 4799 9)).gapRun = 0 ∧
      (t (down .k5 7 0)).reports = [.keyReleased 0 .k5] ∧ (e (down .k5 7 0)).candidate = some .k1 ∧
      (e (down .k5 7 0)).candidateRun = 1 := by decide +kernel

/-- A prompt's phases at their ends, and its first samples (R104 to R106). -/
theorem test_prompt_phases :
    let s (r : PromptRun) := act.onTone 0 fun t => { t with prompt := some r }
    let t (x : State) := x.tick (.frameSync (Vector.replicate 8 0#16)) []
    let e (r : PromptRun) := (t (s r)).tones[(0 : LineNo)].prompt
    e ⟨.accepted, true, 1, 2⟩ = some ⟨.accepted, true, 1, 1⟩ ∧
      e ⟨.accepted, true, 1, 1⟩ = some ⟨.accepted, false, 1, 640⟩ ∧
      e ⟨.accepted, false, 1, 1⟩ = some ⟨.accepted, true, 2, 640⟩ ∧
      e ⟨.accepted, true, 2, 1⟩ = some ⟨.accepted, true, 2, 0⟩ ∧
      (t (s ⟨.accepted, true, 2, 1⟩)).reports = [.promptEnded 0] ∧
      e ⟨.wait, true, 9, 1⟩ = some ⟨.wait, false, 9, 7200⟩ ∧
      (List.range 3).map (Prompt.sample .ready) = [0#16, 8035#16, 13332#16] := by decide +kernel

theorem test_meets_queries :
    act.Active ∧ act.HasRoom ∧ act.bus.ctl.number = some 1 ∧ (heard act 61 .console).mayClear 61 = true ∧
      (heard act 61 .console).HasRoom ∧ (heard act 61 .console).Active ∧
      (heard act 40 .filing).mayClear 40 = false ∧ act.mayClear 61 = false := by decide

theorem test_meets_lineRises :
    act.Active ∧ act.bus.ctl.settings.enables 0 = true ∧ act.bus.ctl.settings.enables 7 = true ∧
      act.LineIn 0 .idle ∧ act.lines[(0 : LineNo)].digitTimer = none := by decide

theorem test_meets_lineClears :
    (works .ready (letter .open)).Active ∧ (works .ready (letter .open)).bus.ctl.settings.enables 0 = true ∧
      ¬ (works .ready (letter .open)).LineIn 0 .idle ∧ ¬ (works .ready (letter .open)).LineIn 0 .recording ∧
      (works .ready (letter .open)).Works 0 .ready 3 (letter .open) ∧
      ¬ (lineIn .author).LineIn 0 .idle ∧ (lineIn .author).lines[(0 : LineNo)].attached = none ∧
      (works .recording (letter .open)).Works 0 .recording 3 (letter .open) ∧
      (works .recording (letter .open)).lines[(0 : LineNo)].hold = [] := by decide

/-- The Hold Buffer empty and one short of full; a key seen in the period and none. -/
theorem test_meets_recordingPeriod :
    let s := works .recording (letter .open)
    let h : HoldSlice := ⟨.silence, false, false, .zero⟩
    let t := s.onLine 0 fun c => { c with hold := [h, h] }
    s.LineIn 0 .recording ∧ s.lines[(0 : LineNo)].hold.length < 3 ∧ t.LineIn 0 .recording ∧
      t.lines[(0 : LineNo)].hold.length < 3 ∧ s.tones[(0 : LineNo)].keySeen = false ∧
      (s.onTone 0 fun x => { x with keySeen := true }).tones[(0 : LineNo)].keySeen = true ∧
      ¬ act.LineIn 0 .recording ∧ ¬ act.LineIn 0 .playing ∧
      (passing [quiet, quiet, quiet] 3).LineIn 0 .recording ∧
      (passing [quiet, quiet, quiet] 3).tones[(0 : LineNo)].keySeen = false ∧
      (passing [loud, quiet, quiet] 3).lines[(0 : LineNo)].hold = [loud, quiet, quiet] ∧
      Tier.a.code = max act.bus.ctl.settings.tier.code act.seg.tier.code ∧
      (((passing [] 3).onLine 0 fun c => { c with hold := [quiet, quiet] }).leaveHold 0 quiet).2 = none ∧
      ((((passing [] 3).onSeg fun g => { g with poolFree := 0 }).onLine 0 fun c =>
        { c with hold := [quiet, quiet], filling := none }).leaveHold 0 quiet).2 = some .chain ∧
      (s.onLine 0 fun c => { c with autoRun := 1499 }).bus.ctl.settings.autoPauseSlices ≤
        (s.onLine 0 fun c => { c with autoRun := 1499 }).lines[(0 : LineNo)].autoRun + 1 := by decide +kernel

/-- The cursor at 0, at the last slice and at the length. -/
theorem test_meets_playingPeriod :
    let x := letter .open
    let y := { x with cursor := 2 }
    let z := { x with cursor := 3 }
    (works .playing x).Works 0 .playing 3 x ∧ (works .playing y).Works 0 .playing 3 y ∧
      (works .playing z).Works 0 .playing 3 z ∧ x.cursor < x.length ∧ y.cursor < y.length ∧
      z.length ≤ z.cursor ∧ (works .playing x).tones[(0 : LineNo)].prompt = none ∧
      ((works .playing x).prompt 0 .ready).tones[(0 : LineNo)].prompt ≠ none ∧
      ((works .playing x).prompt 0 .ready).Works 0 .playing 3 x := by decide

/-- The entry empty, one short of four, and full. -/
theorem test_meets_authorKeys :
    let s := lineIn .author
    let t := s.onLine 0 fun c => { c with entry := [1, 2, 3] }
    let u := s.onLine 0 fun c => { c with entry := [1, 2, 3, 4] }
    s.LineIn 0 .author ∧ s.KeyFree 0 ∧ s.lines[(0 : LineNo)].entry.length < 4 ∧ t.LineIn 0 .author ∧ t.KeyFree 0 ∧
      t.lines[(0 : LineNo)].entry.length < 4 ∧ t.lines[(0 : LineNo)].entry.length ≠ 4 ∧ u.LineIn 0 .author ∧
      u.KeyFree 0 ∧ 4 ≤ u.lines[(0 : LineNo)].entry.length ∧ u.lines[(0 : LineNo)].entry = [1, 2, 3, 4] := by
  decide

/-- A FREE entry, and a Letter Table with none. -/
theorem test_meets_newLetter :
    let s := lineIn .select
    let t : State := { s with letters := Vector.replicate 64 (some (letter .held)) }
    s.LineIn 0 .select ∧ s.KeyFree 0 ∧ s.lines[(0 : LineNo)].author = some 1234 ∧ s.freeEntry = some 0 ∧
      t.LineIn 0 .select ∧ t.KeyFree 0 ∧ t.lines[(0 : LineNo)].author = some 1234 ∧ t.freeEntry = none := by decide

theorem test_meets_seekKeys :
    let s := lineIn .seek
    let t := s.onLine 0 fun c => { c with seek := some 9 }
    (lineIn .select).LineIn 0 .select ∧ (lineIn .select).KeyFree 0 ∧ s.LineIn 0 .seek ∧ s.KeyFree 0 ∧
      s.lines[(0 : LineNo)].seek = none ∧ (1 : Digit) ≠ 0 ∧ (9 : Digit) ≠ 0 ∧ (0 : Digit) = 0 ∧ t.LineIn 0 .seek ∧
      t.KeyFree 0 ∧ t.lines[(0 : LineNo)].seek ≠ none ∧ s.lines[(0 : LineNo)].author = some 1234 ∧ s.HasRoom ∧
      (s.onLine 0 fun c => { c with digitTimer := some 1 }).lines[(0 : LineNo)].digitTimer ≠ none := by decide

theorem test_meets_keysRefused :
    (lineIn .select).KeyFree 0 ∧ (lineIn .select).LineIn 0 .select ∧ Key.k0 ≠ .kA ∧ Key.k0 ≠ .star ∧
      (lineIn .locate).LineIn 0 .locate ∧ (lineIn .fetch).LineIn 0 .fetch ∧
      (works .ready (letter .open)).LineIn 0 .ready ∧ (lineIn .locate).KeyFree 0 ∧ (lineIn .fetch).KeyFree 0 ∧
      (works .ready (letter .open)).KeyFree 0 ∧ (works .playing (letter .open)).LineIn 0 .playing ∧
      (works .playing (letter .open)).KeyFree 0 ∧ (passing [quiet, loud] 3).LineIn 0 .recording ∧
      (passing [quiet, loud] 3).KeyFree 0 := by decide

theorem test_meets_lineTimeouts :
    let run (c : Line) : Line := { c with digitTimer := some 1, waitTimer := some 1 }
    let r := (works .recording (letter .open)).onLine 0 fun c => { c with autoRun := 1500 }
    ((lineIn .author).onLine 0 run).LineIn 0 .author ∧
      ((lineIn .author).onLine 0 run).lines[(0 : LineNo)].digitTimer ≠ none ∧
      ((lineIn .fetch).onLine 0 run).LineIn 0 .fetch ∧
      ((lineIn .fetch).onLine 0 run).lines[(0 : LineNo)].waitTimer ≠ none ∧
      r.Works 0 .recording 3 (letter .open) ∧
      r.bus.ctl.settings.autoPauseSlices ≤ r.lines[(0 : LineNo)].autoRun ∧ r.lines[(0 : LineNo)].hold = [] := by decide

/-- Hold Buffers to be committed at a line clear, an auto-pause and Stop, with and without a failure. -/
theorem test_meets_flushes :
    let s := passing [quiet, loud] 3
    let e := (s.onSeg fun g => { g with poolFree := 0 }).onLine 0 fun c => { c with filling := none }
    let r (s : State) := s.onLine 0 fun c => { c with autoRun := 1500 }
    let x := { letter .open with
      line := some 0, passCount := 1, pass := some ⟨1, .insert, .dictation⟩, cursor := 3 }
    s.Works 0 .recording 3 x ∧ s.Active ∧ s.bus.ctl.settings.enables 0 = true ∧ s.KeyFree 0 ∧
      (State.flushHold 0 [quiet, loud] ((s.taken (.lineClear 0)).takeLevel 0 false)).2 = none ∧
      (State.flushHold 0 [quiet, loud] ((e.taken (.lineClear 0)).takeLevel 0 false)).2 = some .chain ∧
      (r s).bus.ctl.settings.autoPauseSlices ≤ (r s).lines[(0 : LineNo)].autoRun ∧
      (State.flushHold 0 [quiet, loud] ((r s).taken (.autoPause 0))).2 = none ∧
      (State.flushHold 0 [quiet, loud] ((r e).taken (.autoPause 0))).2 = some .chain ∧
      (State.flushHold 0 [quiet, loud] ((s.pressed 0 (.stop 0) .k2).dropTouched 0)).2 = none ∧
      (State.flushHold 0 [quiet, loud] ((e.pressed 0 (.stop 0) .k2).dropTouched 0)).2 = some .chain ∧
      (after (exec (.lineClear 0) s)).bus.counters.slicesCommitted = 2#32 ∧
      (after (exec (.stop 0) e)).Sounds 0 .refused ∧ (after (exec (.autoPause 0) (r s))).Sounds 0 .paused :=
  by decide +kernel

/-- Pass counts 254 and 255, in READY and in PLAYING. -/
theorem test_meets_recordStarts :
    let x := { letter .open with passCount := 254 }
    let y := { letter .open with passCount := 255 }
    (works .ready x).KeyFree 0 ∧ (works .ready x).Works 0 .ready 3 x ∧ x.passCount < 255 ∧
      (works .playing x).Works 0 .playing 3 x ∧ (works .ready y).Works 0 .ready 3 y ∧ 255 ≤ y.passCount := by decide

/-- Keys in RECORDING that end the pass (R82): slices to commit that fit or fail, a letter without slices. -/
theorem test_meets_keysEndPass :
    let s := passing [quiet, loud] 1
    let e := (s.onSeg fun g => { g with poolFree := 0 }).onLine 0 fun c => { c with filling := none }
    let x := { letter .open with
      line := some 0, passCount := 1, pass := some ⟨1, .insert, .dictation⟩, cursor := 1 }
    let n := works .recording { x with chain := [], cursor := 0 }
    let ends (s : State) (c : Instr) (k : Key) : Option PassFail := (s.flushAtKey 0 c k).2
    s.Works 0 .recording 3 x ∧ s.KeyFree 0 ∧ e.Works 0 .recording 3 x ∧ e.KeyFree 0 ∧
      n.Works 0 .recording 3 { x with chain := [], cursor := 0 } ∧ n.KeyFree 0 ∧
      s.deliv.active = none ∧ s.deliv.suspended = none ∧
      ends s (.play 0) .k3 = none ∧ ends e (.play 0) .k3 = some .chain ∧ ends n (.play 0) .k3 = none ∧
      ends s (.goToStart 0) .k0 = none ∧ ends e (.goToEnd 0) .kB = some .chain ∧
      ends s (.endOfLetter 0) .k9 = none ∧ ends e (.hold 0) .kD = some .chain ∧
      ends s (.discardPass 0) .kC = none ∧ ends e (.windKeyRecognised 0 .rewind) .k4 = some .chain ∧
      (after (exec (.play 0) s)).LineIn 0 .playing ∧ (after (exec (.play 0) n)).Sounds 0 .ending ∧
      (after (exec (.goToStart 0) s)).letters[(3 : LetterIx)].map (·.cursor) = some 0 ∧
      (after (exec (.goToEnd 0) s)).letters[(3 : LetterIx)].map (·.cursor) = some 5 ∧
      (after (exec (.goToEnd 0) e)).Sounds 0 .refused ∧
      (after (exec (.endOfLetter 0) s)).letters[(3 : LetterIx)].map (·.state) = some .closed ∧
      (after (exec (.endOfLetter 0) n)).letters[(3 : LetterIx)] = none ∧
      (after (exec (.hold 0) e)).Sounds 0 .accepted ∧ (after (exec (.discardPass 0) n)).Sounds 0 .refused ∧
      (after (exec (.discardPass 0) s)).letters[(3 : LetterIx)].map (·.chain) = some [] ∧
      (after (exec (.windKeyRecognised 0 .rewind) s)).LineIn 0 .ready := by decide +kernel

theorem test_meets_stopStops :
    let h : HoldSlice := ⟨.silence, true, false, .zero⟩
    let s := (works .recording (letter .open)).onLine 0 fun c => { c with hold := [h] }
    (works .playing (letter .open)).Works 0 .playing 3 (letter .open) ∧ (works .playing (letter .open)).KeyFree 0 ∧
      s.Works 0 .recording 3 (letter .open) ∧ s.KeyFree 0 ∧
      (s.lines[(0 : LineNo)].hold.filter fun h => !h.toneTouched) = [] := by decide

/-- The cursor one short of the length, and at it. -/
theorem test_meets_playStarts :
    let x := { letter .open with cursor := 2 }
    let y := { letter .open with cursor := 3 }
    (works .ready x).KeyFree 0 ∧ (works .ready x).Works 0 .ready 3 x ∧ x.cursor < x.length ∧
      (works .ready y).Works 0 .ready 3 y ∧ y.length ≤ y.cursor := by decide

theorem test_meets_cursorMoves :
    let s := keyed (works .ready (letter .open)) .k4
    let t := keyed (works .playing (letter .open)) .k5
    let u := (keyed (works .winding (letter .open)) .k4).onLine 0 fun c =>
      { c with windTimer := some 1, ret := some .ready }
    (works .ready (letter .open)).Works 0 .ready 3 (letter .open) ∧ (works .ready (letter .open)).KeyFree 0 ∧
      (works .playing (letter .open)).Works 0 .playing 3 (letter .open) ∧
      s.Works 0 .ready 3 (letter .open) ∧ s.tones[(0 : LineNo)].keyDown = some (windKey .rewind) ∧
      s.tones[(0 : LineNo)].heldMark = false ∧ s.lines[(0 : LineNo)].key = some (windKey .rewind) ∧
      t.Works 0 .playing 3 (letter .open) ∧ t.tones[(0 : LineNo)].keyDown = some (windKey .forward) ∧
      t.tones[(0 : LineNo)].heldMark = false ∧ t.lines[(0 : LineNo)].key = some (windKey .forward) ∧
      u.Works 0 .winding 3 (letter .open) ∧ u.lines[(0 : LineNo)].key = some (windKey .rewind) ∧
      u.lines[(0 : LineNo)].windTimer ≠ none := by decide

theorem test_meets_winding :
    let x := letter .open
    let y := { letter .open with cursor := 3 }
    let w (x : Letter) (r : ReturnState) := (keyed (works .winding x) .k4).onLine 0 fun c => { c with ret := some r }
    (keyed (works .ready x) .k4).tones[(0 : LineNo)].keyDown = some (windKey .rewind) ∧
      (keyed (works .ready x) .k4).lines[(0 : LineNo)].key = some (windKey .rewind) ∧
      (keyed (works .ready x) .k4).Works 0 .ready 3 x ∧
      (keyed (works .ready x) .k4).tones[(0 : LineNo)].heldMark = false ∧
      (keyed (works .playing x) .k4).Works 0 .playing 3 x ∧ (w x .ready).Works 0 .winding 3 x ∧
      (w x .ready).lines[(0 : LineNo)].ret = some .ready ∧ (w x .playing).lines[(0 : LineNo)].ret = some .playing ∧
      x.cursor < x.length ∧ (w y .playing).Works 0 .winding 3 y ∧ y.length ≤ y.cursor ∧
      (w y .playing).tones[(0 : LineNo)].keyDown = some (windKey .rewind) := by decide

theorem test_meets_markKeys :
    (works .ready (letter .open)).KeyFree 0 ∧ (works .ready (letter .open)).Works 0 .ready 3 (letter .open) ∧
      (works .recording (letter .open)).KeyFree 0 ∧
      (works .recording (letter .open)).Works 0 .recording 3 (letter .open) ∧
      ((works .recording (letter .open)).lines[(0 : LineNo)].hold.all fun h => !h.toneTouched) = true := by decide

/-- A letter of one slice and an empty one, with no delivery under way. -/
theorem test_meets_letterEnds :
    let x := { letter .open with chain := [⟨0, 0, 1, 1, .dictation⟩] }
    let y := { letter .open with chain := [] }
    (works .ready x).KeyFree 0 ∧ (works .ready x).Works 0 .ready 3 x ∧ 0 < x.length ∧
      (works .playing x).Works 0 .playing 3 x ∧ (works .playing y).Works 0 .playing 3 y ∧
      (works .ready x).deliv.active = none ∧ (works .ready x).deliv.suspended = none ∧ x.chain ≠ [] ∧
      (works .ready y).Works 0 .ready 3 y ∧ y.length = 0 ∧ y.chain = [] := by decide

/-- A letter CLOSED by a key or by its held timer while a normal delivery streams: the engine looks. -/
theorem test_meets_closedInDelivery :
    let x := { letter .open with number := 9, priority := .urgent, line := some 0 }
    let d := delivering .delivering .streaming false 0
    let s := (d.setLetter 4 (some x)).onLine 0 fun c => { c with state := .ready, attached := some 4 }
    let y := { x with state := .held, line := none, held := some 1 }
    let h := d.setLetter 4 (some y)
    s.KeyFree 0 ∧ s.Works 0 .ready 4 x ∧ 0 < x.length ∧ x.number ≠ 0 ∧ s.HasRoom ∧
      (after (exec (.endOfLetter 0) s)).stateOf 3 = some .suspended ∧
      (after (exec (.endOfLetter 0) s)).deliv.active = some ⟨4, 0, .offered, none, false, false, none⟩ ∧
      h.letters[(4 : LetterIx)] = some y ∧ y.state = .held ∧ y.held ≠ none ∧
      (after (exec (.heldTimerExpiry 4) h)).deliv.suspended = some (3, 5) := by decide +kernel

theorem test_meets_keyEvents :
    let s := keyed (works .ready (letter .open)) .k3
    s.tones[(0 : LineNo)].keyDown = some .k3 ∧ keyWind .k3 = none ∧ s.lines[(0 : LineNo)].key = some .k3 ∧
      s.tones[(0 : LineNo)].heldMark = false ∧ act.KeyFree 0 ∧ act.LineIn 0 .idle ∧
      (works .ready (letter .open)).KeyFree 0 ∧ (works .playing (letter .open)).KeyFree 0 ∧
      (works .playing (letter .open)).Works 0 .playing 3 (letter .open) := by decide

/-- A prompt with an end; a Refused over a SETTLING entry that the line waits for, and one without. -/
theorem test_meets_promptEnds :
    let r := PromptRun.start .refused
    let s := (lineIn .fetch).prompt 0 .refused
    let t := ((s.setLetter 3 (some (letter .settling))).onLine 0 fun c =>
      { c with fetchRef := some 3, waitTimer := some 1 }).onXfer fun x =>
        { x with settling := [⟨3, 7, 12, 2000⟩] }
    s.tones[(0 : LineNo)].prompt = some r ∧ r.prompt ≠ .wait ∧ s.waitsSettling 0 = false ∧
      (PromptRun.start .ready).prompt ≠ .refused ∧ t.tones[(0 : LineNo)].prompt = some r ∧ r.prompt = .refused ∧
      t.waitsSettling 0 = true ∧ ((lineIn .fetch).prompt 0 .wait).tones[(0 : LineNo)].prompt =
        some (PromptRun.start .wait) ∧ (PromptRun.start .wait).prompt = .wait := by decide

theorem test_meets_heldTimer :
    let x := { letter .held with held := some 1 }
    let y := { letter .held with held := some 1, chain := [] }
    (act.setLetter 3 (some x)).letters[(3 : LetterIx)] = some x ∧ x.state = .held ∧ x.held ≠ none ∧
      0 < x.length ∧ (act.setLetter 3 (some x)).deliv.active = none ∧
      (act.setLetter 3 (some x)).deliv.suspended = none ∧
      (act.setLetter 3 (some y)).letters[(3 : LetterIx)] = some y ∧ y.state = .held ∧ y.held ≠ none ∧
      y.length = 0 := by decide

theorem test_meets_beacons :
    let s := act.onNums fun n => { n with beacon := some 1 }
    s.nums.beacon ≠ none ∧ s.bus.link.state = .normal ∧
      (s.onBus (Bus.onLink fun k => { k with fault := 96 })).bus.link.state = .caution ∧
      (s.onBus (Bus.onLink fun k => { k with fault := 255 })).bus.link.state = .muted ∧
      act.Numbered ∧ act.bus.ctl.number ≠ some 40 ∧ act.peer 40 = none ∧
      (heard act 40 .filing).peer 40 ≠ none ∧ (heard act 40 .filing).Numbered ∧
      act.bus.ctl.number = some 1 ∧ (∀ p, (heard act 61 .console).peer 61 = some p → p.present = true) ∧
      ((heard act 61 .console).peer 61).map (·.cls) = some .console ∧
      ((heard act 5 .squeeze).peer 5).map (·.cls) = some .squeeze := by decide

/-- A console and a filing station newly present with a STRANDED letter, and restarts seen of a taker, of a
giver and of the giver of a letter that settles. -/
theorem test_meets_newPeers :
    let b : BeaconBody := { goodBeacon with cls := .squeeze, seconds := 1 }
    let t := heard (lending .streaming) 12 .squeeze
    let g := heard (taking none 0 none) 12 .squeeze
    let e := (heard (holds .settling) 12 .squeeze).onXfer fun x => { x with settling := [⟨3, 7, 12, 1⟩] }
    let gone := (heard (holds .stranded) 40 .filing).silence 40
    goodBeacon.state = 2 ∧ (holds .stranded).peer 40 = none ∧ (holds .stranded).deliv.active = none ∧
      (holds .stranded).deliv.suspended = none ∧ (gone.peer 40).map (·.present) = some false ∧
      (t.peer 12).map (fun p => decide (b.seconds < p.last.seconds)) = some true ∧
      (t.peer 12).map (·.cls) = some .squeeze ∧ t.bus.link.control.length ≤ 8 ∧
      t.xfer.outgoing.map (·.taker) = some 12 ∧ t.xfer.incoming.all (fun c => c.giver != 12) = true ∧
      g.xfer.incoming.map (·.giver) = some 12 ∧ g.xfer.outgoing.all (fun o => o.taker != 12) = true ∧
      g.fetchingLine 3 = some 0 ∧ e.xfer.settling = [⟨3, 7, 12, 1⟩] ∧ e.attachingLine 3 = none ∧
      (after (exec (.beacon 40 goodBeacon) (holds .stranded))).stateOf 3 = some .closed ∧
      (after (exec (.beacon 12 b) t)).stateOf 3 = some .held ∧ (after (exec (.beacon 12 b) g)).stateOf 3 = none ∧
      (after (exec (.beacon 12 b) e)).stateOf 3 = some .held := by decide +kernel

/-- A filing station falls silent with the active delivery, with the suspended one, and with the retry timer
running while another's delivery is suspended. -/
theorem test_meets_filingSilent :
    let s := delivering .delivering .streaming false 0
    let y := { letter .suspended with number := 8, progress := some { progressAt 0 with filing := 41 } }
    let z := { letter .suspended with number := 8, progress := some (progressAt 0) }
    let t := ((heard s 41 .filing).setLetter 4 (some y)).onDeliv fun d => { d with suspended := some (4, 6), retry := some 1 }
    let u := ((heard act 40 .filing).setLetter 4 (some z)).onDeliv fun d => { d with suspended := some (4, 6) }
    (s.peer 40).map (·.cls) = some .filing ∧ (s.silence 40).chooseFiling = none ∧ s.deliv.suspended = none ∧
      s.activeOf = some (delivery .streaming false, { letter .delivering with progress := some (progressAt 0) }, progressAt 0) ∧
      t.deliv.retry ≠ none ∧ t.deliv.suspended = some (4, 6) ∧ t.letters[(4 : LetterIx)] = some y ∧
      u.deliv.suspended = some (4, 6) ∧ (u.silence 40).chooseFiling = none ∧
      (after (exec (.silenceTimerExpiry 40) s)).stateOf 3 = some .closed ∧
      (after (exec (.silenceTimerExpiry 40) t)).stateOf 4 = some .delivering ∧
      (after (exec (.silenceTimerExpiry 40) u)).stateOf 4 = some .closed := by decide +kernel

theorem test_meets_claims :
    let w (x : LetterState) := (holds x).onNums fun n => { n with window := [⟨7, 3, 5000⟩] }
    act.Numbered ∧ act.findNumber 7 = none ∧ (holds .held).Numbered ∧ (holds .held).findNumber 7 = some 3 ∧
      (holds .held).HasRoom ∧ act.bus.ctl.number ≠ some 12 ∧ act.bus.ctl.number = some 1 ∧
      (∀ e ∈ act.nums.window, e.number ≠ 7) ∧ (w .held).bus.ctl.number = some 1 ∧
      (w .held).nums.window.find? (·.number == 7) = some ⟨7, 3, 5000⟩ ∧
      (w .held).letters[(3 : LetterIx)] = some (letter .held) ∧ (w .closed).Numbered ∧
      (letter .closed).progress = none ∧ (w .stranded).letters[(3 : LetterIx)] = some (letter .stranded) ∧
      (w .open).letters[(3 : LetterIx)] = some (letter .open) ∧ (letter .open).state = .open ∧
      (delivering .closed .offered false 0).letters[(3 : LetterIx)] =
        some { letter .closed with progress := some (progressAt 0) } ∧
      ({ letter .closed with progress := some (progressAt 0) } : Letter).progress ≠ none := by decide

theorem test_meets_claimCompletes :
    let x := { letter .open with number := 0 }
    let s := (act.setLetter 3 (some x)).onNums fun n =>
      { n with next := 16777213, link := some (16777213, true), frame := .current, waiting := [3, 4] }
    s.nums.frame = .current ∧ s.nums.link = some (16777213, true) ∧ s.nums.waiting = 3 :: [4] ∧
      s.letters[(3 : LetterIx)] = some x ∧ x.state ≠ .closed ∧ s.Active ∧ s.nums.wait = none ∧
      max s.nums.next (16777213 + 1) < 16777215 ∧ s.HasRoom ∧
      (act.onNums fun n => { n with link := some (9, true), frame := .current }).nums.waiting = [] := by decide

/-- A CLOSED head with the retry timer running, and with a delivery that can start. -/
theorem test_meets_closedHead :
    let x := { letter .closed with number := 0 }
    let s := ((heard act 40 .filing).setLetter 3 (some x)).onNums fun n =>
      { n with next := 9, link := some (9, true), frame := .current, waiting := [3] }
    let r := s.onDeliv fun d => { d with retry := some 1 }
    s.letters[(3 : LetterIx)] = some x ∧ x.state = .closed ∧ s.nums.waiting = 3 :: [] ∧ r.deliv.retry ≠ none ∧
      s.Active ∧ s.isDetached = false ∧ s.deliv = ⟨none, none, none, s.deliv.unconfirmed⟩ ∧
      s.queueHead = none ∧ s.chooseFiling = some 40 ∧ s.bus.link.control.length ≤ 8 ∧
      (after (exec (.numberClaimCompletes 9) s)).deliv.active = some ⟨3, 0, .offered, none, false, false, none⟩ := by
  decide

/-- Withdrawal runs 6 and 7, a valid link and an invalid one. -/
theorem test_meets_claimTimers :
    let s := act.onNums fun n => { n with next := 16777214, wait := some 1, waiting := [3] }
    let t (run : Nat) (valid : Bool) (waiting : List LetterIx) := act.onNums fun n =>
      { n with next := 301, link := some (300, valid), run := run, waiting := waiting }
    s.nums.wait ≠ none ∧ s.Active ∧ s.nums.waiting ≠ [] ∧ s.nums.link = none ∧ s.nums.next < 16777215 ∧
      s.HasRoom ∧ (s.onNums fun n => { n with waiting := [] }).nums.wait ≠ none ∧
      (t 0 true []).nums.link = some (300, true) ∧ (t 0 true []).nums.waiting = [] ∧
      (t 0 true [3]).nums.waiting ≠ [] ∧ (t 6 false [3]).nums.run < 7 ∧ (t 6 false [3]).Active ∧
      (t 6 false [3]).nums.wait = none ∧ (t 6 false [3]).nums.next < 16777215 ∧ (t 6 false [3]).HasRoom ∧
      (t 7 false [3]).nums.link = some (300, false) ∧ 7 ≤ (t 7 false [3]).nums.run := by decide

theorem test_meets_locateRows :
    let c : Collection := ⟨0, 5#8, 1234, 1, false, 1000, []⟩
    let d := { c with collecting := true }
    let s := (lineIn .locate).onLine 0 fun x => { x with locate := some 5#8 }
    let q := s.onXfer fun x => { x with collections := [c] }
    let w := s.onXfer fun x => { x with collections := [d] }
    (q.xfer.collections.find? fun y => y.tag == 5#8 && !y.collecting) = some c ∧
      (q.xfer.collections.find? fun y => y.line == 0 && !y.collecting) = some c ∧
      q.lines[(0 : LineNo)].locate = some c.tag ∧ (holds .held).Active ∧ (holds .held).HasRoom ∧
      (holds .held).heldNumbers 1234 ≠ [] ∧ act.heldNumbers 1234 = [] ∧ w.Active ∧
      (w.xfer.collections.find? fun y => y.tag == 5#8 && y.author == 1234 && y.collecting) = some d := by decide

/-- A pick of none, of the own letter, of a remote letter that can be asked for, and of one that
cannot, because its giver is not present. -/
theorem test_meets_picks :
    let c : Collection := ⟨0, 5#8, 1234, 1, true, 1, []⟩
    let r := { c with pairs := [(12, 9)] }
    let at0 (s : State) (c : Collection) :=
      (s.onLine 0 fun x => { x with state := .locate, locate := some 5#8 }).onXfer fun x =>
        { x with collections := [c] }
    ((at0 act c).xfer.collections.find? fun y => y.line == 0 && y.collecting) = some c ∧
      (at0 act c).lines[(0 : LineNo)].locate = some c.tag ∧ (at0 act c).pickOf c = .none ∧
      (at0 (holds .held) c).pickOf c = .own 3 ∧
      (at0 (holds .held) c).letters[(3 : LetterIx)] = some (letter .held) ∧ (letter .held).state = .held ∧
      (at0 (heard act 12 .squeeze) r).pickOf r = .remote 12 9 ∧
      (at0 (heard act 12 .squeeze) r).xfer.incoming = none ∧
      (at0 (heard act 12 .squeeze) r).findNumber 9 = none ∧
      (at0 (heard act 12 .squeeze) r).isPresent 12 = true ∧
      (at0 (heard act 12 .squeeze) r).freeEntry = some 0 ∧ (at0 (heard act 12 .squeeze) r).HasRoom ∧
      (at0 act r).pickOf r = .remote 12 9 ∧ (at0 act r).isPresent 12 = false := by decide

theorem test_meets_fetchAnswered :
    let lent := (holds .held).onXfer fun x =>
      { x with outgoing := some ⟨4, 8, 12, .accepted, 0, 0, 0#32, none, false, 0⟩ }
    act.Active ∧ act.HasRoom ∧ act.findNumber 7 = none ∧ (holds .held).findNumber 7 = some 3 ∧
      (holds .held).letters[(3 : LetterIx)] = some (letter .held) ∧ (letter .held).author ≠ 1235 ∧
      (letter .held).author = 1234 ∧ (holds .open).findNumber 7 = some 3 ∧ (letter .open).state = .open ∧
      lent.findNumber 7 = some 3 ∧ lent.xfer.outgoing ≠ none ∧ (holds .stranded).findNumber 7 = some 3 ∧
      (letter .stranded).state = .stranded ∧ (holds .held).xfer.outgoing = none ∧ (holds .held).Active ∧
      (holds .held).HasRoom := by decide

/-- A snapshot of as many blocks as common availability, and of one more. -/
theorem test_meets_fetchAccept :
    let snap := { goodSnapshot with blocks := 31744 }
    let more := { goodSnapshot with blocks := 31745 }
    (taking none 0 none).Active ∧ (taking none 0 none).HasRoom ∧ (taking none 0 none).incomingOf 7 12 ≠ none ∧
      (taking none 0 none).letters[(3 : LetterIx)] = some (letter .transitIn) ∧
      (taking none 0 none).seg.common = 31744 ∧ snap.blocks ≤ (taking none 0 none).seg.common ∧
      (taking none 0 none).seg.common < more.blocks ∧ (taking (some snap) 0 none).incomingOf 7 12 ≠ none ∧
      act.Active ∧ act.incomingOf 7 12 = none ∧ act.HasRoom := by decide

theorem test_meets_incomingFails :
    (taking none 0 none).xfer.incoming ≠ none ∧ (taking none 0 none).bus.link.control.length ≤ 8 ∧
      (taking none 0 none).fetchingLine 3 = some 0 ∧ (holds .transitIn).fetchingLine 3 = none ∧
      (taking none 0 none).Active ∧ (taking (some goodSnapshot) 0 none).xfer.incoming ≠ none ∧
      (taking (some goodSnapshot) 0 none).letters[(3 : LetterIx)] = some (letter .transitIn) := by decide

theorem test_meets_giverStreams :
    (lending .accepted).xfer.outgoing = some ⟨3, 7, 12, .accepted, 0, 0, crc32Start, some 1, true, 5⟩ ∧
      (lending .accepted).letters[(3 : LetterIx)] = some { letter .transitOut with partner := some 12 } ∧
      (lending .streaming).xfer.outgoing = some ⟨3, 7, 12, .streaming, 0, 0, crc32Start, some 1, true, 5⟩ ∧
      (letter .transitOut).chain[0]? = some ⟨0, 0, 3, 1, .dictation⟩ ∧
      (letter .transitOut).chain[1]? = none := by decide

/-- Frames past, before and at the expected position; a malformed one; no memory; a record going on. -/
theorem test_meets_transferData :
    let snap := goodSnapshot
    let inc : Nat → Option RepackHeader → Incoming := fun k h =>
      ⟨3, 7, 12, some snap, 0, k, h, crc32Start, 1, 0⟩
    let s := taking (some snap) 0 none
    let h : RepackHeader := ⟨1, 3, .dictation⟩
    let b : Block := ⟨0, 1, 1, 0, 1, 2, 3, some .transfer⟩
    let t := (taking (some snap) 1 (some h)).onSeg fun g =>
      { g with blocks := [b], mem := Memory.writeBytes [] 0 (silenceRecord 1) }
    let more : DataBody := ⟨7, 0, 1, 1, silenceRecord 2⟩
    s.Active ∧ s.HasRoom ∧ s.TableRising ∧ s.MemoryCanonical ∧ t.MemoryCanonical ∧ s.incomingOf 7 12 = some (inc 0 none) ∧
      s.letters[(3 : LetterIx)] = some (letter .transitIn) ∧ (s.checkItems snap (inc 0 none) goodData).isSome = true ∧
      s.checkItems snap (inc 0 none) { goodData with items := 3 } = none ∧ 0 < s.seg.poolFree ∧
      s.transferMayTake = true ∧ (s.onSeg fun g => { g with poolFree := 0 }).seg.poolFree = 0 ∧
      ((s.onSeg fun g => { g with poolFree := 0 }).checkItems snap (inc 0 none) goodData).isSome = true ∧
      t.TableRising ∧ t.incomingOf 7 12 = some (inc 1 (some h)) ∧
      (t.checkItems snap (inc 1 (some h)) more).isSome = true ∧ t.repackBlock 3 = some b ∧ t.WalkWhole b ∧
      (letter .transitIn).chain = [] ++ [⟨0, 0, 3, 1, .dictation⟩] ∧
      ((t.seg.records b).map (·.span)).sum = 1 ∧ h.count ≤ 250 ∧ b.refs ≠ 0 ∧
      (∀ q, t.seg.trailingSilence b = some q → 0 < q.span ∧ t.seg.bytesOf b q = silenceRecord q.span) ∧
      (s.checkItems snap (inc 0 none) ⟨7, 0, 0, 1, headerItem 1 1 .dictation⟩).map (·.slices) = some [] ∧
      (s.checkItems snap (inc 0 none) ⟨7, 0, 0, 0, []⟩).isSome = true ∧ (s.sealOwned 3).seg = s.seg := by
  decide +kernel

/-- The block of a record that goes on reads as its slices joined; a header alone leaves a FILLING block that
the next header's block takes the place of (R37, log 18). -/
theorem test_repack_blocks :
    let head : DataBody := ⟨7, 0, 0, 1, headerItem 1 3 .dictation⟩
    let first : DataBody := ⟨7, 0, 0, 2, headerItem 1 3 .dictation ++ silenceRecord 1⟩
    let more : DataBody := ⟨7, 0, 1, 1, silenceRecord 2⟩
    let s := taking (some goodSnapshot) 0 none
    let h := after (exec (.transferData 12 head) s)
    let t := after (exec (.transferData 12 first) h)
    let u := after (exec (.transferData 12 more) t)
    h.seg.blocks = [⟨0, 0, 1, 0, 0, 0, 3, some .transfer⟩] ∧ t.seg.blocks = [⟨0, 1, 1, 0, 1, 2, 3, some .transfer⟩] ∧
      u.seg.blocks = [⟨0, 1, 1, 0, 3, 2, 3, none⟩] ∧ Memory.readBytes u.seg.mem 0 2 = joinedBytes 0 [.silence 3] ∧
      u.xfer.incoming.map (fun c => (c.record, c.slice)) = some (1, 0) := by decide +kernel

theorem test_meets_transferEnd :
    let snap := { goodSnapshot with records := 0, length := 3, cursor := 3 }
    let s := taking (some snap) 0 none
    s.Active ∧ s.HasRoom ∧ s.incomingOf 7 12 = some ⟨3, 7, 12, some snap, 0, 0, none, crc32Start, 1, 0⟩ ∧
      s.letters[(3 : LetterIx)] = some (letter .transitIn) ∧ (0 : Nat) = snap.records ∧
      (letter .transitIn).length = snap.length ∧ s.fetchingLine 3 = some 0 ∧ (0#32 : Word32) = ~~~crc32Start ∧
      (1#32 : Word32) ≠ ~~~crc32Start := by decide

theorem test_meets_lettingGo :
    let x := { letter .transitOut with partner := some 12 }
    (lending .ended).Active ∧ (lending .ended).lentTo 7 12 = some 3 ∧
      (lending .ended).letters[(3 : LetterIx)] = some x ∧ (lending .ended).HasRoom ∧ act.lentTo 7 12 = none ∧
      (7, 12) ∈ (act.onXfer fun e => { e with releases := [(7, 12)] }).xfer.releases ∧
      (7, 12) ∉ act.xfer.releases ∧
      (lending .ended).xfer.outgoing = some ⟨3, 7, 12, .ended, 0, 0, crc32Start, some 1, true, 5⟩ := by decide

theorem test_meets_settles :
    let e : Settle := ⟨3, 7, 12, 1⟩
    let s := (heard (holds .settling) 12 .squeeze).onXfer fun x => { x with settling := [e] }
    let t := s.onLine 0 fun c => { c with state := .fetch, fetchRef := some 3 }
    let o := heard (lending .ended) 12 .squeeze
    s.Active ∧ s.settlingOf 7 12 = some e ∧ s.letters[(3 : LetterIx)] = some (letter .settling) ∧
      s.attachingLine 3 = none ∧ t.attachingLine 3 = some 0 ∧ t.settlingOf 7 12 = some e ∧
      s.xfer.settling.find? (fun y => y.number == 7) = some e ∧ s.isPresent 12 = true ∧ s.HasRoom ∧
      ((holds .settling).onXfer fun x => { x with settling := [e] }).isPresent 12 = false ∧
      o.xfer.outgoing = some ⟨3, 7, 12, .ended, 0, 0, crc32Start, some 1, true, 5⟩ ∧ o.isDetached = false ∧
      o.isPresent 12 = true ∧ o.HasRoom ∧ (lending .ended).isPresent 12 = false := by decide

theorem test_meets_offers :
    let x := { letter .closed with progress := some (progressAt 0) }
    let s := delivering .closed .offered false 0
    let q := (heard (holds .closed) 40 .filing).onDeliv fun d => { d with retry := some 1 }
    let y := { letter .suspended with number := 8, progress := some (progressAt 0) }
    let t := (s.setLetter 4 (some y)).onDeliv fun d => { d with suspended := some (4, 6) }
    s.activeOf = some (delivery .offered false, x, progressAt 0) ∧ s.Active ∧ s.deliv.suspended = none ∧
      t.activeOf = some (delivery .offered false, x, progressAt 0) ∧ t.deliv.suspended = some (4, 6) ∧
      t.letters[(4 : LetterIx)] = some y ∧ q.deliv.retry ≠ none ∧ q.Active ∧ q.isDetached = false ∧
      q.deliv.active = none ∧ q.deliv.suspended = none ∧ q.queueHead = some 3 ∧
      q.letters[(3 : LetterIx)] = some (letter .closed) ∧ q.chooseFiling = some 40 ∧ q.HasRoom ∧
      (act.onDeliv fun d => { d with retry := some 1 }).queueHead = none := by decide

theorem test_meets_letterStreams :
    let x := { letter .delivering with progress := some (progressAt 0) }
    let z := { letter .delivering with progress := some (progressAt 1) }
    let b : Block := ⟨0, 1, 1, 0, 3, 2, 3, none⟩
    let withBlock (s : State) := s.onSeg fun g =>
      { g with blocks := [b], mem := Memory.writeBytes [] 0 (silenceRecord 3) }
    let s := withBlock (delivering .delivering .streaming false 0)
    let urgent := { letter .closed with number := 9, priority := .urgent }
    let t := (withBlock (delivering .delivering .streaming true 0)).setLetter 4 (some urgent)
    s.activeOf = some (delivery .streaming false, x, progressAt 0) ∧
      x.chain[0]? = some ⟨0, 0, 3, 1, .dictation⟩ ∧
      ((s.seg.items ⟨0, 0, 3, 1, .dictation⟩ 0).take 1).getLast?.isSome = true ∧
      t.activeOf = some (delivery .streaming true, x, progressAt 0) ∧ t.startable = some (4, 40) ∧
      t.isUrgent 4 = true ∧ t.HasRoom ∧
      (delivering .delivering .streaming false 1).activeOf = some (delivery .streaming false, z, progressAt 1) ∧
      z.chain.length ≤ (progressAt 1).record := by decide

/-- An urgent head while a normal delivery is offered, streams with a frame of it current, and streams without
one; a look that starts nothing. -/
theorem test_meets_look :
    let x (st : LetterState) := { letter st with progress := some (progressAt 0) }
    let urgent := { letter .closed with number := 9, priority := .urgent }
    let s (st : LetterState) (ph : DeliveryPhase) := (delivering st ph false 0).setLetter 4 (some urgent)
    let q : QFrame := ⟨40, .letterEnd .normal 7 2 0#32, 5⟩
    let busy := (s .delivering .streaming).onBus (Bus.onLink fun k =>
      { k with current := some ⟨q, .delivery, 0⟩, offDelivery := some q })
    let t := s .delivering .streaming
    (s .closed .offered).deliv.active = some (delivery .offered false) ∧
      (s .closed .offered).letters[(3 : LetterIx)] = some (x .closed) ∧ (s .closed .offered).queueHead = some 4 ∧
      (s .closed .offered).Active ∧ (s .closed .offered).isDetached = false ∧
      (s .closed .offered).deliv.retry = none ∧ (s .closed .offered).deliv.suspended = none ∧
      (s .closed .offered).letters[(4 : LetterIx)] = some urgent ∧ (s .closed .offered).chooseFiling = some 40 ∧
      (x .closed).priority = .normal ∧
      (s .closed .offered).look.deliv.active = some (delivery .offered true) ∧
      busy.bus.link.current = some ⟨q, .delivery, 0⟩ ∧ busy.queueHead = some 4 ∧
      busy.look.deliv.active = some (delivery .streaming true) ∧ busy.look.bus.link.offDelivery = none ∧
      busy.look.stateOf 3 = some .delivering ∧
      t.bus.link.current = none ∧ t.HasRoom ∧ t.queueHead = some 4 ∧ t.look.stateOf 3 = some .suspended ∧
      t.look.deliv.suspended = some (3, 5) ∧
      t.look.deliv.active = some ⟨4, 0, .offered, none, false, false, none⟩ ∧
      (s .delivering .ended).look = s .delivering .ended ∧
      (delivering .delivering .streaming false 0).queueHead = none := by decide +kernel

/-- An Offer Accept with a suspension pending: the urgent head is offered, or none can be. -/
theorem test_meets_acceptPending :
    let x := { letter .closed with progress := some (progressAt 0) }
    let urgent := { letter .closed with number := 9, priority := .urgent }
    let s := (delivering .closed .offered true 0).setLetter 4 (some urgent)
    let n := delivering .closed .offered true 0
    let t := after (exec (.offerAccept 40 7 1) s)
    let u := after (exec (.offerAccept 40 7 1) n)
    s.activeOf = some (delivery .offered true, x, progressAt 0) ∧ s.queueHead = some 4 ∧ s.HasRoom ∧
      s.letters[(4 : LetterIx)] = some urgent ∧ s.chooseFiling = some 40 ∧ s.deliv.retry = none ∧
      t.stateOf 3 = some .suspended ∧ t.deliv.suspended = some (3, 5) ∧
      t.deliv.active = some ⟨4, 0, .offered, none, false, false, none⟩ ∧ t.bus.link.offDelivery = none ∧
      (∀ k : LetterIx, k ≠ 3 → (n.letters[k].all fun z => !z.queued || z.priority == .normal) = true) ∧
      u.stateOf 3 = some .delivering ∧ u.deliv = ⟨some ⟨3, 5, .streaming, none, false, true, none⟩, none, none, []⟩ ∧
      u.bus.link.offDelivery.isSome = true := by decide +kernel

/-- An end filed in each phase, one filed late, one unknown; attempts 1 and 2; the end unanswered. -/
theorem test_meets_deliveriesEnd :
    let x := { letter .delivering with progress := some (progressAt 1) }
    let s := delivering .delivering .ended false 1
    let r := s.onDeliv fun d => { d with retry := some 1 }
    let u := (heard (holds .closed) 40 .filing).onDeliv fun d => { d with unconfirmed := [⟨7, 40, 2⟩] }
    let v := (heard act 40 .filing).onDeliv fun d => { d with unconfirmed := [⟨7, 40, 2⟩] }
    s.Active ∧ s.isFiling 40 = true ∧ s.taggedFor 40 7 2 = some (delivery .ended false, x, progressAt 1) ∧
      (delivering .delivering .streaming false 1).taggedFor 40 7 2 =
        some (delivery .streaming false, x, progressAt 1) ∧ x.chain.length ≤ (progressAt 1).record ∧
      u.taggedFor 40 7 2 = none ∧ u.isFiling 40 = true ∧ ⟨7, 40, 2⟩ ∈ u.deliv.unconfirmed ∧
      ⟨7, 40, 3⟩ ∉ u.deliv.unconfirmed ∧ u.filesLate 7 = some 3 ∧
      u.letters[(3 : LetterIx)] = some (letter .closed) ∧ v.filesLate 7 = none ∧ v.taggedFor 40 7 2 = none ∧
      r.deliv.suspended = none ∧ r.deliv.retry ≠ none ∧
      r.activeOf = some (delivery .ended false, x, progressAt 1) ∧ (progressAt 1).tag = some 2 ∧
      x.attempts + 1 < 3 ∧ ¬ ({ x with attempts := 2 } : Letter).attempts + 1 < 3 := by decide

/-- The next offer after an end, the resumption, and the suspension anew by an urgent letter rejected. -/
theorem test_meets_nextDelivery :
    let s := delivering .delivering .ended false 1
    let n := s.setLetter 4 (some { letter .closed with number := 8 })
    let x := { letter .delivering with priority := .urgent, progress := some (progressAt 1) }
    let y := { letter .suspended with number := 8, progress := some (progressAt 0) }
    let r := ((s.setLetter 3 (some x)).setLetter 4 (some y)).onDeliv fun d => { d with suspended := some (4, 6) }
    let w := r.onDeliv fun d => { d with retry := some 1 }
    s.isDetached = false ∧ s.deliv.retry = none ∧ s.chooseFiling = some 40 ∧ s.bus.link.control.length ≤ 8 ∧
      s.queueHead = none ∧ n.queueHead = some 4 ∧ (letter .delivering).state = .delivering ∧
      r.taggedFor 40 7 2 = some (delivery .ended false, x, progressAt 1) ∧ r.deliv.suspended = some (4, 6) ∧
      r.letters[(4 : LetterIx)] = some y ∧ w.deliv.retry ≠ none ∧ r.queueHead = none ∧ r.bus.link.current = none ∧
      x.priority = .urgent ∧ y.priority = .normal ∧
      (after (exec (.filed 40 7 2) n)).deliv.active = some ⟨4, 0, .offered, none, false, false, none⟩ ∧
      (after (exec (.deliveryRejected 40 7 2 0) s)).deliv.active = some ⟨3, 0, .offered, none, false, false, none⟩ ∧
      (after (exec .letterEndAnswerTimeout s)).deliv.active = some ⟨3, 0, .offered, none, false, false, none⟩ ∧
      (after (exec (.filed 40 7 2) r)).deliv.active = some ⟨4, 6, .streaming, none, false, true, none⟩ ∧
      (after (exec (.deliveryRejected 40 7 2 0) w)).deliv.active = some ⟨4, 6, .streaming, none, false, true, none⟩ ∧
      (after (exec (.deliveryRejected 40 7 2 0) r)).deliv.suspended = some (4, 6) ∧
      (after (exec (.deliveryRejected 40 7 2 0) r)).stateOf 4 = some .suspended := by decide +kernel

/-- A frame handed up, one for another station; fault counts 254 and 255. -/
theorem test_meets_framesReceived :
    let s := act.onBus (Bus.onLink fun k => { k with view := .inFrame })
    let f := (Msg.take 7).toFrame 12 1
    let g := (Msg.take 7).toFrame 12 2
    s.canFollow = true ∧ s.handsUp f = some (.take 12 7) ∧ s.handsUp g = none ∧
      (s.onBus (Bus.onLink fun k => { k with fault := 254 })).bus.link.fault + 1 < 256 ∧
      (s.onBus (Bus.onLink fun k => { k with fault := 255 })).canFollow = true := by decide

theorem test_meets_framesSent :
    let q : QFrame := ⟨12, .take 7, 0⟩
    let d : QFrame := ⟨40, .letterEnd .normal 7 2 0#32, 5⟩
    let idle (f : Link → Link) := act.onBus (Bus.onLink fun k => f { k with view := .idle })
    let sends (c : Current) (fault : Nat) := act.onBus (Bus.onLink fun k =>
      { k with view := .inFrame, sending := true, current := some c, fault := fault })
    (idle fun k => { k with control := [q] }).canStart = true ∧ (idle id).bus.link.current = none ∧
      (idle id).Active ∧ State.isClaim q = false ∧ State.isClaim d = false ∧ (idle id).bus.link.control = [] ∧
      (idle id).bus.link.beacon = none ∧ (idle id).bus.link.offTransfer = none ∧
      (idle fun k => { k with offDelivery := some d }).deliveryReady d = true ∧
      (idle fun k => { k with offDelivery := some d, lastDelivery := some (5, 19) }).deliveryReady d = false ∧
      (idle fun k => { k with offDelivery := some d, lastDelivery := some (5, 20) }).deliveryReady d = true ∧
      (idle fun k => { k with current := some ⟨q, .control, 3⟩ }).canStart = true ∧
      (sends ⟨q, .control, 14⟩ 247).Numbered ∧ (sends ⟨q, .control, 14⟩ 247).bus.link.sending = true ∧
      247 + 8 < 256 ∧ 14 + 1 < 16 ∧
      (sends ⟨⟨63, .numberClaim 9, 0⟩, .control, 15⟩ 0).bus.link.current =
        some ⟨⟨63, .numberClaim 9, 0⟩, .control, 15⟩ ∧
      255 + 8 ≥ 256 ∧ (sends ⟨q, .control, 0⟩ 248).bus.link.fault + 8 ≥ 256 := by decide

/-- A claim at the head of the queue: it starts, it is withdrawn, it is made anew. -/
theorem test_meets_claimStarts :
    let q : QFrame := ⟨63, .numberClaim 9, 0⟩
    let s (valid : Bool) (w : List LetterIx) := (act.onBus (Bus.onLink fun k =>
      { k with view := .idle, control := [q] })).onNums fun n =>
        { n with next := 10, link := some (9, valid), frame := .queued, waiting := w, run := 6 }
    (s true [3]).canStart = true ∧ (s true [3]).Active ∧ (s true [3]).bus.link.control = q :: [] ∧
      (s true [3]).nums.link = some (9, true) ∧ (s false []).nums.waiting = [] ∧ (s false [3]).nums.run < 7 ∧
      (s false [3]).nums.wait = none ∧ (s false [3]).nums.next < 16777215 ∧
      (after (exec .transmitArbiterChoose (s true [3]))).nums.frame = .current ∧
      (after (exec .transmitArbiterChoose (s false []))).bus.link.control = [] ∧
      (after (exec .transmitArbiterChoose (s false [3]))).nums.link = some (10, true) ∧
      (after (exec .transmitArbiterChoose (s false [3]))).bus.link.sending = true := by decide +kernel

/-- LISTEN with a Settings Refused behind another frame, and with none; a Number Claim that starts again, is
withdrawn, gives up for 100 ms, and is made anew. -/
theorem test_meets_listenAndReattempt :
    let r : QFrame := ⟨61, .settingsRefused .alreadySet, 0⟩
    let e : QFrame := ⟨61, .event 1 0#16 0#32 [], 0⟩
    let l (k : List QFrame) := State.reset.onBus (Bus.onLink fun x => { x with view := .idle, control := k })
    let t := after (exec .transmitArbiterChoose (l [e, r, e]))
    let c : Current := ⟨⟨63, .numberClaim 9, 0⟩, .control, 3⟩
    let s (valid : Bool) (w : List LetterIx) (run : Nat) := (act.onBus (Bus.onLink fun k =>
      { k with view := .idle, current := some c })).onNums fun n =>
        { n with next := 10, link := some (9, valid), frame := .current, waiting := w, run := run }
    let again (x : State) := after (exec .currentFrameReattempt x)
    (l [e, r, e]).canStart = true ∧ (l [e, r, e]).Listening ∧ (l [e, r, e]).bus.link.current = none ∧
      r.msg.kind = 0x18 ∧ e.msg.kind ≠ 0x18 ∧ t.bus.link.control = [e, e] ∧
      t.bus.link.current = some ⟨r, .control, 0⟩ ∧ (l [e]).canStart = true ∧
      (s true [3] 2).canStart = true ∧ (again (s true [3] 2)).bus.link.current = some c ∧
      (again (s true [3] 2)).bus.link.sending = true ∧ (again (s true [3] 2)).nums.run = 0 ∧
      (s false [] 2).canStart = true ∧ (again (s false [] 2)).bus.link.current = none ∧
      (again (s false [] 2)).nums.link = none ∧ (again (s false [3] 7)).nums.wait = some 100 ∧
      (again (s false [3] 7)).bus.link.current = none ∧ (s false [3] 6).Active ∧
      (again (s false [3] 6)).bus.link.current = some ⟨⟨63, .numberClaim 10, 0⟩, .control, 0⟩ ∧
      (again (s false [3] 6)).nums.link = some (10, true) := by decide +kernel

/-- A success in MUTED, at its edges, and a frame-abandoned event with a destination. -/
theorem test_meets_mutedAndTold :
    let q : QFrame := ⟨12, .take 7, 0⟩
    let sends (fault fails : Nat) := (act.onBus (Bus.onLink fun k =>
      { k with view := .inFrame, sending := true, current := some ⟨q, .control, fails⟩, fault := fault })).onBus
        fun b => { b with ctl := { b.ctl with eventDest := some 61 } }
    let off (fault : Nat) := (after (exec .frameSuccess (sends fault 0))).bus.link.holdOff
    (sends 129 0).Numbered ∧ off 127 = none ∧ off 128 = none ∧ off 129 = some 16 ∧ off 255 = some 16 ∧
      (sends 0 15).bus.link.control.length ≤ 8 ∧ (sends 0 15).bus.ctl.eventDest = some 61 ∧
      (after (exec (.frameAttemptFailed [.bit]) (sends 0 15))).bus.link.control =
        [⟨61, .event 2 1#16 0#32 [2#8, 10#8, 12#8], 0⟩] ∧
      (⟨61, .event 2 2#16 0#32 [2#8, 10#8, 12#8], 0⟩ : QFrame) ∈
        (after (exec (.frameAttemptFailed [.bit]) (sends 250 15))).bus.link.control := by decide +kernel

/-- A state's Control Queue, full of protocol frames. -/
def full (s : State) : State :=
  s.onBus (Bus.onLink fun k => { k with control := List.replicate 16 ⟨12, .take 9, 0⟩ })

/-- What a state has counted as abandoned and lost, and its event sequence. -/
def lost (s : State) : Word32 × Word32 × BitVec 16 :=
  (s.bus.counters.framesAbandoned, s.bus.counters.eventsLost, s.bus.ctl.eventSeq)

/-- A Control Queue full of protocol frames meets a claim, a Locate and an Offer; an event without a
destination. -/
theorem test_meets_fullQueue :
    let w := full (act.onNums fun n => { n with wait := some 1, waiting := [3], next := 9 })
    let k := full (lineIn .seek)
    let o := full ((heard (holds .closed) 40 .filing).onDeliv fun d => { d with retry := some 1 })
    let claim := after (exec .claimWaitTimerExpiry w)
    let seek := after (exec (.seekEnter 0) k)
    let offer := after (exec .retryTimerExpiry o)
    w.QueueFull ∧ w.nums.wait ≠ none ∧ w.Active ∧ w.nums.waiting ≠ [] ∧ w.nums.link = none ∧
      claim.nums.wait = some 100 ∧ claim.nums.link = none ∧ lost claim = (1, 1, 1) ∧
      k.KeyFree 0 ∧ k.LineIn 0 .seek ∧ k.xfer.collections = [] ∧ seek.LineIn 0 .select ∧
      seek.xfer.collections = [] ∧ lost seek = (1, 1, 1) ∧ o.queueHead = some 3 ∧ o.chooseFiling = some 40 ∧
      o.deliv.retry ≠ none ∧ offer.deliv = ⟨none, none, some 1000, []⟩ ∧ lost offer = (1, 1, 1) ∧
      act.bus.ctl.eventDest = none ∧ lost (act.raise .stuckBus) = (0, 1, 1) := by decide +kernel

/-- A Control Queue full of protocol frames meets a Fetch Accept, with the Fetch's sender present and absent, and
a Fetch. -/
theorem test_meets_fullQueueMoves :
    let f := full (heard (holds .held) 12 .squeeze)
    let g := full (holds .held)
    let c : Collection := ⟨0, 5#8, 1234, 1, true, 1, [(12, 9)]⟩
    let p := full ((heard ((lineIn .locate).onLine 0 fun x => { x with locate := some 5#8 }) 12 .squeeze).onXfer
      fun x => { x with collections := [c] })
    let fetch (s : State) := after (exec (.fetch 12 7 1234) s)
    let out (s : State) := s.xfer.outgoing.map fun x => (x.phase, x.timer, x.outstanding)
    let pick := after (exec (.collectionWindowExpiry 0) p)
    f.QueueFull ∧ f.findNumber 7 = some 3 ∧ f.xfer.outgoing = none ∧ lost (fetch f) = (2, 2, 2) ∧
      out (fetch f) = some (.halted, some 2000, true) ∧ g.isPresent 12 = false ∧ lost (fetch g) = (1, 1, 1) ∧
      out (fetch g) = some (.halted, some 2000, false) ∧
      (p.xfer.collections.find? fun y => y.line == 0 && y.collecting) = some c ∧
      p.pickOf c = .remote 12 9 ∧ p.fetchingLine 0 = none ∧ p.freeEntry = some 0 ∧ p.findNumber 9 = none ∧
      p.isPresent 12 = true ∧ pick.letters = p.letters ∧ pick.LineIn 0 .select ∧ pick.Sounds 0 .refused ∧
      lost pick = (2, 3, 3) ∧ pick.xfer.incoming = none := by decide +kernel

/-- A 16th failure of each kind of frame that has an owner, and an entry into DETACHED. -/
theorem test_meets_abandoned :
    let sends (s : State) (q : QFrame) (src : Source) (fails fault : Nat) := s.onBus (Bus.onLink fun k =>
      { k with view := .inFrame, sending := true, current := some ⟨q, src, fails⟩, fault := fault })
    let c : Collection := ⟨0, 5#8, 1234, 1, false, 1000, []⟩
    let l := ((lineIn .locate).onLine 0 fun x => { x with locate := some 5#8 }).onXfer fun x =>
      { x with collections := [c] }
    let d := delivering .delivering .streaming false 0
    let o := delivering .closed .offered false 0
    let fail (s : State) := after (exec (.frameAttemptFailed [.bit]) s)
    let f1 := sends l ⟨63, .locate 1234 1 5#8, 0⟩ .control 15 0
    let f2 := sends (taking none 0 none) ⟨12, .fetch 7 1234, 0⟩ .control 15 0
    let f3 := sends (heard (lending .streaming) 12 .squeeze) ⟨12, .transferEnd 7 0#32, 5⟩ .transfer 15 0
    let f4 := sends o ⟨40, .offer goodOffer, 5⟩ .control 15 0
    let f5 := sends d ⟨40, .letterEnd .normal 7 2 0#32, 5⟩ .delivery 15 0
    let f6 := sends d ⟨40, .letterEnd .normal 7 2 0#32, 5⟩ .delivery 3 250
    (Msg.transferEnd 7 0#32).kind = 0x14 ∧ (Msg.letterEnd .normal 7 2 0#32).kind = 0x16 ∧ f1.Numbered ∧
      (f1.xfer.collections.find? fun y => y.tag == 5#8 && !y.collecting) = some c ∧
      f1.lines[(0 : LineNo)].locate = some 5#8 ∧ f2.xfer.incoming.map (·.name) = some 0 ∧
      f3.xfer.outgoing.map (·.name) = some 5 ∧ f4.deliv.active = some (delivery .offered false) ∧
      f5.queueHead = none ∧ f5.chooseFiling = some 40 ∧ f5.deliv.retry = none ∧
      (fail f1).LineIn 0 .select ∧ (fail f2).xfer.incoming = none ∧
      (fail f3).xfer.outgoing.map (fun x => (x.phase, x.outstanding)) = some (.halted, true) ∧
      (fail f4).deliv.retry = some 1000 ∧ (fail f5).deliv.active = some ⟨3, 0, .offered, none, false, false, none⟩ ∧
      (fail f6).deliv.active = none ∧ (fail f6).bus.link.current = none ∧ (fail f6).isDetached = true := by
  decide +kernel

/-- A 16th failure with a delivery suspended, with a full Control Queue, and at the entry into DETACHED. -/
theorem test_meets_abandonedWide :
    let sends (s : State) (q : QFrame) (src : Source) (fault : Nat) := s.onBus (Bus.onLink fun k =>
      { k with view := .inFrame, sending := true, current := some ⟨q, src, 15⟩, fault := fault })
    let fail (s : State) := after (exec (.frameAttemptFailed [.bit]) s)
    let y := { letter .suspended with number := 8, progress := some (progressAt 0) }
    let waits (s : State) := (s.setLetter 4 (some y)).onDeliv fun d => { d with suspended := some (4, 6) }
    let busy (s : State) := s.onDeliv fun d => { d with retry := some 900 }
    let end7 : QFrame := ⟨40, .letterEnd .normal 7 2 0#32, 5⟩
    let offer : QFrame := ⟨40, .offer goodOffer, 5⟩
    let o := waits (delivering .closed .offered false 0)
    let d := waits (delivering .delivering .streaming false 0)
    let full := (taking none 0 none).onBus (Bus.onLink fun k =>
      { k with control := List.replicate 16 ⟨12, .take 9, 0⟩ })
    let fetch : QFrame := ⟨12, .fetch 7 1234, 0⟩
    let lent := heard (lending .streaming) 12 .squeeze
    let on4 (s : State) := s.letters[(4 : LetterIx)].map fun x => (x.state, x.progress.isSome)
    let back : Active := ⟨4, 6, .streaming, none, false, true, none⟩
    (sends o offer .control 0).bus.link.control.length ≤ 8 ∧ ownerPlaces offer.msg = false ∧
      ownerActs (Msg.take 7) = false ∧ (fail (sends o offer .control 0)).deliv = ⟨some back, none, some 1000, []⟩ ∧
      on4 (fail (sends o offer .control 0)) = some (.delivering, true) ∧ (busy d).deliv.retry ≠ none ∧
      (sends (busy d) end7 .delivery 0).activeOf.isSome = true ∧
      (fail (sends (busy d) end7 .delivery 0)).deliv = ⟨some back, none, some 900, []⟩ ∧
      (fail (sends full fetch .control 0)).bus.counters.framesAbandoned = 2#32 ∧
      (fail (sends act ⟨12, .take 7, 0⟩ .control 250)).bus.link.fault = 256 ∧
      (fail (sends act ⟨63, .numberClaim 9, 0⟩ .control 250)).nums.wait = some 100 ∧
      (fail (sends (taking none 0 none) fetch .control 250)).xfer.incoming = none ∧
      (fail (sends (taking none 0 none) fetch .control 250)).LineIn 0 .select ∧
      (fail (sends lent ⟨12, .transferEnd 7 0#32, 5⟩ .transfer 250)).xfer.outgoing.map (fun x => (x.phase, x.timer)) =
        some (.halted, some 2000) ∧
      (fail (sends lent ⟨12, .transferEnd 7 0#32, 5⟩ .transfer 250)).bus.link.control.length ≤ 2 ∧
      (fail (sends o offer .control 250)).deliv = ⟨none, none, some 1000, []⟩ ∧
      on4 (fail (sends o offer .control 250)) = some (.closed, false) ∧
      (fail (sends d end7 .delivery 250)).deliv = ⟨none, none, none, []⟩ ∧
      on4 (fail (sends d end7 .delivery 250)) = some (.closed, false) ∧
      (fail (sends d end7 .delivery 250)).bus.link.current = none ∧
      (fail (sends d end7 .delivery 250)).bus.link.offDelivery = none := by decide +kernel

theorem test_meets_linkEvents :
    let s := act.onBus (Bus.onLink fun k => { k with fault := 256 })
    s.bus.link.fault = 256 ∧ s.xfer.outgoing = none ∧ s.queueHead = none ∧ act.Numbered ∧
      act.bus.link.fault + 1 < 256 ∧ act.bus.link.view = .joining ∧
      (act.onBus (Bus.view .errorWait)).bus.link.view = .errorWait ∧
      (act.onBus (Bus.view .stuckWait)).bus.link.view = .stuckWait := by decide

/-- A recovery with a halted transfer, and one with a letter to deliver. -/
theorem test_meets_recovery :
    let down (s : State) := s.onBus (Bus.onLink fun k => { k with fault := 256 })
    let h := down (heard (lending .halted) 12 .squeeze)
    let w := down (heard (holds .closed) 40 .filing)
    h.bus.link.fault = 256 ∧ h.bus.link.control.length ≤ 8 ∧ h.isPresent 12 = true ∧
      h.xfer.outgoing.map (·.phase) = some .halted ∧ w.Active ∧
      w.deliv = ⟨none, none, none, w.deliv.unconfirmed⟩ ∧ w.queueHead = some 3 ∧ w.chooseFiling = some 40 ∧
      (after (exec .linkRecovery h)).bus.link.control = [⟨12, .transferCheck 7, 0⟩] ∧
      (after (exec .linkRecovery w)).deliv.active = some ⟨3, 0, .offered, none, false, false, none⟩ := by
  decide +kernel

theorem test_meets_coderAgrees :
    (List.replicate 160 (0 : Int)).length = 160 ∧ (⟨-32768, 63⟩ : Coding).index ≤ 63 ∧
      -32768 ≤ (⟨-32768, 63⟩ : Coding).predictor ∧ (⟨32767, 0⟩ : Coding).predictor ≤ 32767 := by decide +kernel

theorem test_meets_roundTrips :
    (Msg.fetchAccept goodSnapshot).wf = true ∧ (Msg.letterData .urgent true 3 goodData).wf = true ∧
      (Msg.claimObjection 16777215 255).wf = true ∧ Station.isSender 62 = true ∧ Station.isDest 63 = true ∧
      ((Msg.fetchAccept goodSnapshot).toFrame 62 63).wf = true ∧
      ((Msg.fetchAccept goodSnapshot).toFrame 62 63).read = some (.fetchAccept goodSnapshot) := by decide

/-- The invariants hold after reset, in a state with a letter in a block, and a step there answers next. -/
theorem test_meets_kept :
    let s := passing [] 3
    State.reset.MemoryCanonical ∧ State.reset.TableRising ∧ State.reset.QueueBounded ∧ State.reset.FaultBounded ∧
      State.reset.ListsBounded ∧ State.reset.UnnumberedQuiet ∧ State.reset.CountsRight ∧ State.reset.PoolRight ∧
      State.reset.CreditsRight ∧ s.MemoryCanonical ∧ s.TableRising ∧ s.CountsRight ∧ s.PoolRight ∧
      s.CreditsRight ∧ after (step s) = s ∧ after (step act) = act := by decide +kernel

end Sys2Proof.Tests
end

section
/-! The step table, and the two functions of the Coder that read it (R56 to R58). -/

namespace Sys2Proof

open Machine

theorem stepTable_length : stepTable.length = 64 := rfl

@[simp] theorem stepAt_zero : stepAt 0 = 16 := rfl

/-- The printed table follows the recurrence: all its 63 steps are compared (R56). -/
theorem stepAt_succ : ∀ i ≤ 62, stepAt (i + 1) = stepAt i + max 1 (stepAt i / 8) := by decide

/-- A code's magnitude is the difference in whole steps, at most what the tier can hold (R57). -/
theorem sampleCode_magnitude (tier : Tier) (c : Coding) (x : Int) :
    (sampleCode tier c x).2 = min tier.magnitude ((x - c.predictor).natAbs / stepAt c.index) := rfl

/-- The reconstructed sample is `m` steps and a half from the prediction, clamped; the tier has no part in
it (R58). -/
theorem reconstruct_predictor (tier : Tier) (c : Coding) (negative : Bool) (m : Nat) :
    (reconstruct tier c negative m).predictor =
      clampSample (if negative then c.predictor - (m * stepAt c.index + stepAt c.index / 2 : Nat)
        else c.predictor + (m * stepAt c.index + stepAt c.index / 2 : Nat)) := rfl

/-- Settles O54: the table's own facts, and that coding and reconstruction read it whatever the tier. -/
theorem stepTable_holds : Obligations.StepTable := by
  unfold Obligations.StepTable
  refine ⟨stepTable_length, stepAt_zero, stepAt_succ, ?coding⟩
  case coding =>
    intro tier c x negative m
    exact ⟨sampleCode_magnitude tier c x, reconstruct_predictor tier c negative m⟩

end Sys2Proof
end

section
/-! What one line's work can change: its context, its Tone Unit, its port and the steps owed. -/

namespace Sys2Proof.Machine.State

/-- Only the context, the Tone Unit and the port of line `l`, and the steps owed, may differ. -/
structure OnlyLine (l : LineNo) (s t : State) : Prop where
  rest : t = { s with lines := t.lines, tones := t.tones, ports := t.ports, reports := t.reports }
  others : ∀ m : LineNo, m ≠ l → t.lines[m] = s.lines[m] ∧ t.tones[m] = s.tones[m] ∧ t.ports[m] = s.ports[m]

namespace OnlyLine

variable {l : LineNo} {s t u : State}

theorem refl (s : State) : OnlyLine l s s := ⟨rfl, fun _ _ => ⟨rfl, rfl, rfl⟩⟩

theorem trans (h : OnlyLine l s t) (k : OnlyLine l t u) : OnlyLine l s u where
  rest := by rw [k.rest, h.rest]
  others := by
    intro m hm
    obtain ⟨hlines, htones, hports⟩ := h.others m hm
    obtain ⟨klines, ktones, kports⟩ := k.others m hm
    exact ⟨klines.trans hlines, ktones.trans htones, kports.trans hports⟩

theorem taken (c : Instr) : OnlyLine l s (s.taken c) := ⟨rfl, fun _ _ => ⟨rfl, rfl, rfl⟩⟩

/-! The line's own updates, one after the other. -/

theorem onLine (h : OnlyLine l s t) (f : Line → Line) : OnlyLine l s (t.onLine l f) :=
  h.trans ⟨rfl, fun _ hm => ⟨onLine_other t hm f, rfl, rfl⟩⟩

theorem onTone (h : OnlyLine l s t) (f : Tone → Tone) : OnlyLine l s (t.onTone l f) :=
  h.trans ⟨rfl, fun _ hm => ⟨rfl, onTone_other t hm f, rfl⟩⟩

theorem onPort (h : OnlyLine l s t) (f : Port → Port) : OnlyLine l s (t.onPort l f) :=
  h.trans ⟨rfl, fun _ hm => ⟨rfl, rfl, onPort_other t hm f⟩⟩

theorem cancel (h : OnlyLine l s t) (c : Instr) : OnlyLine l s (t.cancel c) :=
  h.trans ⟨rfl, fun _ _ => ⟨rfl, rfl, rfl⟩⟩

theorem prompt (h : OnlyLine l s t) (p : Prompt) : OnlyLine l s (t.prompt l p) :=
  ((h.cancel _).onTone _).onPort _

/-! What such work leaves. -/

theorem coders (h : OnlyLine l s t) : t.coders = s.coders := by rw [h.rest]

theorem letters (h : OnlyLine l s t) : t.letters = s.letters := by rw [h.rest]

theorem sameUnits (h : OnlyLine l s t) : SameUnits s t := by
  rw [h.rest]; exact ⟨rfl, rfl, rfl, rfl, rfl, rfl⟩

theorem sameOutside (h : OnlyLine l s t) : SameOutside s t := by
  rw [h.rest]; exact ⟨rfl, rfl, rfl, rfl, rfl, rfl, rfl, rfl, rfl⟩

theorem otherLines (h : OnlyLine l s t) : OtherLines l s t := by
  intro m hm
  obtain ⟨hlines, htones, hports⟩ := h.others m hm
  exact ⟨hlines, by rw [h.coders], htones, hports⟩

end OnlyLine

/-! ### Prompts (R105) -/

@[simp] theorem prompt_lines (s : State) (l : LineNo) (p : Prompt) : (s.prompt l p).lines = s.lines := rfl

/-- A line that asks for a prompt has it, and the rest of its Tone Unit stays. -/
@[simp] theorem prompt_tones (s : State) (l : LineNo) (p : Prompt) :
    (s.prompt l p).tones = s.tones.set l { s.tones[l] with prompt := some (.start p) } := rfl

/-- A slice being sent is cut off by a prompt (R108). -/
@[simp] theorem prompt_ports (s : State) (l : LineNo) (p : Prompt) :
    (s.prompt l p).ports = s.ports.set l { s.ports[l] with outbound := none } := rfl

theorem prompt_sounds (s : State) (l : LineNo) (p : Prompt) : (s.prompt l p).Sounds l p := by
  rw [Sounds]
  simp

/-! ### The recognition of a key (R70, R71, R97) -/

@[simp] theorem pressed_lines (s : State) (l : LineNo) (c : Instr) (k : Key) :
    (s.pressed l c k).lines = s.lines.set l { s.lines[l] with key := some k } := rfl

@[simp] theorem pressed_tones (s : State) (l : LineNo) (c : Instr) (k : Key) :
    (s.pressed l c k).tones = s.tones.set l { s.tones[l] with
      keyDown := some k
      heldMark := false
      downRun := 0
      gapRun := 0
      candidate := none
      candidateRun := 0
      keySeen := true } := rfl

theorem pressed_lineIn {s : State} {l : LineNo} {st : LineState} (c : Instr) (k : Key) (h : s.LineIn l st) :
    (s.pressed l c k).LineIn l st := by
  rw [LineIn] at h ⊢
  simpa using h

/-- With no key down, a key recognised on a line that is not IDLE acts by the line's state. -/
theorem keyRecognised_taken {s : State} {l : LineNo} (c : Instr) (k : Key) (hfree : s.KeyFree l)
    (hst : s.lines[l].state ≠ .idle) :
    (s.taken c).keyRecognised l k = (s.pressed l c k).keyActs l k := by
  have hdown : (s.taken c).tones[l].keyDown = none := hfree
  have hline : ((s.taken c).toneRecognised l k).lines[l].state ≠ .idle := hst
  unfold keyRecognised
  simp only [hdown, if_neg hline]
  rfl

/-- A key row, whose meaning is the recognition of its key, answers what the key does in the line's state. -/
theorem keyRow_acts {s : State} {l : LineNo} {c : Instr} {k : Key} {st : LineState}
    (hrow : exec c s = .next ((s.taken c).keyRecognised l k)) (hfree : s.KeyFree l) (hin : s.LineIn l st)
    (hst : st ≠ .idle) : exec c s = .next ((s.pressed l c k).keyActs l k) := by
  rw [hrow, keyRecognised_taken c k hfree (by rwa [hin])]

theorem keyActs_author {s : State} {l : LineNo} (k : Key) (h : s.LineIn l .author) :
    s.keyActs l k = s.authorKey l k := by rw [keyActs, h]

theorem keyActs_select {s : State} {l : LineNo} (k : Key) (h : s.LineIn l .select) :
    s.keyActs l k = s.selectKey l k := by rw [keyActs, h]

theorem keyActs_seek {s : State} {l : LineNo} (k : Key) (h : s.LineIn l .seek) :
    s.keyActs l k = s.seekKey l k := by rw [keyActs, h]

/-- Key `k` has been recognised on line `l`, and only the line's own parts have changed since `s`. -/
structure KeyTaken (l : LineNo) (k : Key) (s t : State) : Prop where
  only : OnlyLine l s t
  key : t.lines[l].key = some k
  keyDown : t.tones[l].keyDown = some k

theorem pressed_keyTaken (s : State) (l : LineNo) (c : Instr) (k : Key) : KeyTaken l k s (s.pressed l c k) where
  only := ((OnlyLine.taken c).onTone _).onLine _
  key := by simp
  keyDown := by simp

namespace KeyTaken

variable {l : LineNo} {k : Key} {s t : State}

theorem onLine (h : KeyTaken l k s t) (f : Line → Line) (hf : ∀ x, (f x).key = x.key) :
    KeyTaken l k s (t.onLine l f) where
  only := h.only.onLine f
  key := by rw [onLine_same, hf, h.key]
  keyDown := h.keyDown

theorem cancel (h : KeyTaken l k s t) (c : Instr) : KeyTaken l k s (t.cancel c) :=
  ⟨h.only.cancel c, h.key, h.keyDown⟩

theorem prompt (h : KeyTaken l k s t) (p : Prompt) : KeyTaken l k s (t.prompt l p) where
  only := h.only.prompt p
  key := h.key
  keyDown := by simpa using h.keyDown

theorem recognised (h : KeyTaken l k s t) : Recognised l k s t :=
  ⟨h.keyDown, h.key, h.only.otherLines, h.only.sameOutside⟩

/-- The frame of a key that works on its line alone. -/
theorem frame (h : KeyTaken l k s t) : Recognised l k s t ∧ t.letters = s.letters ∧ SameUnits s t :=
  ⟨h.recognised, h.only.letters, h.only.sameUnits⟩

/-- A prompt asked for last sounds. -/
theorem prompted (h : KeyTaken l k s t) (p : Prompt) :
    (t.prompt l p).Sounds l p ∧ Recognised l k s (t.prompt l p) ∧ (t.prompt l p).letters = s.letters ∧
      SameUnits s (t.prompt l p) :=
  ⟨prompt_sounds t l p, (h.prompt p).frame⟩

end KeyTaken

end Sys2Proof.Machine.State

namespace Sys2Proof.Machine

/-! ### Digits and keys (R73) -/

@[simp] theorem keyDigit_digitKey (d : Digit) : keyDigit (digitKey d) = some d := by
  revert d; decide

/-- The keys that are refused in AUTHOR and SEEK are neither digits nor Enter. -/
theorem keyDigit_refused {k : Key} (h : k = .kA ∨ k = .kB ∨ k = .kC ∨ k = .kD ∨ k = .star) :
    keyDigit k = none ∧ k ≠ .hash := by
  rcases h with rfl | rfl | rfl | rfl | rfl <;> exact ⟨rfl, by decide⟩

/-- Four digits make a code in the order keyed. -/
theorem authorOf_four (a b c d : Digit) :
    authorOf [a, b, c, d] = 1000 * a.val + 100 * b.val + 10 * c.val + d.val := by
  simp only [authorOf, List.foldl_cons, List.foldl_nil]
  omega

end Sys2Proof.Machine
end

section
/-! Line-active rising on an IDLE line (R72). -/

namespace Sys2Proof.Machine.State

@[simp] theorem takeLevel_lines (s : State) (l : LineNo) (level : Bool) :
    (s.takeLevel l level).lines = s.lines := rfl

@[simp] theorem takeLevel_ports (s : State) (l : LineNo) (level : Bool) :
    (s.takeLevel l level).ports = s.ports.set l { s.ports[l] with active := level, activeRun := 0 } := rfl

theorem takeLevel_only (s : State) (l : LineNo) (level : Bool) : OnlyLine l s (s.takeLevel l level) :=
  (OnlyLine.refl s).onPort _

/-- A rise that acts brings AUTHOR with an empty entry and the Ready prompt. -/
theorem riseLine_of_idle {s : State} {l : LineNo} (hact : s.Active)
    (hen : s.bus.ctl.settings.enables l = true) (hidle : s.LineIn l .idle) :
    s.riseLine l = (s.onLine l fun c => { c with state := .author, entry := [] }).prompt l .ready := by
  have hactive : s.isActive = true := by simp [isActive, hact]
  exact if_pos ⟨hactive, hen, hidle⟩

end Sys2Proof.Machine.State
end

section
/-! The keys of AUTHOR (R73). -/

namespace Sys2Proof.Machine.State

variable {s : State} {l : LineNo}

theorem authorAgain_eq (s : State) (l : LineNo) :
    s.authorAgain l = (s.onLine l fun c => { c with entry := [], digitTimer := none }).prompt l .refused := rfl

/-- One of the first four digits joins the entry. -/
theorem authorDigit_of_lt (d : Digit) (h : s.lines[l].entry.length < 4) :
    s.authorDigit l d = (s.cancel (.authorDigitTimeout l)).onLine l fun c =>
      { c with entry := c.entry ++ [d], digitTimer := some 10000 } := if_pos h

/-- A fifth digit is refused. -/
theorem authorDigit_of_le (d : Digit) (h : 4 ≤ s.lines[l].entry.length) :
    s.authorDigit l d = s.authorAgain l := if_neg (by omega)

/-- Enter with four digits makes them the author code. -/
theorem authorEnter_of_eq (h : s.lines[l].entry.length = 4) :
    s.authorEnter l = (s.onLine l fun c =>
      { c with author := some (authorOf c.entry), entry := [], digitTimer := none, state := .select }).prompt l
        .accepted := if_pos h

/-- Enter with another number of digits is refused. -/
theorem authorEnter_of_ne (h : s.lines[l].entry.length ≠ 4) : s.authorEnter l = s.authorAgain l := if_neg h

@[simp] theorem authorKey_digit (s : State) (l : LineNo) (d : Digit) :
    s.authorKey l (digitKey d) = s.authorDigit l d := by simp [authorKey]

@[simp] theorem authorKey_hash (s : State) (l : LineNo) : s.authorKey l .hash = s.authorEnter l := rfl

theorem authorKey_refused (s : State) (l : LineNo) {k : Key} (hdigit : keyDigit k = none) (hhash : k ≠ .hash) :
    s.authorKey l k = s.authorAgain l := by simp [authorKey, hdigit, hhash]

/-- A key row in AUTHOR answers what the key does there. -/
theorem keyRow_author {c : Instr} {k : Key} (hrow : exec c s = .next ((s.taken c).keyRecognised l k))
    (hfree : s.KeyFree l) (hst : s.LineIn l .author) :
    exec c s = .next ((s.pressed l c k).authorKey l k) := by
  rw [keyRow_acts hrow hfree hst (by decide), keyActs_author k (pressed_lineIn c k hst)]

/-- What every refusal in AUTHOR leaves: an empty entry, no digit timer, the Refused prompt. -/
theorem authorAgain_answers (s : State) (l : LineNo) (c : Instr) (k : Key) :
    ((s.pressed l c k).authorAgain l).lines[l] =
        { s.lines[l] with entry := [], digitTimer := none, key := some k } ∧
      ((s.pressed l c k).authorAgain l).Sounds l .refused ∧
      Recognised l k s ((s.pressed l c k).authorAgain l) ∧
      ((s.pressed l c k).authorAgain l).letters = s.letters ∧
      SameUnits s ((s.pressed l c k).authorAgain l) := by
  have htaken := (pressed_keyTaken s l c k).onLine
    (fun x => { x with entry := [], digitTimer := none }) fun _ => rfl
  rw [authorAgain_eq]
  exact ⟨by simp, htaken.prompted .refused⟩

end Sys2Proof.Machine.State
end

section
/-! Key * in SELECT, the keys of SEEK and its digit timer (R75, R76). -/

namespace Sys2Proof.Machine.State

variable {s : State} {l : LineNo}

@[simp] theorem selectKey_star (s : State) (l : LineNo) : s.selectKey l .star = s.startSeek l := rfl

theorem startSeek_eq (s : State) (l : LineNo) :
    s.startSeek l = ((s.cancel (.seekDigitTimeout l)).onLine l fun c =>
      { c with seek := none, state := .seek, digitTimer := some 5000 }).prompt l .accepted := rfl

@[simp] theorem restartSeek_lines (s : State) (l : LineNo) :
    (s.restartSeek l).lines = s.lines.set l { s.lines[l] with digitTimer := some 5000 } := rfl

theorem restartSeek_seek (s : State) (l : LineNo) : (s.restartSeek l).lines[l].seek = s.lines[l].seek := by simp

theorem KeyTaken.restartSeek {k : Key} {t : State} (h : KeyTaken l k s t) : KeyTaken l k s (t.restartSeek l) :=
  (h.cancel _).onLine _ fun _ => rfl

/-- A digit 1 to 9 with none held becomes the seek digit. -/
theorem seekDigit_of_none {d : Digit} (hd : d ≠ 0) (hnone : s.lines[l].seek = none) :
    s.seekDigit l d = (s.restartSeek l).onLine l fun c => { c with seek := some d.val } := by
  exact if_pos ⟨hd, by rw [restartSeek_seek, hnone]⟩

/-- Digit 0, or a second digit, clears the seek digit and is refused. -/
theorem seekDigit_of_refused {d : Digit} (h : d = 0 ∨ s.lines[l].seek ≠ none) :
    s.seekDigit l d = ((s.restartSeek l).onLine l fun c => { c with seek := none }).prompt l .refused := by
  refine if_neg ?_
  rintro ⟨hd, hnone⟩
  rw [restartSeek_seek] at hnone
  exact h.elim hd fun hheld => hheld hnone

@[simp] theorem seekKey_digit (s : State) (l : LineNo) (d : Digit) :
    s.seekKey l (digitKey d) = s.seekDigit l d := by simp [seekKey]

@[simp] theorem seekKey_hash (s : State) (l : LineNo) : s.seekKey l .hash = s.seekEnter l := rfl

theorem seekKey_refused (s : State) (l : LineNo) {k : Key} (hdigit : keyDigit k = none) (hhash : k ≠ .hash) :
    s.seekKey l k = (s.restartSeek l).prompt l .refused := by simp [seekKey, hdigit, hhash, refuse]

/-- A key row in SEEK answers what the key does there. -/
theorem keyRow_seek {c : Instr} {k : Key} (hrow : exec c s = .next ((s.taken c).keyRecognised l k))
    (hfree : s.KeyFree l) (hst : s.LineIn l .seek) :
    exec c s = .next ((s.pressed l c k).seekKey l k) := by
  rw [keyRow_acts hrow hfree hst (by decide), keyActs_seek k (pressed_lineIn c k hst)]

/-! ### Asking for a letter (R76, R155) -/

/-- The line's own share of a Locate request: it waits in LOCATE for the tag, its digit timer stopped. -/
def awaitLocate (s : State) (l : LineNo) (tag : BitVec 8) : State :=
  ((s.cancel (.locateQueuedTimeout l)).cancel (.collectionWindowExpiry l)).onLine l fun c =>
    { c with state := .locate, locate := some tag, digitTimer := none }

@[simp] theorem awaitLocate_lines (s : State) (l : LineNo) (tag : BitVec 8) :
    (s.awaitLocate l tag).lines =
      s.lines.set l { s.lines[l] with state := .locate, locate := some tag, digitTimer := none } := rfl

theorem KeyTaken.awaitLocate {k : Key} {t : State} (h : KeyTaken l k s t) (tag : BitVec 8) :
    KeyTaken l k s (t.awaitLocate l tag) :=
  ((h.cancel _).cancel _).onLine _ fun _ => rfl

/-- The transfer engine's share: a new collection under the next tag, in place of the line's old one. -/
def openCollection (l : LineNo) (a k : Nat) (x : Transfer) : Transfer :=
  { x with
    collections := x.collections.filter (·.line ≠ l) ++ [⟨l, x.nextTag, a, k, false, 1000, []⟩]
    nextTag := x.nextTag + 1 }

/-- A Locate request that finds room in the Control Queue is the line's share, the transfer engine's, and the
Locate at the queue's tail. -/
theorem requestLocate_of_room (a k : Nat) (hroom : s.HasRoom) :
    s.requestLocate l a k = ((s.awaitLocate l s.xfer.nextTag).onXfer (openCollection l a k)).onBus
      (Bus.push ⟨63, .locate a k s.xfer.nextTag, 0⟩) := by
  have haccepts : s.bus.accepts = true := by simp [Bus.accepts, hroom]
  have hplace : Bus.place ⟨63, .locate a k s.xfer.nextTag, 0⟩ s.bus =
      Bus.push ⟨63, .locate a k s.xfer.nextTag, 0⟩ s.bus := Bus.place_room s.bus _ hroom
  calc s.requestLocate l a k
      = ((s.awaitLocate l s.xfer.nextTag).onXfer (openCollection l a k)).onBus
          (fun _ => Bus.place ⟨63, .locate a k s.xfer.nextTag, 0⟩ s.bus) := if_pos haccepts
    _ = _ := by rw [hplace]; rfl

/-- Enter in SEEK asks for the letter the seek digit counts to, or the most recent one. -/
theorem seekEnter_of_author {a : Nat} (h : s.lines[l].author = some a) :
    s.seekEnter l = s.requestLocate l a (s.lines[l].seek.getD 1) := by rw [seekEnter, h]; rfl

/-! ### The digit timer -/

@[simp] theorem backToSelect_lines (s : State) (l : LineNo) :
    (s.backToSelect l).lines = s.lines.set l { s.lines[l] with state := .select } := rfl

theorem OnlyLine.backToSelect {t : State} (h : OnlyLine l s t) : OnlyLine l s (t.backToSelect l) :=
  (h.onLine _).prompt _

/-- The digit timer that runs out in SEEK clears the seek digit and brings SELECT. -/
theorem exec_seekDigitTimeout_running (hst : s.LineIn l .seek) (htimer : s.lines[l].digitTimer ≠ none) :
    exec (.seekDigitTimeout l) s = .next (((s.taken (.seekDigitTimeout l)).onLine l fun c =>
      { c with seek := none, digitTimer := none }).backToSelect l) :=
  congrArg Host.Outcome.next (if_pos ⟨hst, Option.isSome_iff_ne_none.mpr htimer⟩)

end Sys2Proof.Machine.State
end

section
/-! Line-active rising and the keys of AUTHOR and SEEK, settled. -/

namespace Sys2Proof.Machine.State

/-- Settles O10: the level is taken, the line is in AUTHOR, and only its own parts have changed. -/
theorem lineRises : Obligations.LineRises := by
  unfold Obligations.LineRises
  intro s l hact hen hidle
  have hrise := riseLine_of_idle (s := (s.taken (.lineActiveRising l)).takeLevel l true) hact hen hidle
  have honly := (((OnlyLine.taken (s := s) (.lineActiveRising l)).trans (takeLevel_only _ l true)).onLine
    fun c => { c with state := .author, entry := [] }).prompt .ready
  refine ⟨_, congrArg Host.Outcome.next hrise, ?line, prompt_sounds _ l .ready, ?timer, ?port,
    by rw [honly.coders], honly.otherLines, honly.letters, honly.sameUnits, honly.sameOutside⟩
  case line => simp
  case timer => intro h; simpa using h
  case port => simp

/-- Settles O17: by the entry's length for a digit and for Enter, and one refusal for all that refuse. -/
theorem authorKeys : Obligations.AuthorKeys := by
  unfold Obligations.AuthorKeys
  intro s l hst hfree
  have hentry : ∀ c k, (s.pressed l c k).lines[l].entry = s.lines[l].entry := by
    intro c k; simp
  refine ⟨?digit, ?fifth, ?enter, ?early, ?refused⟩
  case digit =>
    intro d hlt
    have hexec := keyRow_author (c := .authorDigit l d) rfl hfree hst
    rw [authorKey_digit, authorDigit_of_lt d (by rwa [hentry])] at hexec
    have htaken := ((pressed_keyTaken s l (.authorDigit l d) (digitKey d)).cancel (.authorDigitTimeout l)).onLine
      (fun x => { x with entry := x.entry ++ [d], digitTimer := some 10000 }) fun _ => rfl
    exact ⟨_, hexec, by simp, by simp, htaken.frame⟩
  case fifth =>
    intro d hle
    have hexec := keyRow_author (c := .authorDigit l d) rfl hfree hst
    rw [authorKey_digit, authorDigit_of_le d (by rwa [hentry])] at hexec
    exact ⟨_, hexec, authorAgain_answers s l _ _⟩
  case enter =>
    intro a b c d hfour
    have hexec := keyRow_author (c := .authorEnter l) rfl hfree hst
    rw [authorKey_hash, authorEnter_of_eq (by rw [hentry, hfour]; rfl)] at hexec
    have htaken := (pressed_keyTaken s l (.authorEnter l) .hash).onLine (fun x =>
      { x with author := some (authorOf x.entry), entry := [], digitTimer := none, state := .select }) fun _ => rfl
    refine ⟨_, hexec, ?_, htaken.prompted .accepted⟩
    rw [← authorOf_four, ← hfour]
    simp
  case early =>
    intro hne
    have hexec := keyRow_author (c := .authorEnter l) rfl hfree hst
    rw [authorKey_hash, authorEnter_of_ne (by rwa [hentry])] at hexec
    exact ⟨_, hexec, authorAgain_answers s l _ _⟩
  case refused =>
    intro k hk
    obtain ⟨hdigit, hhash⟩ := keyDigit_refused hk
    have hexec := keyRow_author (c := .refusedKey l k) rfl hfree hst
    rw [authorKey_refused _ _ hdigit hhash] at hexec
    exact ⟨_, hexec, authorAgain_answers s l _ _⟩

/-- Settles O19: each key by its equation in SEEK; Enter alone goes beyond the line's own parts. -/
theorem seekKeys : Obligations.SeekKeys := by
  unfold Obligations.SeekKeys
  intro s l hfree
  refine ⟨?star, ?digit, ?again, ?enter, ?refused, ?timeout⟩
  case star =>
    intro hst
    have hexec := keyRow_acts (c := .resume l) rfl hfree hst (by decide)
    rw [keyActs_select _ (pressed_lineIn _ _ hst), selectKey_star, startSeek_eq] at hexec
    have htaken := ((pressed_keyTaken s l (.resume l) .star).cancel (.seekDigitTimeout l)).onLine
      (fun x => { x with seek := none, state := .seek, digitTimer := some 5000 }) fun _ => rfl
    exact ⟨_, hexec, by simp, htaken.prompted .accepted⟩
  case digit =>
    intro d hst hd hnone
    have hexec := keyRow_seek (c := .seekDigit l d) rfl hfree hst
    rw [seekKey_digit, seekDigit_of_none hd (by simpa using hnone)] at hexec
    have htaken := (pressed_keyTaken s l (.seekDigit l d) (digitKey d)).restartSeek.onLine
      (fun x => { x with seek := some d.val }) fun _ => rfl
    exact ⟨_, hexec, by simp, htaken.frame⟩
  case again =>
    intro d hst hd
    have hexec := keyRow_seek (c := .seekDigit l d) rfl hfree hst
    rw [seekKey_digit, seekDigit_of_refused (by simpa using hd)] at hexec
    have htaken := (pressed_keyTaken s l (.seekDigit l d) (digitKey d)).restartSeek.onLine
      (fun x => { x with seek := none }) fun _ => rfl
    exact ⟨_, hexec, by simp, htaken.prompted .refused⟩
  case enter =>
    intro a hst hauthor hroom
    have hexec := keyRow_seek (c := .seekEnter l) rfl hfree hst
    have hask := requestLocate_of_room (s := s.pressed l (.seekEnter l) .hash) (l := l) a
      (s.lines[l].seek.getD 1) hroom
    have htaken := (pressed_keyTaken s l (.seekEnter l) .hash).awaitLocate s.xfer.nextTag
    have htag : (s.pressed l (.seekEnter l) .hash).xfer.nextTag = s.xfer.nextTag := rfl
    have hseek : (s.pressed l (.seekEnter l) .hash).lines[l].seek = s.lines[l].seek := by simp
    rw [seekKey_hash, seekEnter_of_author (by simpa using hauthor), hseek, hask, htag] at hexec
    refine ⟨_, hexec, ?line, ?placed, ?tag, ?collection, ?prompt, htaken.recognised, htaken.only.letters, ?seg⟩
    case line => simp
    case prompt => simp [awaitLocate]
    case placed | tag | collection | seg => rfl
  case refused =>
    intro k hst hk
    obtain ⟨hdigit, hhash⟩ := keyDigit_refused hk
    have hexec := keyRow_seek (c := .refusedKey l k) rfl hfree hst
    rw [seekKey_refused _ _ hdigit hhash] at hexec
    exact ⟨_, hexec, by simp, (pressed_keyTaken s l (.refusedKey l k) k).restartSeek.prompted .refused⟩
  case timeout =>
    intro hst htimer
    have htaken : OnlyLine l s (s.taken (.seekDigitTimeout l)) := .taken _
    have honly := (htaken.onLine fun c => { c with seek := none, digitTimer := none }).backToSelect
    exact ⟨_, exec_seekDigitTimeout_running hst htimer, by simp, prompt_sounds _ l .refused,
      honly.otherLines, honly.letters, honly.sameUnits, honly.sameOutside⟩

end Sys2Proof.Machine.State
end

section
/-! What a step can do to segment memory: a few moves on the segment and on the blocks that records name
(R36 to R48). -/

namespace Sys2Proof.Machine

/-- The blocks that the records of a chain name. -/
def chainBlocks (c : List SegRec) : Multiset Nat := ↑(c.map (·.block))

@[simp] theorem chainBlocks_nil : chainBlocks [] = 0 := rfl

@[simp] theorem chainBlocks_cons (r : SegRec) (c : List SegRec) :
    chainBlocks (r :: c) = r.block ::ₘ chainBlocks c := rfl

@[simp] theorem chainBlocks_append (c d : List SegRec) : chainBlocks (c ++ d) = chainBlocks c + chainBlocks d := by
  simp [chainBlocks, Multiset.coe_add]

@[simp] theorem chainBlocks_reverse (c : List SegRec) : chainBlocks c.reverse = chainBlocks c := by
  simp [chainBlocks]

/-- The blocks that the records of a Letter Table entry name. -/
def blocksIn (x : Option Letter) : Multiset Nat := chainBlocks ((x.map (·.chain)).getD [])

@[simp] theorem blocksIn_none : blocksIn none = 0 := rfl

@[simp] theorem blocksIn_some (x : Letter) : blocksIn (some x) = chainBlocks x.chain := rfl

theorem blocksIn_map (x : Option Letter) (f : Letter → Letter) (h : ∀ y, (f y).chain = y.chain) :
    blocksIn (x.map f) = blocksIn x := by
  cases x with
  | none => rfl
  | some y => simp [h]

/-- The blocks that the records of all letters name, each as often as records name it (R41). -/
@[irreducible] def namedIn (v : Vector (Option Letter) 64) : Multiset Nat := ∑ i : LetterIx, blocksIn v[i]

/-- An element that changes takes its own share off a sum over a vector and puts the new one on. -/
theorem sum_vector_set {α N : Type} [AddCommMonoid N] {n : Nat} (f : α → N) (v : Vector α n) (i : Fin n) (x : α) :
    (∑ j : Fin n, f (v.set i x)[j]) + f v[i] = (∑ j : Fin n, f v[j]) + f x := by
  have hsame : (v.set i x)[i] = x := by simp
  have hother : ∀ j ∈ Finset.univ.erase i, f (v.set i x)[j] = f v[j] := by
    intro j hj
    have hne : (i : Nat) ≠ j := fun h => (Finset.ne_of_mem_erase hj) (Fin.ext h.symm)
    simp [hne]
  rw [← Finset.add_sum_erase Finset.univ _ (Finset.mem_univ i),
    ← Finset.add_sum_erase Finset.univ (fun j => f v[j]) (Finset.mem_univ i),
    Finset.sum_congr rfl hother, hsame]
  abel

/-- A sum over a vector as one over its list. -/
theorem sum_vector_toList {α N : Type} [AddCommMonoid N] {n : Nat} (f : α → N) (v : Vector α n) :
    (∑ j : Fin n, f v[j]) = (v.toList.map f).sum := by
  rw [← List.sum_ofFn]
  congr 1
  apply List.ext_getElem
  · simp
  · intro k h1 h2
    rw [List.getElem_ofFn, List.getElem_map, Vector.getElem_toList]
    rfl

/-- An entry that changes takes its own blocks off and puts the new ones on. -/
theorem namedIn_set (v : Vector (Option Letter) 64) (i : LetterIx) (x : Option Letter) :
    namedIn (v.set i x) + blocksIn v[i] = namedIn v + blocksIn x := by
  unfold namedIn
  exact sum_vector_set blocksIn v i x

/-- An entry whose blocks stay leaves the named blocks. -/
theorem namedIn_set_same (v : Vector (Option Letter) 64) (i : LetterIx) (x : Option Letter)
    (h : blocksIn x = blocksIn v[i]) : namedIn (v.set i x) = namedIn v := by
  have := namedIn_set v i x
  rw [h] at this
  exact add_right_cancel this

@[simp] theorem namedIn_set_map (v : Vector (Option Letter) 64) (i : LetterIx) (f : Letter → Letter)
    (h : ∀ y, (f y).chain = y.chain) : namedIn (v.set i (v[i].map f)) = namedIn v :=
  namedIn_set_same v i _ (blocksIn_map _ f h)

/-- The same with the index as a number, as simp leaves it. -/
@[simp] theorem namedIn_set_map_val (v : Vector (Option Letter) 64) (i : LetterIx) (f : Letter → Letter)
    (h : ∀ y, (f y).chain = y.chain) : namedIn (v.set i.val (v[i.val].map f)) = namedIn v :=
  namedIn_set_map v i f h

/-- Where no letter is, none is named. -/
theorem namedIn_replicate : namedIn (Vector.replicate 64 none) = 0 := by
  have hnone : ∀ i : LetterIx, blocksIn (Vector.replicate 64 none)[i] = 0 := by
    intro i
    have hi : (Vector.replicate 64 (none : Option Letter))[i] = none := Vector.getElem_replicate _
    rw [hi, blocksIn_none]
  unfold namedIn
  exact Finset.sum_eq_zero fun i _ => hnone i

/-- The named blocks are those of the list of all records. -/
theorem namedIn_eq_allRecords (s : State) : namedIn s.letters = ↑(s.allRecords.map (·.block)) := by
  have hsum : namedIn s.letters = (s.letters.toList.map blocksIn).sum := by
    unfold namedIn
    exact sum_vector_toList blocksIn s.letters
  have hflat : ∀ ls : List (Option Letter), (ls.map blocksIn).sum =
      ↑((ls.flatMap fun x => (x.map (·.chain)).getD []).map (·.block)) := by
    intro ls
    induction ls with
    | nil => rfl
    | cons x ls ih => rw [List.map_cons, List.sum_cons, ih]; simp [blocksIn, chainBlocks]
  rw [hsum, hflat]
  rfl

/-- What can happen to segment memory, with the blocks that records name before and after. -/
inductive Moves : Segment → Multiset Nat → Segment → Multiset Nat → Prop
  | refl (g : Segment) (M : Multiset Nat) : Moves g M g M
  | trans {g g' g'' : Segment} {M M' M'' : Multiset Nat} :
      Moves g M g' M' → Moves g' M' g'' M'' → Moves g M g'' M''
  /-- A line is given a block (R45). -/
  | giveLine (s : State) (M : Multiset Nat) (l : LineNo) (o : LetterIx) (f : Filler) (p q : Nat) :
      s.lineMayTake l = true → Moves s.seg M ((s.chargeLine l).giveBlock o f p q).seg M
  /-- The transfer engine is given a block (R48). -/
  | giveTransfer (s : State) (M : Multiset Nat) (o : LetterIx) (f : Filler) (p q : Nat) :
      s.transferMayTake = true → Moves s.seg M (s.chargeTransfer.giveBlock o f p q).seg M
  /-- A block is sealed, or freed where no record names it (R40). -/
  | sealed (s : State) (M : Multiset Nat) (b : Nat) : Moves s.seg M (s.sealBlock b).seg M
  /-- A record of a block is placed (R41, R43). -/
  | placed (s : State) (M : Multiset Nat) (b : Nat) : 0 < s.seg.poolFree →
      (s.seg.find b).isSome = true ∨ b ∈ M →
      Moves s.seg M ((s.onSeg (Segment.takeRecords 1)).incRef b).seg (b ::ₘ M)
  /-- A record of a block goes back to the pool (R41, R43). -/
  | dropped (s : State) (M : Multiset Nat) (b : Nat) :
      Moves s.seg (b ::ₘ M) ((s.onSeg (Segment.returnRecords 1)).decRef b).seg M
  | voiced (g : Segment) (M : Multiset Nat) (b : Nat) (bytes : List Byte) : Moves g M (g.appendVoiced b bytes) M
  | silence (g : Segment) (M : Multiset Nat) (b : Nat) : Moves g M (g.appendSilence b) M
  /-- The reservation of an admitted letter, and its end (R47, R48). -/
  | reserved (g : Segment) (M : Multiset Nat) (n : Nat) : n ≤ g.common → Moves g M { g with reservation := n } M
  | released (g : Segment) (M : Multiset Nat) : Moves g M { g with reservation := 0 } M
  | reset (g : Segment) (M : Multiset Nat) : Moves g M Segment.reset 0

/-- What a state change does to segment memory and to the chains is such moves. -/
def SegStep (s t : State) : Prop := Moves s.seg (namedIn s.letters) t.seg (namedIn t.letters)

/-- Segment memory and the blocks named stay. -/
abbrev SegSame (s t : State) : Prop := t.seg = s.seg ∧ namedIn t.letters = namedIn s.letters

theorem SegStep.refl (s : State) : SegStep s s := Moves.refl _ _

theorem SegStep.trans {s t u : State} (h : SegStep s t) (k : SegStep t u) : SegStep s u := Moves.trans h k

theorem SegSame.step {s t : State} (h : SegSame s t) : SegStep s t := by
  rw [SegStep, h.1, h.2]; exact Moves.refl _ _

/-- Steps before and after which segment memory stays. -/
theorem SegStep.then_same {s t u : State} (h : SegStep s t) (k : SegSame t u) : SegStep s u := h.trans k.step

theorem SegStep.after_same {s t u : State} (k : SegStep t u) (h : SegSame s t) : SegStep s u := h.step.trans k

end Sys2Proof.Machine
end

section
/-! The invariants of segment memory that the moves keep: canonical bytes, a rising table, balanced accounts
(R35, R36, R41, R43, R44). -/

namespace Sys2Proof.Machine

/-! ### Canonical bytes (log 5) -/

theorem State.mem_chargeLine (s : State) (l : LineNo) : (s.chargeLine l).seg.mem = s.seg.mem := by
  unfold State.chargeLine
  simp only [State.onSeg_seg]
  split <;> rfl

/-- Every move keeps the canonical form of the bytes. -/
theorem Moves.memory {g g' : Segment} {M M' : Multiset Nat} (h : Moves g M g' M')
    (hmem : Memory.wf g.mem = true) : Memory.wf g'.mem = true := by
  induction h with
  | refl | giveTransfer | placed | reserved | released => exact hmem
  | giveLine s M l => rw [State.mem_giveBlock, State.mem_chargeLine]; exact hmem
  | trans _ _ ih ih' => exact ih' (ih hmem)
  | sealed s M b => rw [State.mem_sealBlock]; exact hmem
  | dropped s M b => rw [State.mem_decRef]; exact hmem
  | voiced g M b bytes => exact Segment.wf_appendVoiced hmem b bytes
  | silence g M b => exact Segment.wf_appendSilence hmem b
  | reset => rfl

/-! ### The table -/

/-- A table of existing blocks, each once, in rising order. -/
def Rising (bs : List Block) : Prop :=
  bs.Pairwise (fun x y => x.num < y.num) ∧ ∀ x ∈ bs, x.num < Config.blockCount

namespace Segment

/-- A change of entries that keeps their numbers keeps the order. -/
theorem rising_map {bs : List Block} (h : Rising bs) {f : Block → Block} (hf : ∀ x, (f x).num = x.num) :
    Rising (bs.map f) := by
  refine ⟨?_, ?_⟩
  · rw [List.pairwise_map]
    simpa [hf] using h.1
  · intro x hx
    obtain ⟨y, hy, rfl⟩ := List.mem_map.mp hx
    rw [hf]
    exact h.2 y hy

theorem rising_filter {bs : List Block} (h : Rising bs) (p : Block → Bool) : Rising (bs.filter p) :=
  ⟨h.1.filter _, fun x hx => h.2 x (List.mem_of_mem_filter hx)⟩

theorem update_blocks (g : Segment) (b : Nat) (f : Block → Block) :
    (g.update b f).blocks = g.blocks.map fun x => if x.num = b then f x else x := rfl

theorem rising_update {g : Segment} (h : Rising g.blocks) (b : Nat) {f : Block → Block}
    (hf : ∀ x, (f x).num = x.num) : Rising (g.update b f).blocks := by
  rw [update_blocks]
  exact rising_map h fun x => by split <;> simp [hf]

/-- The lowest FREE number of a rising table lies in no entry, below none that is smaller, and at most the
table's length further on (R37). -/
theorem lowestFrom_spec (bs : List Block) (n : Nat) (hrise : bs.Pairwise fun x y => x.num < y.num)
    (hlow : ∀ x ∈ bs, n ≤ x.num) :
    (∀ x ∈ bs, x.num ≠ lowestFrom n bs) ∧ n ≤ lowestFrom n bs ∧ lowestFrom n bs ≤ n + bs.length := by
  induction bs generalizing n with
  | nil => simp [lowestFrom]
  | cons x rest ih =>
    obtain ⟨hx, hrest⟩ := List.pairwise_cons.mp hrise
    have hn := hlow x (by simp)
    simp only [lowestFrom]
    split
    case isTrue heq =>
      obtain ⟨hne, hle, hlen⟩ := ih (n + 1) hrest fun y hy => by have := hx y hy; omega
      refine ⟨?_, by omega, by simp only [List.length_cons]; omega⟩
      intro y hy
      rcases List.mem_cons.mp hy with rfl | hy
      · omega
      · exact hne y hy
    case isFalse hne =>
      refine ⟨?_, Nat.le_refl n, by omega⟩
      intro y hy
      rcases List.mem_cons.mp hy with rfl | hy
      · exact hne
      · have := hx y hy
        omega

theorem mem_insertBlock (x y : Block) (bs : List Block) : y ∈ insertBlock x bs ↔ y = x ∨ y ∈ bs := by
  induction bs with
  | nil => simp [insertBlock]
  | cons z rest ih =>
    simp only [insertBlock]
    split
    · simp
    · simp only [List.mem_cons, ih]
      tauto

theorem length_insertBlock (x : Block) (bs : List Block) : (insertBlock x bs).length = bs.length + 1 := by
  induction bs with
  | nil => rfl
  | cons z rest ih =>
    simp only [insertBlock]
    split
    · simp
    · simp [ih]

/-- A new number is put in its place. -/
theorem pairwise_insertBlock (x : Block) (bs : List Block) (hrise : bs.Pairwise fun x y => x.num < y.num)
    (hne : ∀ y ∈ bs, y.num ≠ x.num) : (insertBlock x bs).Pairwise fun x y => x.num < y.num := by
  induction bs with
  | nil => simp [insertBlock]
  | cons z rest ih =>
    obtain ⟨hz, hrest⟩ := List.pairwise_cons.mp hrise
    simp only [insertBlock]
    split
    case isTrue hlt =>
      refine List.pairwise_cons.mpr ⟨?_, hrise⟩
      intro y hy
      rcases List.mem_cons.mp hy with rfl | hy
      · exact hlt
      · exact hlt.trans (hz y hy)
    case isFalse hge =>
      have hzx := hne z (by simp)
      refine List.pairwise_cons.mpr ⟨?_, ih hrest fun y hy => hne y (by simp [hy])⟩
      intro y hy
      rcases (mem_insertBlock x y rest).mp hy with rfl | hy
      · omega
      · exact hz y hy

/-- A given block takes its place in a rising table with a FREE block (R37). -/
theorem rising_insertBlock {g : Segment} (h : Rising g.blocks) (hfree : 0 < g.free) {x : Block}
    (hx : x.num = lowestFrom 0 g.blocks) : Rising (insertBlock x g.blocks) := by
  obtain ⟨hne, -, hlen⟩ := lowestFrom_spec g.blocks 0 h.1 fun _ _ => Nat.zero_le _
  refine ⟨pairwise_insertBlock x _ h.1 fun y hy => hx ▸ hne y hy, ?_⟩
  intro y hy
  rcases (mem_insertBlock x y _).mp hy with rfl | hy
  · unfold free at hfree
    omega
  · exact h.2 y hy

theorem appendVoiced_blocks (g : Segment) (b : Nat) (bytes : List Byte) :
    ∃ f : Block → Block, (∀ x, (f x).num = x.num ∧ (f x).refs = x.refs ∧ (f x).filler = x.filler) ∧
      (g.appendVoiced b bytes).blocks = g.blocks.map f ∧
      (g.appendVoiced b bytes).poolFree = g.poolFree ∧ (g.appendVoiced b bytes).credits = g.credits ∧
      (g.appendVoiced b bytes).reservation = g.reservation := by
  unfold appendVoiced
  split
  · exact ⟨id, fun _ => ⟨rfl, rfl, rfl⟩, by simp, rfl, rfl, rfl⟩
  · exact ⟨_, fun x => by split <;> exact ⟨rfl, rfl, rfl⟩, rfl, rfl, rfl, rfl⟩

theorem appendSilence_blocks (g : Segment) (b : Nat) :
    ∃ f : Block → Block, (∀ x, (f x).num = x.num ∧ (f x).refs = x.refs ∧ (f x).filler = x.filler) ∧
      (g.appendSilence b).blocks = g.blocks.map f ∧
      (g.appendSilence b).poolFree = g.poolFree ∧ (g.appendSilence b).credits = g.credits ∧
      (g.appendSilence b).reservation = g.reservation := by
  unfold appendSilence
  split
  · exact ⟨id, fun _ => ⟨rfl, rfl, rfl⟩, by simp, rfl, rfl, rfl⟩
  · split <;> exact ⟨_, fun x => by split <;> exact ⟨rfl, rfl, rfl⟩, rfl, rfl, rfl, rfl⟩

end Segment

namespace State

/-! What the block operations do to the table. -/

theorem freeBlock_blocks (s : State) (b : Nat) :
    (s.freeBlock b).seg.blocks = s.seg.blocks.filter (·.num ≠ b) := by
  unfold freeBlock
  split
  · rfl
  · rename_i hnone
    rw [eq_comm, List.filter_eq_self]
    intro x hx
    simp only [Segment.find, List.find?_isSome, not_exists, not_and] at hnone
    simpa using hnone x hx

theorem chargeLine_blocks (s : State) (l : LineNo) : (s.chargeLine l).seg.blocks = s.seg.blocks := by
  unfold chargeLine
  simp only [onSeg_seg]
  split <;> rfl

theorem giveBlock_blocks (s : State) (o : LetterIx) (f : Filler) (p q : Nat) :
    (s.giveBlock o f p q).seg.blocks =
      Segment.insertBlock ⟨Segment.lowestFrom 0 s.seg.blocks, 0, p, q, 0, 0, o, some f⟩ s.seg.blocks := rfl

theorem rising_decRef {s : State} (h : Rising s.seg.blocks) (b : Nat) : Rising (s.decRef b).seg.blocks := by
  have hup := Segment.rising_update h b (f := fun x => { x with refs := x.refs - 1 }) fun _ => rfl
  simp only [decRef, when]
  split
  · rw [freeBlock_blocks]
    exact Segment.rising_filter hup _
  · exact hup

theorem rising_sealBlock {s : State} (h : Rising s.seg.blocks) (b : Nat) :
    Rising (s.sealBlock b).seg.blocks := by
  have hup := Segment.rising_update h b (f := fun x => { x with filler := none }) fun _ => rfl
  unfold sealBlock
  split
  · exact h
  · simp only [when]
    split
    · split
      · rw [freeBlock_blocks]
        exact Segment.rising_filter hup _
      · exact hup
    · exact h

theorem lineMayTake_free {s : State} {l : LineNo} (h : s.lineMayTake l = true) : 0 < s.seg.free := by
  simp only [lineMayTake, Bool.and_eq_true, decide_eq_true_eq] at h
  exact h.1

theorem transferMayTake_free {s : State} (h : s.transferMayTake = true) : 0 < s.seg.free := by
  simp only [transferMayTake, Bool.and_eq_true, decide_eq_true_eq] at h
  exact h.1

end State

/-- Every move keeps the Block Table in its rising order. -/
theorem Moves.rising {g g' : Segment} {M M' : Multiset Nat} (h : Moves g M g' M') (hrise : Rising g.blocks) :
    Rising g'.blocks := by
  induction h with
  | refl | reserved | released => exact hrise
  | trans _ _ ih ih' => exact ih' (ih hrise)
  | giveLine s M l o f p q hmay =>
    have hfree : 0 < (s.chargeLine l).seg.free := by
      rw [Segment.free, State.chargeLine_blocks]; exact State.lineMayTake_free hmay
    rw [State.giveBlock_blocks]
    exact Segment.rising_insertBlock (by rwa [State.chargeLine_blocks]) hfree rfl
  | giveTransfer s M o f p q hmay =>
    rw [State.giveBlock_blocks]
    exact Segment.rising_insertBlock hrise (State.transferMayTake_free hmay) rfl
  | sealed s M b => exact State.rising_sealBlock hrise b
  | placed s M b => exact Segment.rising_update (g := Segment.takeRecords 1 s.seg) hrise b fun _ => rfl
  | dropped s M b => exact State.rising_decRef (s := s.onSeg (Segment.returnRecords 1)) hrise b
  | voiced g M b bytes =>
    obtain ⟨f, hf, hblocks, -⟩ := g.appendVoiced_blocks b bytes
    rw [hblocks]
    exact Segment.rising_map hrise fun x => (hf x).1
  | silence g M b =>
    obtain ⟨f, hf, hblocks, -⟩ := g.appendSilence_blocks b
    rw [hblocks]
    exact Segment.rising_map hrise fun x => (hf x).1
  | reset => exact ⟨List.Pairwise.nil, by simp [Segment.reset]⟩

end Sys2Proof.Machine
end

section
/-! The accounts of segment memory, kept by every move (R41, R43, R44). -/

namespace Sys2Proof.Machine

/-! ### A rising table names each block once -/

theorem Rising.eq_of_num {bs : List Block} (h : Rising bs) {x y : Block} (hx : x ∈ bs) (hy : y ∈ bs)
    (hnum : x.num = y.num) : x = y := by
  obtain ⟨i, hi, rfl⟩ := List.mem_iff_getElem.mp hx
  obtain ⟨j, hj, rfl⟩ := List.mem_iff_getElem.mp hy
  have hlt := List.pairwise_iff_getElem.mp h.1
  rcases Nat.lt_trichotomy i j with hij | rfl | hij
  · have := hlt i j hi hj hij; omega
  · rfl
  · have := hlt j i hj hi hij; omega

theorem Rising.find_iff {g : Segment} (h : Rising g.blocks) {b : Nat} {x : Block} :
    g.find b = some x ↔ x ∈ g.blocks ∧ x.num = b := by
  unfold Segment.find
  constructor
  · intro hfind
    exact ⟨List.mem_of_find?_eq_some hfind, by simpa using List.find?_some hfind⟩
  · rintro ⟨hx, rfl⟩
    cases hfind : g.blocks.find? fun y => y.num == x.num with
    | none => simpa using List.find?_eq_none.mp hfind x hx
    | some y =>
      have hy := List.mem_of_find?_eq_some hfind
      have hnum : y.num = x.num := by simpa using List.find?_some hfind
      rw [h.eq_of_num hy hx hnum]

theorem Segment.find_isSome (g : Segment) (b : Nat) : (g.find b).isSome = true ↔ ∃ x ∈ g.blocks, x.num = b := by
  simp [Segment.find]

/-- The numbers of a rising table are below 32,768, so that there are at most 32,768 of them. -/
theorem Rising.length_le {bs : List Block} (h : Rising bs) : bs.length ≤ Config.blockCount := by
  have hnodup : (bs.map (·.num)).Nodup := by
    rw [List.nodup_map_iff_inj_on h.1.nodup]
    · exact fun x hx y hy hnum => h.eq_of_num hx hy hnum
  have hsub : (bs.map (·.num)).toFinset ⊆ Finset.range Config.blockCount := by
    intro n hn
    obtain ⟨x, hx, rfl⟩ := List.mem_map.mp (List.mem_toFinset.mp hn)
    exact Finset.mem_range.mpr (h.2 x hx)
  have := Finset.card_le_card hsub
  rwa [List.toFinset_card_of_nodup hnodup, List.length_map, Finset.card_range] at this

/-! ### Balanced accounts -/

/-- The accounts of segment memory, but that block `b` (if there is one) may be SEALED with no record
naming it. -/
structure BalancedBut (b : Option Nat) (g : Segment) (M : Multiset Nat) : Prop where
  refs : ∀ x ∈ g.blocks, x.refs = M.count x.num
  filled : ∀ x ∈ g.blocks, some x.num ≠ b → x.refs = 0 → x.filler ≠ none
  listed : ∀ n ∈ M, ∃ x ∈ g.blocks, x.num = n
  pool : g.poolFree + M.card = Config.poolRecords
  covered : g.creditSum + g.reservation ≤ g.free
  credits : ∀ l : LineNo, g.credits[l] ≤ Config.lineCredit

/-- The accounts of segment memory (R41, R43, R44). -/
abbrev Balanced (g : Segment) (M : Multiset Nat) : Prop := BalancedBut none g M

theorem BalancedBut.weaken {g : Segment} {M : Multiset Nat} (h : Balanced g M) (b : Option Nat) :
    BalancedBut b g M :=
  { h with filled := fun x hx _ => h.filled x hx (by simp) }

/-- A balanced segment whose block `b` is named, or FILLING, is balanced throughout. -/
theorem BalancedBut.whole {b : Nat} {g : Segment} {M : Multiset Nat} (h : BalancedBut (some b) g M)
    (hb : ∀ x ∈ g.blocks, x.num = b → x.refs = 0 → x.filler ≠ none) : Balanced g M := by
  refine { h with filled := fun x hx _ hzero => ?_ }
  by_cases hnum : x.num = b
  · exact hb x hx hnum hzero
  · exact h.filled x hx (by simpa using hnum) hzero

/-! ### The credits -/

theorem Segment.creditSum_set (g : Segment) (l : LineNo) (n : Nat) :
    (g.credits.set l n).toList.sum + g.credits[l] = g.creditSum + n := by
  have hset := sum_vector_set (fun n : Nat => n) g.credits l n
  simp only [sum_vector_toList (fun n : Nat => n), List.map_id'] at hset
  exact hset

/-- A freed block raises the credits by one at most, and none above 128 (R46). -/
theorem Segment.refill_spec (g : Segment) (h : ∀ l : LineNo, g.credits[l] ≤ Config.lineCredit) :
    (refill g.credits).toList.sum ≤ g.creditSum + 1 ∧ ∀ l : LineNo, (refill g.credits)[l] ≤ Config.lineCredit := by
  unfold refill
  split
  case h_1 l hfind =>
    have hlt : g.credits[l] < Config.lineCredit := by simpa using List.find?_some hfind
    have hsum := g.creditSum_set l (g.credits[l] + 1)
    refine ⟨by omega, fun m => ?_⟩
    by_cases hm : l.val = m.val
    · obtain rfl := Fin.ext hm
      simpa using hlt
    · simpa [hm] using h m
  case h_2 => exact ⟨Nat.le_succ _, h⟩

/-! ### Each move -/

section
variable {s : State} {g : Segment} {M : Multiset Nat} {b : Nat}

/-- A block that no record names goes, and the accounts balance (R46). -/
theorem State.balanced_freeBlock (hrise : Rising s.seg.blocks) (h : BalancedBut (some b) s.seg M)
    (hzero : M.count b = 0) : Balanced (s.freeBlock b).seg M := by
  unfold freeBlock
  split
  case isFalse hnone =>
    refine h.whole fun x hx hnum => absurd ?_ hnone
    exact (Segment.find_isSome _ _).mpr ⟨x, hx, hnum⟩
  case isTrue hsome =>
    obtain ⟨x, hx, hnum⟩ := (Segment.find_isSome _ _).mp hsome
    obtain ⟨hsum, hcred⟩ := s.seg.refill_spec h.credits
    have hcovered := h.covered
    have hlen : (s.seg.blocks.filter (·.num ≠ b)).length < s.seg.blocks.length :=
      List.length_filter_lt_length_iff_exists.mpr ⟨x, hx, by simpa using hnum⟩
    have hle := hrise.length_le
    refine ⟨?refs, ?filled, ?listed, h.pool, ?covered, hcred⟩
    case refs => exact fun y hy => h.refs y (List.mem_of_mem_filter hy)
    case filled =>
      intro y hy _
      have hne : y.num ≠ b := by simpa using (List.mem_filter.mp hy).2
      exact h.filled y (List.mem_of_mem_filter hy) (by simpa using hne)
    case listed =>
      intro n hn
      obtain ⟨y, hy, rfl⟩ := h.listed n hn
      have hne : y.num ≠ b := fun heq => by
        rw [heq] at hn
        exact absurd hzero (Nat.ne_of_gt (Multiset.count_pos.mpr hn))
      exact ⟨y, List.mem_filter.mpr ⟨hy, by simpa using hne⟩, rfl⟩
    case covered =>
      change (Segment.refill s.seg.credits).toList.sum + s.seg.reservation ≤
        Config.blockCount - (s.seg.blocks.filter (·.num ≠ b)).length
      unfold Segment.free at hcovered
      omega

/-- A change of entries that keeps numbers, counts and fillers keeps the accounts. -/
theorem BalancedBut.map {g' : Segment} {c : Option Nat} (h : BalancedBut c g M) {f : Block → Block}
    (hf : ∀ x, (f x).num = x.num ∧ (f x).refs = x.refs ∧ (f x).filler = x.filler)
    (hblocks : g'.blocks = g.blocks.map f) (hpool : g'.poolFree = g.poolFree) (hcred : g'.credits = g.credits)
    (hres : g'.reservation = g.reservation) : BalancedBut c g' M := by
  refine ⟨?refs, ?filled, ?listed, by rw [hpool]; exact h.pool, ?covered, by rw [hcred]; exact h.credits⟩
  case refs =>
    rw [hblocks]
    intro x hx
    obtain ⟨y, hy, rfl⟩ := List.mem_map.mp hx
    rw [(hf y).1, (hf y).2.1]
    exact h.refs y hy
  case filled =>
    rw [hblocks]
    intro x hx
    obtain ⟨y, hy, rfl⟩ := List.mem_map.mp hx
    rw [(hf y).1, (hf y).2.1, (hf y).2.2]
    exact h.filled y hy
  case listed =>
    intro n hn
    obtain ⟨y, hy, rfl⟩ := h.listed n hn
    exact ⟨f y, by rw [hblocks]; exact List.mem_map_of_mem hy, (hf y).1⟩
  case covered =>
    have := h.covered
    simpa [Segment.creditSum, Segment.free, hblocks, hcred, hres] using this

/-- A block whose filler goes may be left unnamed. -/
theorem Segment.balanced_unfill (h : Balanced g M) (b : Nat) :
    BalancedBut (some b) (g.update b fun x => { x with filler := none }) M := by
  have hmem : ∀ x ∈ (g.update b fun x => { x with filler := none }).blocks, ∃ y ∈ g.blocks,
      x.num = y.num ∧ x.refs = y.refs ∧ (x.num ≠ b → x.filler = y.filler) := by
    intro x hx
    obtain ⟨y, hy, rfl⟩ := List.mem_map.mp hx
    refine ⟨y, hy, ?_⟩
    split
    · exact ⟨rfl, rfl, fun hne => absurd ‹_› hne⟩
    · exact ⟨rfl, rfl, fun _ => rfl⟩
  refine ⟨?refs, ?filled, ?listed, h.pool, ?covered, h.credits⟩
  case refs =>
    intro x hx
    obtain ⟨y, hy, hnum, hrefs, -⟩ := hmem x hx
    rw [hnum, hrefs]
    exact h.refs y hy
  case filled =>
    intro x hx hne hzero
    obtain ⟨y, hy, hnum, hrefs, hfill⟩ := hmem x hx
    rw [hfill fun heq => hne (by rw [heq])]
    exact h.filled y hy (by simp) (by rw [← hrefs]; exact hzero)
  case listed =>
    intro n hn
    obtain ⟨y, hy, rfl⟩ := h.listed n hn
    refine ⟨_, List.mem_map_of_mem hy, ?_⟩
    split <;> rfl
  case covered => simpa [free, creditSum, update] using h.covered

/-- Sealing keeps the accounts (R40). -/
theorem State.balanced_sealBlock (hrise : Rising s.seg.blocks) (h : Balanced s.seg M) (b : Nat) :
    Balanced (s.sealBlock b).seg M := by
  have hrise' := Segment.rising_update hrise b (f := fun x => { x with filler := none }) fun _ => rfl
  have hbut := Segment.balanced_unfill h b
  unfold sealBlock
  split
  case h_1 => exact h
  case h_2 x hfind =>
    obtain ⟨hx, hnum⟩ := hrise.find_iff.mp hfind
    have hrefs := h.refs x hx
    rw [hnum] at hrefs
    split
    case isFalse => exact h
    case isTrue =>
      unfold when
      split
      case isTrue hzero =>
        exact balanced_freeBlock (s := s.onSeg _) hrise' hbut (by rw [← hrefs]; simpa using hzero)
      case isFalse hpos =>
        refine BalancedBut.whole (b := b) hbut fun y hy hy' hzero => absurd ?_ hpos
        have := hbut.refs y hy
        rw [hy'] at this
        simp [hrefs, ← this, hzero]

/-- A record dropped lowers its block's count and the records in chains alike. -/
theorem Segment.balanced_release (h : Balanced g (b ::ₘ M)) :
    BalancedBut (some b) ((returnRecords 1 g).update b fun x => { x with refs := x.refs - 1 }) M := by
  refine ⟨?refs, ?filled, ?listed, ?pool, ?covered, h.credits⟩
  case refs =>
    intro x hx
    obtain ⟨y, hy, rfl⟩ := List.mem_map.mp hx
    have hrefs := h.refs y hy
    by_cases hnum : y.num = b
    · rw [if_pos hnum]
      simp only [hrefs, hnum, Multiset.count_cons_self, Nat.add_sub_cancel]
    · rw [if_neg hnum, hrefs, Multiset.count_cons_of_ne hnum]
  case filled =>
    intro x hx hne hzero
    obtain ⟨y, hy, rfl⟩ := List.mem_map.mp hx
    by_cases hnum : y.num = b
    · rw [if_pos hnum] at hne
      exact absurd (by simp [hnum]) hne
    · rw [if_neg hnum] at hzero ⊢
      exact h.filled y hy (by simp) hzero
  case listed =>
    intro n hn
    obtain ⟨y, hy, rfl⟩ := h.listed n (Multiset.mem_cons_of_mem hn)
    refine ⟨_, List.mem_map_of_mem hy, ?_⟩
    split <;> rfl
  case pool =>
    have := h.pool
    rw [Multiset.card_cons] at this
    change g.poolFree + 1 + M.card = _
    omega
  case covered =>
    have := h.covered
    simpa [free, creditSum, update, returnRecords] using this

/-- Dropping a record keeps the accounts (R41, R43). -/
theorem State.balanced_drop (hrise : Rising s.seg.blocks) (h : Balanced s.seg (b ::ₘ M)) :
    Balanced ((s.onSeg (Segment.returnRecords 1)).decRef b).seg M := by
  have hbut := Segment.balanced_release h
  have hrise' : Rising ((Segment.returnRecords 1 s.seg).update b fun x => { x with refs := x.refs - 1 }).blocks :=
    Segment.rising_update (g := Segment.returnRecords 1 s.seg) hrise b fun _ => rfl
  unfold decRef when
  dsimp only
  split
  case isTrue hany =>
    obtain ⟨x, hfind, hx⟩ := (Option.any_eq_true _ _).mp hany
    obtain ⟨hmem, hnum⟩ := hrise'.find_iff.mp hfind
    refine balanced_freeBlock (s := (s.onSeg _).onSeg _) hrise' hbut ?_
    have hrefs := hbut.refs x hmem
    rw [hnum] at hrefs
    simp only [Bool.and_eq_true, beq_iff_eq] at hx
    omega
  case isFalse hany =>
    refine BalancedBut.whole (b := b) hbut fun y hy hnum hzero hnone => hany ?_
    have hfind := hrise'.find_iff.mpr ⟨hy, hnum⟩
    change (Option.any _ (Segment.find _ b)) = true
    simp only [onSeg_seg, hfind, Option.any_some, hzero, hnone]
    rfl

/-- A record placed raises its block's count and the records in chains alike (R41, R43). -/
theorem Segment.balanced_place (h : Balanced g M) (hpool : 0 < g.poolFree)
    (hlisted : (g.find b).isSome = true ∨ b ∈ M) :
    Balanced ((takeRecords 1 g).update b fun x => { x with refs := x.refs + 1 }) (b ::ₘ M) := by
  refine ⟨?refs, ?filled, ?listed, ?pool, ?covered, h.credits⟩
  case refs =>
    intro x hx
    obtain ⟨y, hy, rfl⟩ := List.mem_map.mp hx
    have hrefs := h.refs y hy
    by_cases hnum : y.num = b
    · rw [if_pos hnum]
      simp only [hrefs, hnum, Multiset.count_cons_self]
    · rw [if_neg hnum, hrefs, Multiset.count_cons_of_ne hnum]
  case filled =>
    intro x hx _ hzero
    obtain ⟨y, hy, rfl⟩ := List.mem_map.mp hx
    by_cases hnum : y.num = b
    · rw [if_pos hnum] at hzero
      exact absurd hzero (Nat.succ_ne_zero _)
    · rw [if_neg hnum] at hzero ⊢
      exact h.filled y hy (by simp) hzero
  case listed =>
    have hmap : ∀ y ∈ g.blocks, ∃ x ∈ ((takeRecords 1 g).update b fun x => { x with refs := x.refs + 1 }).blocks,
        x.num = y.num := by
      intro y hy
      refine ⟨_, List.mem_map_of_mem hy, ?_⟩
      split <;> rfl
    have hb : ∃ x ∈ g.blocks, x.num = b := hlisted.elim (find_isSome g b).mp (h.listed b)
    intro n hn
    rcases Multiset.mem_cons.mp hn with rfl | hn
    · obtain ⟨y, hy, rfl⟩ := hb
      exact hmap y hy
    · obtain ⟨y, hy, rfl⟩ := h.listed n hn
      exact hmap y hy
  case pool =>
    have := h.pool
    rw [Multiset.card_cons]
    change g.poolFree - 1 + (M.card + 1) = _
    omega
  case covered =>
    have := h.covered
    simpa [free, creditSum, update, takeRecords] using this

/-- A block given from common availability keeps the accounts (R37, R44). -/
theorem State.balanced_giveBlock (hrise : Rising s.seg.blocks) (h : Balanced s.seg M)
    (hcommon : s.seg.creditSum + s.seg.reservation < s.seg.free) (o : LetterIx) (f : Filler) (p q : Nat) :
    Balanced (s.giveBlock o f p q).seg M := by
  obtain ⟨hne, -, -⟩ := Segment.lowestFrom_spec s.seg.blocks 0 hrise.1 fun _ _ => Nat.zero_le _
  have hmem : ∀ x ∈ (s.giveBlock o f p q).seg.blocks,
      x = ⟨Segment.lowestFrom 0 s.seg.blocks, 0, p, q, 0, 0, o, some f⟩ ∨ x ∈ s.seg.blocks := fun x hx =>
    (Segment.mem_insertBlock _ _ _).mp hx
  refine ⟨?refs, ?filled, ?listed, h.pool, ?covered, h.credits⟩
  case refs =>
    intro x hx
    rcases hmem x hx with rfl | hx
    · refine (Multiset.count_eq_zero.mpr fun hin => ?_).symm
      obtain ⟨y, hy, hnum⟩ := h.listed _ hin
      exact hne y hy hnum
    · exact h.refs x hx
  case filled =>
    intro x hx _ hzero
    rcases hmem x hx with rfl | hx
    · simp
    · exact h.filled x hx (by simp) hzero
  case listed =>
    intro n hn
    obtain ⟨y, hy, rfl⟩ := h.listed n hn
    exact ⟨y, (Segment.mem_insertBlock _ _ _).mpr (.inr hy), rfl⟩
  case covered =>
    change s.seg.creditSum + s.seg.reservation ≤ Config.blockCount - (Segment.insertBlock _ s.seg.blocks).length
    rw [Segment.length_insertBlock]
    unfold Segment.free at hcommon
    omega

/-- A line's grant leaves one FREE block more than the credits and the reservation (R45). -/
theorem State.balanced_chargeLine (h : Balanced s.seg M) {l : LineNo} (hmay : s.lineMayTake l = true) :
    Balanced (s.chargeLine l).seg M ∧
      (s.chargeLine l).seg.creditSum + (s.chargeLine l).seg.reservation < (s.chargeLine l).seg.free := by
  have hcovered := h.covered
  simp only [lineMayTake, Bool.and_eq_true, Bool.or_eq_true, decide_eq_true_eq] at hmay
  obtain ⟨-, hfrom⟩ := hmay
  unfold chargeLine
  simp only [onSeg_seg]
  split
  case isTrue hcommon =>
    refine ⟨h, ?_⟩
    unfold Segment.common at hcommon
    omega
  case isFalse hcommon =>
    have hpos : 0 < s.seg.credits[l] := hfrom.resolve_left hcommon
    have hsum := s.seg.creditSum_set l (s.seg.credits[l] - 1)
    have hlt : (s.seg.credits.set l (s.seg.credits[l] - 1)).toList.sum + s.seg.reservation < s.seg.free := by
      unfold Segment.common at hcommon
      omega
    refine ⟨{ h with covered := Nat.le_of_lt hlt, credits := fun m => ?_ }, hlt⟩
    by_cases hm : l.val = m.val
    · have := h.credits l
      simp only [Fin.getElem_fin] at this ⊢
      rw [Vector.getElem_set, if_pos hm]
      omega
    · have := h.credits m
      simp only [Fin.getElem_fin] at this ⊢
      rwa [Vector.getElem_set, if_neg hm]

/-- So does a grant of the transfer engine (R48). -/
theorem State.balanced_chargeTransfer (h : Balanced s.seg M) (hmay : s.transferMayTake = true) :
    Balanced s.chargeTransfer.seg M ∧
      s.chargeTransfer.seg.creditSum + s.chargeTransfer.seg.reservation < s.chargeTransfer.seg.free := by
  have hcovered := h.covered
  simp only [transferMayTake, Bool.and_eq_true, Bool.or_eq_true, decide_eq_true_eq] at hmay
  have hlt : s.seg.creditSum + (s.seg.reservation - 1) < s.seg.free := by
    unfold Segment.common at hmay
    omega
  exact ⟨{ h with covered := Nat.le_of_lt hlt }, hlt⟩

end

/-- Every move keeps the accounts. -/
theorem Moves.balanced {g g' : Segment} {M M' : Multiset Nat} (h : Moves g M g' M') (hrise : Rising g.blocks)
    (hbal : Balanced g M) : Balanced g' M' := by
  induction h with
  | refl => exact hbal
  | trans hmove _ ih ih' => exact ih' (hmove.rising hrise) (ih hrise hbal)
  | giveLine s M l o f p q hmay =>
    obtain ⟨hcharged, hcommon⟩ := State.balanced_chargeLine hbal hmay
    exact State.balanced_giveBlock (by rwa [State.chargeLine_blocks]) hcharged hcommon o f p q
  | giveTransfer s M o f p q hmay =>
    obtain ⟨hcharged, hcommon⟩ := State.balanced_chargeTransfer hbal hmay
    exact State.balanced_giveBlock (s := s.chargeTransfer) hrise hcharged hcommon o f p q
  | sealed s M b => exact State.balanced_sealBlock hrise hbal b
  | placed s M b hpool hlisted => exact Segment.balanced_place hbal hpool hlisted
  | dropped s M b => exact State.balanced_drop hrise hbal
  | voiced g M b bytes =>
    obtain ⟨f, hf, hblocks, hpool, hcred, hres⟩ := g.appendVoiced_blocks b bytes
    exact hbal.map hf hblocks hpool hcred hres
  | silence g M b =>
    obtain ⟨f, hf, hblocks, hpool, hcred, hres⟩ := g.appendSilence_blocks b
    exact hbal.map hf hblocks hpool hcred hres
  | reserved g M n hle =>
    have hcovered := hbal.covered
    refine { hbal with covered := ?_ }
    change g.creditSum + n ≤ g.free
    unfold Segment.common at hle
    omega
  | released g M =>
    have hcovered := hbal.covered
    refine { hbal with covered := ?_ }
    change g.creditSum + 0 ≤ g.free
    omega
  | reset =>
    refine ⟨by simp [Segment.reset], by simp [Segment.reset], by simp, rfl, by decide, by decide⟩

/-- The accounts of a station are those of its segment memory and the blocks its letters' records name. -/
theorem balanced_iff (s : State) :
    Balanced s.seg (namedIn s.letters) ↔ s.CountsRight ∧ s.PoolRight ∧ s.CreditsRight := by
  have hcount : ∀ n, (namedIn s.letters).count n = s.allRecords.countP (·.block == n) := by
    intro n
    rw [namedIn_eq_allRecords, Multiset.coe_count, List.count, List.countP_map]
    rfl
  have hcard : (namedIn s.letters).card = s.allRecords.length := by
    rw [namedIn_eq_allRecords, Multiset.coe_card, List.length_map]
  have hlisted : (∀ n ∈ namedIn s.letters, ∃ x ∈ s.seg.blocks, x.num = n) ↔
      ∀ r ∈ s.allRecords, ∃ x ∈ s.seg.blocks, x.num = r.block := by
    simp [namedIn_eq_allRecords]
  constructor
  · intro h
    refine ⟨⟨fun x hx => ⟨by rw [← hcount]; exact h.refs x hx, h.filled x hx (by simp)⟩, hlisted.mp h.listed⟩,
      ?_, h.covered, h.credits⟩
    rw [State.PoolRight, ← hcard]
    exact h.pool
  · rintro ⟨⟨hcounts, hrecords⟩, hpool, hcovered, hcredits⟩
    refine ⟨fun x hx => by rw [hcount]; exact (hcounts x hx).1, fun x hx _ => (hcounts x hx).2,
      hlisted.mpr hrecords, ?_, hcovered, hcredits⟩
    rw [hcard]
    exact hpool

end Sys2Proof.Machine
end

section
/-! The operations that leave segment memory and the records of every letter. -/

namespace Sys2Proof.Machine

@[simp] theorem when_segSame (c : Bool) (f : State → State) (s : State) (h : SegSame s (f s)) :
    SegSame s (when c f s) := by
  unfold when; split
  · exact h
  · exact ⟨rfl, rfl⟩

namespace State

/-! ### Prompts, places, letters -/

@[simp] theorem raise_segSame (s : State) (e : Event) : SegSame s (s.raise e) := by
  simp [SegSame, raise]

@[simp] theorem place_segSame (s : State) (d : Station) (m : Msg) : SegSame s (s.place d m) := by
  simp [SegSame, place]

@[simp] theorem count_segSame (s : State) (f : Counters → Counters) : SegSame s (s.count f) := by
  simp [SegSame, count]

@[simp] theorem prompt_segSame (s : State) (l : LineNo) (p : Prompt) : SegSame s (s.prompt l p) := by
  simp [SegSame, prompt]

@[simp] theorem goto_segSame (s : State) (l : LineNo) (x : LineState) : SegSame s (s.goto l x) := by
  simp [SegSame, goto]

@[simp] theorem holdLetter_segSame (s : State) (i : LetterIx) : SegSame s (s.holdLetter i) := by
  simp [SegSame, holdLetter]

@[simp] theorem attachLetter_segSame (s : State) (i : LetterIx) (l : LineNo) : SegSame s (s.attachLetter i l) := by
  simp [SegSame, attachLetter]

@[simp] theorem detachLine_segSame (s : State) (l : LineNo) : SegSame s (s.detachLine l) := by
  simp [SegSame, detachLine]

@[simp] theorem cutOff_segSame (s : State) (l : LineNo) : SegSame s (s.cutOff l) := by
  simp [SegSame, cutOff]

@[simp] theorem reportAll_segSame (s : State) (is : List Instr) : SegSame s (s.reportAll is) := by
  simp [SegSame, reportAll]

@[simp] theorem reportSome_segSame (s : State) (i : Option Instr) : SegSame s (s.reportSome i) := by
  simp only [reportSome]; repeat' split
  all_goals simp [SegSame]

/-! ### Deliveries -/

@[simp] theorem withdrawDelivery_segSame (s : State) : SegSame s (s.withdrawDelivery) := by
  simp [SegSame, withdrawDelivery]

@[simp] theorem offerDelivery_segSame (s : State) : SegSame s (s.offerDelivery) := by
  simp only [offerDelivery]; repeat' split
  all_goals simp [SegSame]

@[simp] theorem onActive_segSame (s : State) (f : Machine.Active → Machine.Active) : SegSame s (s.onActive f) := by
  simp [SegSame, onActive]

@[simp] theorem clearActive_segSame (s : State) : SegSame s (s.clearActive) := by
  simp [SegSame, clearActive]

@[simp] theorem resumeSuspended_segSame (s : State) : SegSame s (s.resumeSuspended) := by
  simp only [resumeSuspended]; repeat' split
  all_goals simp [SegSame]

@[simp] theorem offerFailed_segSame (s : State) : SegSame s (s.offerFailed) := by
  simp only [offerFailed]; repeat' split
  all_goals simp [SegSame]

@[simp] theorem offerLetter_segSame (s : State) (i : LetterIx) (st : Station) : SegSame s (s.offerLetter i st) := by
  simp only [offerLetter]; repeat' split
  all_goals simp [SegSame]

@[simp] theorem suspendNow_segSame (s : State) : SegSame s (s.suspendNow) := by
  simp only [suspendNow]; repeat' split
  all_goals simp [SegSame]

@[simp] theorem afterSuspend_segSame (s : State) : SegSame s (s.afterSuspend) := by
  simp only [afterSuspend]; repeat' split
  all_goals simp [SegSame]

@[simp] theorem look_segSame (s : State) : SegSame s (s.look) := by
  simp only [look]; repeat' split
  all_goals simp [SegSame]

@[simp] theorem afterEnd_segSame (s : State) : SegSame s (s.afterEnd) := by
  simp [SegSame, afterEnd]

@[simp] theorem streamOn_segSame (s : State) : SegSame s (s.streamOn) := by
  simp only [streamOn]; repeat' split
  all_goals simp [SegSame]

@[simp] theorem addUnconfirmed_segSame (s : State) (u : Unconfirmed) : SegSame s (s.addUnconfirmed u) := by
  simp [SegSame, addUnconfirmed]

@[simp] theorem noteUnconfirmed_segSame (s : State) (x : Letter) (p : Progress) : SegSame s (s.noteUnconfirmed x p) := by
  simp only [noteUnconfirmed]; repeat' split
  all_goals simp [SegSame]

@[simp] theorem closeAgain_segSame (s : State) (i : LetterIx) : SegSame s (s.closeAgain i) := by
  simp [SegSame, closeAgain]

@[simp] theorem abortActive_segSame (s : State) : SegSame s (s.abortActive) := by
  simp only [abortActive]; repeat' split
  all_goals simp [SegSame]

@[simp] theorem abortSuspended_segSame (s : State) : SegSame s (s.abortSuspended) := by
  simp only [abortSuspended]; repeat' split
  all_goals simp [SegSame]

@[simp] theorem filingAbsent_segSame (s : State) (st : Station) : SegSame s (s.filingAbsent st) := by
  simp only [filingAbsent]; repeat' split
  all_goals simp [SegSame]

@[simp] theorem reviveStranded_segSame (s : State) : SegSame s (s.reviveStranded) := by
  refine ⟨rfl, ?_⟩
  unfold namedIn
  refine Finset.sum_congr rfl fun i _ => ?_
  simp only [reviveStranded, Fin.getElem_fin, Vector.getElem_map]
  exact blocksIn_map _ _ fun y => by split <;> rfl

@[simp] theorem filingPresent_segSame (s : State) : SegSame s (s.filingPresent) := by
  simp [SegSame, filingPresent]

@[simp] theorem rejectActive_segSame (s : State) : SegSame s (s.rejectActive) := by
  simp only [rejectActive]; repeat' split
  all_goals simp [SegSame]

@[simp] theorem setPhase_segSame (s : State) (ph : DeliveryPhase) (t : Option Nat) : SegSame s (s.setPhase ph t) := by
  simp [SegSame, setPhase]

@[simp] theorem advanceDelivery_segSame (s : State) (a : Machine.Active) (r : SegRec) (d : DataBody) :
    SegSame s (s.advanceDelivery a r d) := by
  simp only [advanceDelivery]; repeat' split
  all_goals simp [SegSame]

/-! ### Numbers -/

@[simp] theorem raiseNext_segSame (s : State) (v : Nat) : SegSame s (s.raiseNext v) := by
  simp [SegSame, raiseNext]

@[simp] theorem claimAbandoned_segSame (s : State) : SegSame s (s.claimAbandoned) := by
  simp [SegSame, claimAbandoned]

@[simp] theorem placeClaim_segSame (s : State) : SegSame s (s.placeClaim) := by
  simp only [placeClaim]; repeat' split
  all_goals simp [SegSame]

@[simp] theorem exhaust_segSame (s : State) : SegSame s (s.exhaust) := by
  simp only [exhaust]; repeat' split
  all_goals simp [SegSame]

@[simp] theorem makeClaim_segSame (s : State) : SegSame s (s.makeClaim) := by
  simp only [makeClaim]; repeat' split
  all_goals simp [SegSame]

@[simp] theorem endClaim_segSame (s : State) : SegSame s (s.endClaim) := by
  simp [SegSame, endClaim]

@[simp] theorem consultClaim_segSame (s : State) : SegSame s (s.consultClaim.1) := by
  simp only [consultClaim]; repeat' split
  all_goals simp [SegSame]

@[simp] theorem assignNumber_segSame (s : State) (n : Nat) : SegSame s (s.assignNumber n) := by
  simp only [assignNumber]; repeat' split
  all_goals simp [SegSame]

@[simp] theorem takeBack_segSame (s : State) (i : LetterIx) : SegSame s (s.takeBack i) := by
  simp [SegSame, takeBack]

@[simp] theorem ignoreObjection_segSame (s : State) : SegSame s (s.ignoreObjection) := by
  simp [SegSame, ignoreObjection]

@[simp] theorem objectedTo_segSame (s : State) (st : Station) (n : Nat) : SegSame s (s.objectedTo st n) := by
  simp only [objectedTo]; repeat' split
  all_goals simp [SegSame]

@[simp] theorem placeBeacon_segSame (s : State) : SegSame s (s.placeBeacon) := by
  simp only [placeBeacon]; repeat' split
  all_goals simp [SegSame]

@[simp] theorem chooseConsole_segSame (s : State) : SegSame s (s.chooseConsole) := by
  simp [SegSame, chooseConsole]

/-! ### Transfers -/

@[simp] theorem backToSelect_segSame (s : State) (l : LineNo) : SegSame s (s.backToSelect l) := by
  simp [SegSame, backToSelect]

@[simp] theorem landOn_segSame (s : State) (l : LineNo) (i : LetterIx) : SegSame s (s.landOn l i) := by
  simp [SegSame, landOn]

@[simp] theorem placeCancel_segSame (s : State) (g : Station) (n : Nat) (r : Option CancelReason) :
    SegSame s (s.placeCancel g n r) := by
  simp only [placeCancel]; repeat' split
  all_goals simp [SegSame]

@[simp] theorem tellFailed_segSame (s : State) (i : LetterIx) : SegSame s (s.tellFailed i) := by
  simp only [tellFailed]; repeat' split
  all_goals simp [SegSame]

@[simp] theorem dropCollection_segSame (s : State) (c : Collection) : SegSame s (s.dropCollection c) := by
  simp [SegSame, dropCollection]

/-- A pick of no letter (R77). -/
@[simp] theorem givePick_none_segSame (s : State) (c : Collection) : SegSame s (s.givePick c .none) := by
  simp only [givePick, actOnPick]; repeat' split
  all_goals simp [SegSame]

@[simp] theorem endQueued_segSame (s : State) (t : BitVec 8) : SegSame s (s.endQueued t) := by
  simp only [endQueued]; repeat' split
  all_goals simp [SegSame]

@[simp] theorem requestLocate_segSame (s : State) (l : LineNo) (a k : Nat) : SegSame s (s.requestLocate l a k) := by
  simp only [requestLocate]; repeat' split
  all_goals simp [SegSame]

@[simp] theorem onOutgoing_segSame (s : State) (f : Outgoing → Outgoing) : SegSame s (s.onOutgoing f) := by
  simp [SegSame, onOutgoing]

@[simp] theorem withdrawTransfer_segSame (s : State) : SegSame s (s.withdrawTransfer) := by
  simp [SegSame, withdrawTransfer]

@[simp] theorem makeCheck_segSame (s : State) : SegSame s (s.makeCheck) := by
  simp only [makeCheck]; repeat' split
  all_goals simp [SegSame]

@[simp] theorem haltOutgoing_segSame (s : State) : SegSame s (s.haltOutgoing) := by
  simp [SegSame, haltOutgoing]

@[simp] theorem transferAbandoned_segSame (s : State) (n : Nat) : SegSame s (s.transferAbandoned n) := by
  simp only [transferAbandoned]; repeat' split
  all_goals simp [SegSame]

@[simp] theorem offerTransfer_segSame (s : State) : SegSame s (s.offerTransfer) := by
  simp only [offerTransfer]; repeat' split
  all_goals simp [SegSame]

@[simp] theorem startStream_segSame (s : State) : SegSame s (s.startStream) := by
  simp [SegSame, startStream]

@[simp] theorem endOutgoing_segSame (s : State) : SegSame s (s.endOutgoing) := by
  simp [SegSame, endOutgoing]

@[simp] theorem lendLetter_segSame (s : State) (i : LetterIx) (x : Letter) (st : Station) : SegSame s (s.lendLetter i x st) := by
  simp only [lendLetter]; repeat' split
  all_goals simp [SegSame]

@[simp] theorem returnHeld_segSame (s : State) (i : LetterIx) : SegSame s (s.returnHeld i) := by
  simp [SegSame, returnHeld]

@[simp] theorem restartReceive_segSame (s : State) : SegSame s (s.restartReceive) := by
  simp [SegSame, restartReceive]

@[simp] theorem settle_segSame (s : State) (e : Settle) : SegSame s (s.settle e) := by
  simp only [settle]; repeat' split
  all_goals simp [SegSame]

@[simp] theorem restartAtGiver_segSame (s : State) (st : Station) : SegSame s (s.restartAtGiver st) := by
  simp only [restartAtGiver]; repeat' split
  all_goals simp [SegSame]

@[simp] theorem onCollection_segSame (s : State) (c d : Collection) : SegSame s (s.onCollection c d) := by
  simp [SegSame, onCollection]

@[simp] theorem advanceOutgoing_segSame (s : State) (r : SegRec) (d : DataBody) : SegSame s (s.advanceOutgoing r d) := by
  simp [SegSame, advanceOutgoing]

/-! ### The link -/

@[simp] theorem enterDetached_segSame (s : State) : SegSame s (s.enterDetached) := by
  simp [SegSame, enterDetached]

@[simp] theorem setFault_segSame (s : State) (n : Nat) : SegSame s (s.setFault n) := by
  simp [SegSame, setFault]

@[simp] theorem faultFalls_segSame (s : State) : SegSame s (s.faultFalls) := by
  simp [SegSame, faultFalls]

@[simp] theorem dropCurrent_segSame (s : State) : SegSame s (s.dropCurrent) := by
  simp [SegSame, dropCurrent]

@[simp] theorem startFrame_segSame (s : State) (f : QFrame) : SegSame s (s.startFrame f) := by
  simp [SegSame, startFrame]

@[simp] theorem consult_segSame (s : State) (f : QFrame) : SegSame s ((s.consult f).1) := by
  simp only [consult]; repeat' split
  all_goals simp [SegSame]

@[simp] theorem frameDone_segSame (s : State) (c : Current) : SegSame s (s.frameDone c) := by
  simp only [frameDone]; repeat' split
  all_goals simp [SegSame]

@[simp] theorem noteError_segSame (s : State) (k : List ErrKind) (n : Nat) : SegSame s (s.noteError k n) := by
  simp [SegSame, noteError]

@[simp] theorem detachIfNew_segSame (s : State) (was : Bool) : SegSame s (s.detachIfNew was) := by
  simp [SegSame, detachIfNew]

@[simp] theorem recover_segSame (s : State) : SegSame s (s.recover) := by
  simp [SegSame, recover]

/-! ### Lines -/

@[simp] theorem refuse_segSame (s : State) (l : LineNo) : SegSame s (s.refuse l) := by
  simp [SegSame, refuse]

@[simp] theorem authorAgain_segSame (s : State) (l : LineNo) : SegSame s (s.authorAgain l) := by
  simp [SegSame, authorAgain]

@[simp] theorem authorDigit_segSame (s : State) (l : LineNo) (d : Digit) : SegSame s (s.authorDigit l d) := by
  simp only [authorDigit]; repeat' split
  all_goals simp [SegSame]

@[simp] theorem authorEnter_segSame (s : State) (l : LineNo) : SegSame s (s.authorEnter l) := by
  simp only [authorEnter]; repeat' split
  all_goals simp [SegSame]

@[simp] theorem authorKey_segSame (s : State) (l : LineNo) (k : Key) : SegSame s (s.authorKey l k) := by
  simp only [authorKey]; repeat' split
  all_goals simp [SegSame]

@[simp] theorem startSeek_segSame (s : State) (l : LineNo) : SegSame s (s.startSeek l) := by
  simp [SegSame, startSeek]

@[simp] theorem restartSeek_segSame (s : State) (l : LineNo) : SegSame s (s.restartSeek l) := by
  simp [SegSame, restartSeek]

@[simp] theorem seekDigit_segSame (s : State) (l : LineNo) (d : Digit) : SegSame s (s.seekDigit l d) := by
  simp only [seekDigit]; repeat' split
  all_goals simp [SegSame]

@[simp] theorem seekEnter_segSame (s : State) (l : LineNo) : SegSame s (s.seekEnter l) := by
  simp [SegSame, seekEnter]

@[simp] theorem seekKey_segSame (s : State) (l : LineNo) (k : Key) : SegSame s (s.seekKey l k) := by
  simp only [seekKey]; repeat' split
  all_goals simp [SegSame]

@[simp] theorem startPass_segSame (s : State) (l : LineNo) (i : LetterIx) : SegSame s (s.startPass l i) := by
  simp [SegSame, startPass]

@[simp] theorem record_segSame (s : State) (l : LineNo) (i : LetterIx) (x : Letter) : SegSame s (s.record l i x) := by
  simp only [record]; repeat' split
  all_goals simp [SegSame]

@[simp] theorem endPlayback_segSame (s : State) (l : LineNo) : SegSame s (s.endPlayback l) := by
  simp [SegSame, endPlayback]

@[simp] theorem play_segSame (s : State) (l : LineNo) (x : Letter) : SegSame s (s.play l x) := by
  simp only [play]; repeat' split
  all_goals simp [SegSame]

@[simp] theorem moveCursor_segSame (s : State) (i : LetterIx) (f : Nat → Nat → Nat) : SegSame s (s.moveCursor i f) := by
  simp [SegSame, moveCursor]

@[simp] theorem toggleMode_segSame (s : State) (i : LetterIx) : SegSame s (s.toggleMode i) := by
  simp [SegSame, toggleMode]

@[simp] theorem markInstruction_segSame (s : State) (i : LetterIx) : SegSame s (s.markInstruction i) := by
  simp [SegSame, markInstruction]

@[simp] theorem togglePriority_segSame (s : State) (i : LetterIx) : SegSame s (s.togglePriority i) := by
  simp [SegSame, togglePriority]

@[simp] theorem letGo_segSame (s : State) (l : LineNo) : SegSame s (s.letGo l) := by
  simp [SegSame, letGo]

@[simp] theorem closeLetter_segSame (s : State) (i : LetterIx) : SegSame s (s.closeLetter i) := by
  simp [SegSame, closeLetter]

@[simp] theorem holdKey_segSame (s : State) (l : LineNo) (i : LetterIx) : SegSame s (s.holdKey l i) := by
  simp [SegSame, holdKey]

@[simp] theorem markKey_segSame (s : State) (l : LineNo) (i : LetterIx) (k : Key) : SegSame s (s.markKey l i k) := by
  simp only [markKey]; repeat' split
  all_goals simp [SegSame]

@[simp] theorem dropTouched_segSame (s : State) (l : LineNo) : SegSame s (s.dropTouched l) := by
  simp [SegSame, dropTouched]

@[simp] theorem stopPlaying_segSame (s : State) (l : LineNo) : SegSame s (s.stopPlaying l) := by
  simp [SegSame, stopPlaying]

@[simp] theorem toneReleased_segSame (s : State) (l : LineNo) : SegSame s (s.toneReleased l) := by
  simp [SegSame, toneReleased]

@[simp] theorem endWinding_segSame (s : State) (l : LineNo) : SegSame s (s.endWinding l) := by
  simp only [endWinding]; repeat' split
  all_goals simp [SegSame]

@[simp] theorem windReleased_segSame (s : State) (l : LineNo) (w : Wind) (h : Bool) : SegSame s (s.windReleased l w h) := by
  simp only [windReleased]; repeat' split
  all_goals simp [SegSame]

@[simp] theorem keyReleased_segSame (s : State) (l : LineNo) (k : Key) : SegSame s (s.keyReleased l k) := by
  simp only [keyReleased]; repeat' split
  all_goals simp [SegSame]

@[simp] theorem toneRecognised_segSame (s : State) (l : LineNo) (k : Key) : SegSame s (s.toneRecognised l k) := by
  simp [SegSame, toneRecognised]

@[simp] theorem startWinding_segSame (s : State) (l : LineNo) (r : ReturnState) : SegSame s (s.startWinding l r) := by
  simp [SegSame, startWinding]

@[simp] theorem keyHeld_segSame (s : State) (l : LineNo) (k : Key) : SegSame s (s.keyHeld l k) := by
  simp only [keyHeld]; repeat' split
  all_goals simp [SegSame]

@[simp] theorem windStepNow_segSame (s : State) (l : LineNo) : SegSame s (s.windStepNow l) := by
  simp only [windStepNow]; repeat' split
  all_goals simp [SegSame]

@[simp] theorem takeLevel_segSame (s : State) (l : LineNo) (b : Bool) : SegSame s (s.takeLevel l b) := by
  simp [SegSame, takeLevel]

@[simp] theorem riseLine_segSame (s : State) (l : LineNo) : SegSame s (s.riseLine l) := by
  simp only [riseLine]; repeat' split
  all_goals simp [SegSame]

@[simp] theorem holdAttached_segSame (s : State) (l : LineNo) : SegSame s (s.holdAttached l) := by
  simp only [holdAttached]; repeat' split
  all_goals simp [SegSame]

@[simp] theorem countPause_segSame (s : State) (l : LineNo) (b : Bool) : SegSame s (s.countPause l b) := by
  simp only [countPause]; repeat' split
  all_goals simp [SegSame]

@[simp] theorem playSlice_segSame (s : State) (l : LineNo) : SegSame s (s.playSlice l) := by
  simp only [playSlice]; repeat' split
  all_goals simp [SegSame]

@[simp] theorem newPeriod_segSame (s : State) (l : LineNo) : SegSame s (s.newPeriod l) := by
  simp [SegSame, newPeriod]

/-! ### Control and peers -/

@[simp] theorem answer_segSame (s : State) (st : Station) (k u : Nat) (c : List Byte) : SegSame s (s.answer st k u c) := by
  simp [SegSame, answer]

@[simp] theorem becomeActive_segSame (s : State) : SegSame s (s.becomeActive) := by
  simp [SegSame, becomeActive]

@[simp] theorem putPeer_segSame (s : State) (st : Station) (b : BeaconBody) : SegSame s (s.putPeer st b) := by
  simp only [putPeer]; repeat' split
  all_goals simp [SegSame]

@[simp] theorem tellPresent_segSame (s : State) (c : StationClass) : SegSame s (s.tellPresent c) := by
  simp only [tellPresent]; repeat' split
  all_goals simp [SegSame]

@[simp] theorem tellAbsent_segSame (s : State) (st : Station) (c : StationClass) : SegSame s (s.tellAbsent st c) := by
  simp only [tellAbsent]; repeat' split
  all_goals simp [SegSame]

@[simp] theorem tellChange_segSame (s : State) (p : Peer) (b : BeaconBody) : SegSame s (s.tellChange p b) := by
  simp only [tellChange]; repeat' split
  all_goals simp [SegSame]

@[simp] theorem raiseByBeacon_segSame (s : State) (b : BeaconBody) : SegSame s (s.raiseByBeacon b) := by
  simp only [raiseByBeacon]; repeat' split
  all_goals simp [SegSame]

@[simp] theorem silence_segSame (s : State) (st : Station) : SegSame s (s.silence st) := by
  simp [SegSame, silence]

end State

end Sys2Proof.Machine
end

section
/-! What the operations on segment memory and chains do to the accounts: each is some of the moves. -/

namespace Sys2Proof.Machine

/-! ### Blocks named by a chain, and a chain edit -/

/-- A block that may be there. -/
def maybeBlock (o : Option Nat) : Multiset Nat := o.elim 0 ({·})

@[simp] theorem maybeBlock_none : maybeBlock none = 0 := rfl

@[simp] theorem maybeBlock_some (b : Nat) : maybeBlock (some b) = {b} := rfl

/-- A split names the block of the record it cuts once more (R9). -/
theorem chainBlocks_split (c : List SegRec) (k : Nat) :
    chainBlocks (chainSplit c k).1 + chainBlocks (chainSplit c k).2 =
      maybeBlock ((chainInside c k).map (·.block)) + chainBlocks c := by
  induction c generalizing k with
  | nil => simp [chainSplit, chainInside]
  | cons r rest ih =>
    simp only [chainSplit, chainInside]
    split
    · simp
    · split
      · simp [Multiset.singleton_add]
      · have := ih (k - r.count)
        simp only [chainBlocks_cons, Multiset.cons_add, Multiset.add_cons, this]

theorem chainInside_mem {c : List SegRec} {k : Nat} {r : SegRec} (h : chainInside c k = some r) : r ∈ c := by
  induction c generalizing k with
  | nil => simp [chainInside] at h
  | cons q c ih =>
    simp only [chainInside] at h
    split at h
    · exact absurd h (by simp)
    · split at h
      · simp_all
      · exact List.mem_cons_of_mem _ (ih h)

/-- A record that grows stays in its block (R13). -/
theorem chainBlocks_growLast (front : List SegRec) : chainBlocks (growLast front) = chainBlocks front := by
  rcases List.eq_nil_or_concat front with rfl | ⟨c, r, rfl⟩
  · rfl
  · simp [growLast]

/-- A trim removes one record at most (R10). -/
theorem chainBlocks_trim (c : List SegRec) :
    chainBlocks (trimFront c) + maybeBlock (trimRemoves c) = chainBlocks c := by
  cases c with
  | nil => rfl
  | cons r rest =>
    simp only [trimFront, trimRemoves]
    split
    · simp [add_comm, Multiset.singleton_add]
    · simp

/-- What an edit of a chain adds to the blocks named, and takes off (R13, R14). -/
theorem chainBlocks_edit (x : Letter) (p : Pass) (b i : Nat) :
    let e := chainEdit x p b i
    chainBlocks e.chain + maybeBlock e.removed =
      (if e.placed then {b} else 0) + (maybeBlock e.splitBlock + chainBlocks x.chain) := by
  have hfront : ∀ ext : Bool, chainBlocks (if ext then growLast (chainSplit x.chain x.cursor).1 else
      (chainSplit x.chain x.cursor).1 ++ [⟨b, i, 1, p.number, p.kind⟩]) =
      (if !ext then {b} else 0) + chainBlocks (chainSplit x.chain x.cursor).1 := by
    intro ext
    cases ext
    · simp [add_comm]
    · simpa using chainBlocks_growLast _
  have hback : ∀ cut : Bool, chainBlocks (if cut then trimFront (chainSplit x.chain x.cursor).2
      else (chainSplit x.chain x.cursor).2) +
      maybeBlock (if cut then trimRemoves (chainSplit x.chain x.cursor).2 else none) =
      chainBlocks (chainSplit x.chain x.cursor).2 := by
    intro cut
    cases cut
    · simp
    · simpa using chainBlocks_trim _
  dsimp only [chainEdit]
  rw [← chainBlocks_split, chainBlocks_append, add_assoc, hback, hfront, add_assoc]

/-- The records an edit takes from the pool: one for a split, one for a record placed. -/
theorem chainEdit_taken (x : Letter) (p : Pass) (b i : Nat) :
    let e := chainEdit x p b i
    e.taken = (if e.splitBlock.isSome then 1 else 0) + (if e.placed then 1 else 0) := by
  dsimp only [chainEdit]
  congr 1
  · simp
  · split <;> simp_all

theorem chainEdit_split_mem {x : Letter} {p : Pass} {b i n : Nat} (h : (chainEdit x p b i).splitBlock = some n) :
    n ∈ chainBlocks x.chain := by
  obtain ⟨r, hr, rfl⟩ := Option.map_eq_some_iff.mp h
  exact Multiset.mem_coe.mpr (List.mem_map_of_mem (chainInside_mem hr))

namespace State

/-! ### The block operations leave the letters -/

@[simp] theorem decRef_letters (s : State) (b : Nat) : (s.decRef b).letters = s.letters := by rw [decRef_only s b]
@[simp] theorem incRef_letters (s : State) (b : Nat) : (s.incRef b).letters = s.letters := rfl
@[simp] theorem sealBlock_letters (s : State) (b : Nat) : (s.sealBlock b).letters = s.letters := by
  rw [sealBlock_only s b]
@[simp] theorem giveBlock_letters (s : State) (o : LetterIx) (f : Filler) (p q : Nat) :
    (s.giveBlock o f p q).letters = s.letters := rfl
@[simp] theorem chargeLine_letters (s : State) (l : LineNo) : (s.chargeLine l).letters = s.letters := rfl
@[simp] theorem chargeTransfer_letters (s : State) : s.chargeTransfer.letters = s.letters := rfl
@[simp] theorem dropRecords_letters (c : List SegRec) (s : State) : (dropRecords c s).letters = s.letters := by
  rw [dropRecords_only c s]
@[simp] theorem sealAll_letters (bs : List Nat) (s : State) : (sealAll bs s).letters = s.letters := by
  rw [sealAll_only bs s]

/-! ### Sealing and dropping -/

theorem sealBlock_segStep (s : State) (b : Nat) : SegStep s (s.sealBlock b) := by
  rw [SegStep, sealBlock_letters]
  exact .sealed s _ b

theorem sealAll_moves (bs : List Nat) (s : State) (M : Multiset Nat) :
    Moves s.seg M (sealAll bs s).seg M := by
  induction bs generalizing s with
  | nil => exact .refl _ _
  | cons b rest ih => exact (Moves.sealed s M b).trans (ih _)

theorem sealAll_segStep (bs : List Nat) (s : State) : SegStep s (sealAll bs s) := by
  rw [SegStep, sealAll_letters]
  exact sealAll_moves bs s _

theorem sealOwned_segStep (s : State) (i : LetterIx) : SegStep s (s.sealOwned i) := sealAll_segStep _ s

/-- Records dropped take their blocks off. -/
theorem dropRecords_moves (c : List SegRec) (s : State) (M : Multiset Nat) :
    Moves s.seg (chainBlocks c + M) (dropRecords c s).seg M := by
  induction c generalizing s with
  | nil =>
    rw [chainBlocks_nil, zero_add]
    exact .refl _ _
  | cons r rest ih =>
    have hdrop := Moves.dropped s (chainBlocks rest + M) r.block
    rw [← Multiset.cons_add] at hdrop
    exact hdrop.trans (ih _)

/-- The named blocks with a letter's own set apart. -/
theorem namedIn_eq_add {v : Vector (Option Letter) 64} {i : LetterIx} {x : Letter} (h : v[i] = some x) :
    namedIn v = chainBlocks x.chain + namedIn (v.set i none) := by
  have := namedIn_set v i none
  rw [h, blocksIn_none, add_zero, blocksIn_some] at this
  rw [← this, add_comm]

/-- A letter is freed with its records (R4). -/
theorem freeLetter_segStep (s : State) (i : LetterIx) : SegStep s (s.freeLetter i) := by
  unfold freeLetter
  split
  case h_1 => exact .refl s
  case h_2 x hx =>
    have hdrop := dropRecords_moves x.chain.reverse s (namedIn (s.letters.set i none))
    rw [chainBlocks_reverse, ← namedIn_eq_add hx] at hdrop
    have hseal := sealAll_moves (((dropRecords x.chain.reverse s).seg.blocks.filter fun b =>
      b.owner == i && b.filler.isSome).map (·.num)) (dropRecords x.chain.reverse s) (namedIn (s.letters.set i none))
    simpa [SegStep] using hdrop.trans hseal

/-- A letter's chain loses the records of one pass, which are dropped (R19). -/
theorem discardPass_segStep (s : State) (i : LetterIx) (x : Letter) (hx : s.letters[i] = some x) :
    SegStep s (s.discardPass i x) := by
  have hparts : chainBlocks x.chain = chainBlocks (x.chain.filter fun r => r.pass = highestPass x.chain) +
      chainBlocks (x.chain.filter fun r => r.pass ≠ highestPass x.chain) := by
    generalize highestPass x.chain = n
    induction x.chain with
    | nil => rfl
    | cons r c ih => by_cases h : r.pass = n <;> simp [h, ih]
  have hnamed : namedIn s.letters = chainBlocks (x.chain.filter fun r => r.pass = highestPass x.chain) +
      namedIn (s.discardPass i x).letters := by
    have hset := namedIn_eq_add (v := (s.discardPass i x).letters) (i := i)
      (x := { x with
        chain := x.chain.filter fun r => r.pass ≠ highestPass x.chain
        cursor := min (firstOfPass (highestPass x.chain) x.chain)
          (chainLength (x.chain.filter fun r => r.pass ≠ highestPass x.chain)) })
      (by have : s.letters[i.val] = some x := hx; simp [discardPass, this])
    rw [namedIn_eq_add hx, hset, hparts, add_assoc]
    simp [discardPass]
  rw [SegStep, hnamed]
  exact dropRecords_moves _ (s.onLetter i _) _

/-! ### A commit (R12 to R14) -/

theorem freeBlock_poolFree (s : State) (b : Nat) : (s.freeBlock b).seg.poolFree = s.seg.poolFree := by
  unfold freeBlock; split <;> rfl

theorem sealBlock_poolFree (s : State) (b : Nat) : (s.sealBlock b).seg.poolFree = s.seg.poolFree := by
  unfold sealBlock when
  split
  · rfl
  · split
    · split
      · rw [freeBlock_poolFree]; rfl
      · rfl
    · rfl

theorem chargeLine_poolFree (s : State) (l : LineNo) : (s.chargeLine l).seg.poolFree = s.seg.poolFree := by
  simp only [chargeLine, onSeg_seg]
  split <;> rfl

/-- A new filling block leaves the letters and the pool. -/
theorem takeFilling_keeps (s : State) (l : LineNo) (i : LetterIx) (n : Nat) :
    (s.takeFilling l i n).letters = s.letters ∧ (s.takeFilling l i n).seg.poolFree = s.seg.poolFree := by
  simp only [takeFilling]
  split
  · simp only [onLine_letters, onLine_seg, sealBlock_letters, giveBlock_letters, chargeLine_letters, true_and]
    rw [sealBlock_poolFree]
    exact chargeLine_poolFree s l
  · exact ⟨rfl, chargeLine_poolFree s l⟩

/-- A line that may take a block is given one, and its last one is sealed (R37, R45). -/
theorem takeFilling_moves {s : State} {l : LineNo} (hmay : s.lineMayTake l = true) (i : LetterIx) (n : Nat)
    (M : Multiset Nat) : Moves s.seg M (s.takeFilling l i n).seg M := by
  simp only [takeFilling]
  split
  · exact (Moves.giveLine s M l i (.line l) n _ hmay).trans (.sealed _ M _)
  · exact .giveLine s M l i (.line l) n _ hmay

/-- A slice written into a block leaves the letters, the pool and the blocks there are. -/
theorem writeSlice_moves (s : State) (l : LineNo) (b : Nat) (h : HoldSlice) (M : Multiset Nat) :
    Moves s.seg M (s.writeSlice l b h).seg M ∧ (s.writeSlice l b h).letters = s.letters ∧
      (s.writeSlice l b h).seg.poolFree = s.seg.poolFree ∧
      ((s.seg.find b).isSome = true → ((s.writeSlice l b h).seg.find b).isSome = true) := by
  have hlisted : ∀ {g g' : Segment} {f : Block → Block}, g'.blocks = g.blocks.map f →
      (∀ x, (f x).num = x.num ∧ (f x).refs = x.refs ∧ (f x).filler = x.filler) →
      (g.find b).isSome = true → (g'.find b).isSome = true := by
    intro g g' f hblocks hf hsome
    obtain ⟨x, hx, hnum⟩ := (Segment.find_isSome g b).mp hsome
    refine (Segment.find_isSome g' b).mpr ⟨f x, ?_, by rw [(hf x).1, hnum]⟩
    rw [hblocks]
    exact List.mem_map_of_mem hx
  simp only [writeSlice]
  split
  · obtain ⟨f, hf, hblocks, hpool, -⟩ := s.seg.appendVoiced_blocks b
      (voicedRecord ‹_› (s.coders[l].exit == some ‹_›) ‹_› ‹_›)
    exact ⟨.voiced _ M b _, rfl, hpool, hlisted hblocks hf⟩
  · obtain ⟨f, hf, hblocks, hpool, -⟩ := s.seg.appendSilence_blocks b
    exact ⟨.silence _ M b, rfl, hpool, hlisted hblocks hf⟩

/-- Records placed one after the other, taken from the pool together. -/
theorem placed_moves (bs : List Nat) (s : State) (M : Multiset Nat) (hpool : bs.length ≤ s.seg.poolFree)
    (hlisted : ∀ b ∈ bs, (s.seg.find b).isSome = true ∨ b ∈ M) :
    Moves s.seg M (bs.foldl incRef (s.onSeg (Segment.takeRecords bs.length))).seg (↑bs + M) := by
  induction bs generalizing s M with
  | nil => simpa [Segment.takeRecords] using Moves.refl s.seg M
  | cons b rest ih =>
    rw [List.length_cons] at hpool
    have hfirst := Moves.placed s M b (by omega) (hlisted b (by simp))
    have htake : (s.onSeg (Segment.takeRecords (rest.length + 1))).incRef b =
        ((s.onSeg (Segment.takeRecords 1)).incRef b).onSeg (Segment.takeRecords rest.length) := by
      simp [incRef, onSeg, Segment.takeRecords, Segment.update, Nat.sub_sub, Nat.add_comm]
    have hrest := ih ((s.onSeg (Segment.takeRecords 1)).incRef b) (b ::ₘ M)
      (by change rest.length ≤ s.seg.poolFree - 1; omega) (by
        intro n hn
        rcases hlisted n (List.mem_cons_of_mem b hn) with hsome | hmem
        · left
          obtain ⟨x, hx, rfl⟩ := (Segment.find_isSome _ _).mp hsome
          refine (Segment.find_isSome _ _).mpr ⟨_, List.mem_map_of_mem hx, ?_⟩
          split <;> rfl
        · exact .inr (Multiset.mem_cons_of_mem hmem))
    rw [← htake, Multiset.add_cons, ← Multiset.cons_add, Multiset.cons_coe] at hrest
    exact hfirst.trans hrest

/-- The blocks an edit names once more: of the record it cuts, and of a record placed. -/
def editNames (e : ChainEdit) (b : Nat) : List Nat := e.splitBlock.toList ++ if e.placed then [b] else []

theorem editNames_coe (e : ChainEdit) (b : Nat) :
    (↑(editNames e b) : Multiset Nat) = (if e.placed then {b} else 0) + maybeBlock e.splitBlock := by
  obtain ⟨chain, taken, split, placed, removed⟩ := e
  rw [editNames, ← Multiset.coe_add, add_comm]
  cases split <;> cases placed <;> rfl

theorem length_editNames (e : ChainEdit) (b : Nat) :
    (editNames e b).length = (if e.splitBlock.isSome then 1 else 0) + (if e.placed then 1 else 0) := by
  obtain ⟨chain, taken, split, placed, removed⟩ := e
  cases split <;> cases placed <;> rfl

/-- The letter of an edit takes its new chain, and its cursor moves on (R13). -/
def takeChain (s : State) (i : LetterIx) (e : ChainEdit) : State :=
  s.onLetter i fun x => { x with chain := e.chain, cursor := x.cursor + 1 }

/-- An edit places its records, and drops the one it removes. -/
theorem editChain_eq (s : State) (i : LetterIx) (e : ChainEdit) (b : Nat) :
    s.editChain i e b = e.removed.elim
      ((editNames e b).foldl incRef ((s.takeChain i e).onSeg (Segment.takeRecords e.taken)))
      fun n => (((editNames e b).foldl incRef ((s.takeChain i e).onSeg (Segment.takeRecords e.taken))).onSeg
          (Segment.returnRecords 1)).decRef n := by
  obtain ⟨chain, taken, split, placed, removed⟩ := e
  cases split <;> cases placed <;> cases removed <;> rfl

@[simp] theorem foldl_incRef_letters (bs : List Nat) (s : State) : (bs.foldl incRef s).letters = s.letters := by
  induction bs generalizing s with
  | nil => rfl
  | cons b rest ih => rw [List.foldl_cons, ih]; rfl

theorem editChain_letters (s : State) (i : LetterIx) (e : ChainEdit) (b : Nat) :
    (s.editChain i e b).letters = (s.takeChain i e).letters := by
  rw [editChain_eq]
  cases e.removed <;> simp

/-- The edit of a commit, with records enough in the pool and the slice's block in the table (R13, R14). -/
theorem editChain_segStep {s : State} {i : LetterIx} {x : Letter} (hx : s.letters[i] = some x) (p : Pass)
    (b ix : Nat) (hpool : (chainEdit x p b ix).taken ≤ s.seg.poolFree) (hfind : (s.seg.find b).isSome = true) :
    SegStep s (s.editChain i (chainEdit x p b ix) b) := by
  have htaken : (chainEdit x p b ix).taken = (editNames (chainEdit x p b ix) b).length := by
    rw [chainEdit_taken, length_editNames]
  have hnamed : ↑(editNames (chainEdit x p b ix) b) + namedIn s.letters =
      maybeBlock (chainEdit x p b ix).removed + namedIn (s.editChain i (chainEdit x p b ix) b).letters := by
    have hset : namedIn (s.editChain i (chainEdit x p b ix) b).letters + chainBlocks x.chain =
        namedIn s.letters + chainBlocks (chainEdit x p b ix).chain := by
      have := namedIn_set s.letters i (s.letters[i].map fun z =>
        { z with chain := (chainEdit x p b ix).chain, cursor := z.cursor + 1 })
      rw [editChain_letters]
      rw [hx] at this
      simpa [takeChain, hx] using this
    have hedit := chainBlocks_edit x p b ix
    rw [editNames_coe]
    apply add_right_cancel (b := chainBlocks x.chain)
    rw [add_assoc (maybeBlock _), hset, add_right_comm, add_assoc (ite _ _ _), ← hedit]
    abel
  have hlisted : ∀ n ∈ editNames (chainEdit x p b ix) b, (s.seg.find n).isSome = true ∨ n ∈ namedIn s.letters := by
    intro n hn
    rcases List.mem_append.mp hn with hn | hn
    · right
      rw [namedIn_eq_add hx]
      exact Multiset.mem_add.mpr (.inl (chainEdit_split_mem (by simpa using hn)))
    · left
      split at hn
      · rwa [List.mem_singleton.mp hn]
      · exact absurd hn (by simp)
  have hplaced := placed_moves _ (s.takeChain i (chainEdit x p b ix)) (namedIn s.letters) (htaken ▸ hpool) hlisted
  rw [← htaken, hnamed] at hplaced
  rw [SegStep]
  conv => arg 3; rw [editChain_eq]
  cases hremoved : (chainEdit x p b ix).removed with
  | none => simpa [hremoved, takeChain] using hplaced
  | some n =>
    rw [hremoved, maybeBlock_some, Multiset.singleton_add] at hplaced
    exact hplaced.trans (.dropped _ _ n)

/-- The letter and the pass a line works on are in the table (R6). -/
theorem passOf_spec {s : State} {l : LineNo} {i : LetterIx} {x : Letter} {p : Pass}
    (h : s.passOf l = some (i, x, p)) : s.lines[l].attached = some i ∧ s.letters[i] = some x ∧ x.pass = some p := by
  unfold passOf at h
  obtain ⟨j, hj, h⟩ := Option.bind_eq_some_iff.mp h
  obtain ⟨y, hy, h⟩ := Option.bind_eq_some_iff.mp h
  obtain ⟨q, hq, h⟩ := Option.map_eq_some_iff.mp h
  simp only [Prod.mk.injEq] at h
  obtain ⟨rfl, rfl, rfl⟩ := h
  exact ⟨hj, hy, hq⟩

/-- What a commit that fails no check has (R12). -/
theorem commitFails_none {s : State} {l : LineNo} {x : Letter} {p : Pass} {c : Coded}
    (h : s.commitFails l x p c = none) :
    recordsNeeded x (s.landing l c) ≤ s.seg.poolFree ∧ ((s.landing l c).isNone = true → s.lineMayTake l = true) := by
  simp only [commitFails] at h
  split at h
  · exact absurd h (by simp)
  · split at h
    · exact absurd h (by simp)
    · split at h
      · exact absurd h (by simp)
      · rename_i hpool hmem
        refine ⟨by omega, fun hland => ?_⟩
        by_contra hmay
        exact hmem ⟨hland, by simpa using hmay⟩

/-- An edit takes no more records than the checks of a commit asked for (R12). -/
theorem chainEdit_taken_le (x : Letter) (p : Pass) (land : Option Block) (b ix : Nat)
    (h : ∀ y, land = some y → y.num = b ∧ y.slices = ix) :
    (chainEdit x p b ix).taken ≤ recordsNeeded x land := by
  simp only [chainEdit, recordsNeeded]
  apply Nat.add_le_add_left
  cases land with
  | none => split <;> simp
  | some y =>
    obtain ⟨rfl, rfl⟩ := h y rfl
    exact Nat.le_refl _

/-- A commit that passes its checks (R12 steps 4 and 5). -/
theorem commitPlace_segStep {s : State} {l : LineNo} {i : LetterIx} {x : Letter} {p : Pass} {h : HoldSlice}
    (hx : s.letters[i] = some x) (hchecks : s.commitFails l x p h.coded = none) :
    SegStep s (s.commitPlace l i x p h) := by
  obtain ⟨hneed, hmay⟩ := commitFails_none hchecks
  have hland : ∃ t, t = when (s.landing l h.coded).isNone (·.takeFilling l i p.number) s ∧
      Moves s.seg (namedIn s.letters) t.seg (namedIn s.letters) ∧ t.letters = s.letters ∧
      t.seg.poolFree = s.seg.poolFree ∧
      ∀ b, t.lines[l].filling.bind t.seg.find = some b → (chainEdit x p b.num b.slices).taken ≤ s.seg.poolFree := by
    refine ⟨_, rfl, ?_⟩
    unfold when
    split
    case isTrue hnone =>
      refine ⟨takeFilling_moves (hmay hnone) i _ _, (takeFilling_keeps s l i _).1, (takeFilling_keeps s l i _).2, ?_⟩
      intro b _
      refine le_trans (chainEdit_taken_le x p (s.landing l h.coded) _ _ fun y hy => ?_) hneed
      rw [hy] at hnone
      exact absurd hnone (by simp)
    case isFalse hsome =>
      refine ⟨.refl _ _, rfl, rfl, fun b hb => ?_⟩
      refine le_trans (chainEdit_taken_le x p (s.landing l h.coded) _ _ fun y hy => ?_) hneed
      rw [landing, hb] at hy
      obtain rfl : b = y := by simpa using Option.eq_some_of_filter_eq_some hy
      exact ⟨rfl, rfl⟩
  obtain ⟨t, ht, hmoves, hletters, hpool, htaken⟩ := hland
  simp only [commitPlace, ← ht]
  split
  case h_1 => rw [SegStep, hletters]; exact hmoves
  case h_2 b hb =>
    have hfind : (t.seg.find b.num).isSome = true := by
      obtain ⟨n, hn, hfind⟩ := Option.bind_eq_some_iff.mp hb
      have : b.num = n := by simpa using List.find?_some hfind
      rw [this, hfind]; rfl
    obtain ⟨hwrite, hwletters, hwpool, hwfind⟩ := writeSlice_moves t l b.num h (namedIn s.letters)
    have hedit := editChain_segStep (s := t.writeSlice l b.num h) (i := i) (by rw [hwletters, hletters]; exact hx)
      p b.num b.slices (by rw [hwpool, hpool]; exact htaken b hb) (hwfind hfind)
    rw [SegStep, hwletters, hletters] at hedit
    simpa [SegStep] using (hmoves.trans hwrite).trans hedit

end State

end Sys2Proof.Machine
end

section
/-! Every operation of the units, every command and every tick makes such moves. -/

namespace Sys2Proof.Machine.State

/-! ### Passes -/

theorem leaveHold_segStep (s : State) (l : LineNo) (h : HoldSlice) : SegStep s (s.leaveHold l h).1 := by
  unfold leaveHold
  split
  case h_1 => exact .refl s
  case h_2 i x p hpass =>
    obtain ⟨-, hx, -⟩ := passOf_spec hpass
    split
    · exact SegSame.step (by simp [SegSame])
    · split
      case h_1 => exact .refl s
      case h_2 hchecks =>
        have hplace := commitPlace_segStep hx hchecks
        dsimp only
        split <;> exact hplace.then_same (by simp [SegSame])

theorem flushHold_segStep (l : LineNo) (hs : List HoldSlice) (s : State) : SegStep s (flushHold l hs s).1 := by
  induction hs generalizing s with
  | nil => exact .refl s
  | cons h rest ih =>
    have hleave := leaveHold_segStep s l h
    unfold flushHold
    split
    case h_1 t f heq => rw [heq] at hleave; exact hleave
    case h_2 t heq => rw [heq] at hleave; exact hleave.trans (ih t)

/-- The filling block of a line is sealed (R15, R40). -/
def sealFilling (s : State) (l : LineNo) : State := s.lines[l].filling.elim s s.sealBlock

/-- The attached letter of a line has no pass in progress any more (R15). -/
def dropPass (s : State) (l : LineNo) : State :=
  s.lines[l].attached.elim s fun i => s.onLetter i fun x => { x with pass := none }

/-- End Pass: the line's block, the line, its letter, its Coder (R15). -/
theorem endPass_eq (s : State) (l : LineNo) : s.endPass l =
    (((s.sealFilling l).onLine l fun c => { c with filling := none, hold := [] }).dropPass l).onCoder l
      fun c => { c with exit := none, silence := 0 } := by
  have hdrop : ∀ t : State, (match t.lines[l].attached with
      | some i => t.onLetter i fun x => { x with pass := none }
      | none => t) = t.dropPass l := by
    intro t
    unfold dropPass
    split <;> rename_i h <;> rw [h] <;> rfl
  rcases h : s.lines[l].filling with _ | b <;>
    simp only [endPass, sealFilling, h, Option.elim_none, Option.elim_some, ← hdrop] <;> rfl

theorem sealFilling_segStep (s : State) (l : LineNo) : SegStep s (s.sealFilling l) := by
  unfold sealFilling
  cases s.lines[l].filling with
  | none => exact .refl s
  | some b => exact sealBlock_segStep s b

@[simp] theorem dropPass_segSame (s : State) (l : LineNo) : SegSame s (s.dropPass l) := by
  unfold dropPass
  cases s.lines[l].attached <;> simp [SegSame]

theorem endPass_segStep (s : State) (l : LineNo) : SegStep s (s.endPass l) := by
  rw [endPass_eq]
  exact (sealFilling_segStep s l).then_same (by simp [SegSame])

theorem failPass_segStep (s : State) (l : LineNo) (f : PassFail) : SegStep s (s.failPass l f) :=
  (endPass_segStep s l).then_same (raise_segSame _ _)

theorem finishPass_segStep (s : State) (l : LineNo) : SegStep s (s.finishPass l).1 := by
  have hflush := flushHold_segStep l s.lines[l].hold s
  unfold finishPass
  split
  case h_1 t f heq => rw [heq] at hflush; exact hflush.trans (failPass_segStep t l f)
  case h_2 t heq => rw [heq] at hflush; exact hflush.trans (endPass_segStep t l)

theorem closePass_segStep (s : State) (l : LineNo) (p : Option Prompt) : SegStep s (s.closePass l p) := by
  refine (finishPass_segStep s l).then_same ?_
  simp only [closePass]
  split <;> simp [SegSame]

/-! ### Letters and transfers that end -/

theorem fileLetter_segStep (s : State) (i : LetterIx) (n : Nat) (st : Station) :
    SegStep s (s.fileLetter i n st) :=
  (freeLetter_segStep s i).then_same (by simp [SegSame, fileLetter])

theorem endIncoming_segStep (s : State) : SegStep s s.endIncoming := .released _ _

theorem incomingFail_segStep (s : State) (c : Option CancelReason) (why : TransferReason) :
    SegStep s (s.incomingFail c why) := by
  unfold incomingFail
  split
  · exact .refl s
  · rename_i inc _
    exact ((freeLetter_segStep s inc.letter).trans (endIncoming_segStep _)).then_same (by simp [SegSame])

/-- A letter that takes a FREE entry brings no record (R3, R158). -/
theorem namedIn_set_free {v : Vector (Option Letter) 64} {i : LetterIx} {x : Letter} (hfree : v[i] = none)
    (hx : x.chain = []) : namedIn (v.set i (some x)) = namedIn v :=
  namedIn_set_same v i _ (by rw [hfree, blocksIn_some, hx]; rfl)

theorem freeEntry_spec {s : State} {i : LetterIx} (h : s.freeEntry = some i) : s.letters[i] = none := by
  simpa using List.find?_some h

theorem fetchEntry_spec {s : State} {st : Station} {n : Nat} {i : LetterIx} (h : s.fetchEntry st n = some i) :
    s.letters[i] = none := by
  unfold fetchEntry at h
  split at h
  · exact absurd h (by simp)
  · exact freeEntry_spec h

theorem startFetch_segStep (s : State) (l : LineNo) (st : Station) (n a : Nat) :
    SegStep s (s.startFetch l st n a) := by
  simp only [startFetch]
  split
  case h_1 => exact SegSame.step (backToSelect_segSame s l)
  case h_2 i hentry =>
    have hnamed := namedIn_set_free (x := .new n a .transitIn none (some st)) (fetchEntry_spec hentry) rfl
    split
    · exact SegSame.step (by simpa [SegSame] using hnamed)
    · exact (incomingFail_segStep _ _ _).after_same (by simpa [SegSame] using hnamed)

theorem givePick_segStep (s : State) (c : Collection) (p : Pick) : SegStep s (s.givePick c p) := by
  unfold givePick
  split
  case isTrue =>
    cases p with
    | none => exact SegSame.step (by simp [SegSame, actOnPick])
    | own i => refine SegSame.step ?_; simp only [actOnPick]; split <;> simp [SegSame]
    | remote st n => exact (startFetch_segStep _ _ _ _ _).after_same (by simp [SegSame])
  case isFalse => exact .refl s

theorem releaseLetter_segStep (s : State) (i : LetterIx) (n : Nat) (st : Station) :
    SegStep s (s.releaseLetter i n st) :=
  (freeLetter_segStep s i).then_same (by simp [SegSame, releaseLetter])

theorem finishIncoming_segStep (s : State) (c : Incoming) (p : Snapshot) : SegStep s (s.finishIncoming c p) := by
  refine ((sealOwned_segStep s c.letter).trans (endIncoming_segStep _)).then_same ?_
  simp only [finishIncoming]
  split <;> simp [SegSame]

theorem restartAtTaker_segStep (s : State) (st : Station) : SegStep s (s.restartAtTaker st) := by
  unfold restartAtTaker
  split
  · exact incomingFail_segStep _ _ _
  · exact .refl s

/-- A fold of moves is moves. -/
theorem SegStep.foldl {α : Type} (f : State → α → State) (hf : ∀ s a, SegStep s (f s a)) (as : List α) (s : State) :
    SegStep s (as.foldl f s) := by
  induction as generalizing s with
  | nil => exact .refl s
  | cons a as ih => exact (hf s a).trans (ih _)

theorem partnerRestart_segStep (s : State) (st : Station) : SegStep s (s.partnerRestart st) :=
  ((restartAtTaker_segStep _ st).after_same (restartAtGiver_segSame s st)).trans
    (SegStep.foldl _ (fun s e => SegSame.step (settle_segSame s e)) _ _)

theorem takeBeacon_segStep (s : State) (st : Station) (b : BeaconBody) : SegStep s (s.takeBeacon st b) := by
  unfold takeBeacon
  split
  · refine SegSame.step ?_
    unfold when; split <;> simp [SegSame]
  · rename_i old _
    have hrestart : SegStep s (when (showsRestart old b) (·.seeRestart old) s) := by
      unfold when; split
      · exact (partnerRestart_segStep _ _).after_same (raise_segSame _ _)
      · exact .refl s
    exact hrestart.then_same (by simp [SegSame])

/-! ### Repacking (R163) -/

theorem foldl_appendSilence_moves (b : Nat) (ns : List Nat) (g : Segment) (M : Multiset Nat) :
    Moves g M (ns.foldl (fun g _ => g.appendSilence b) g) M := by
  induction ns generalizing g with
  | nil => exact .refl g M
  | cons n ns ih => exact (Moves.silence g M b).trans (ih _)

/-- The bytes of an item, without its record. -/
def putItem (s : State) (b : Nat) : RxItem → State
  | .header .. => s
  | .voiced bytes => s.onSeg (·.appendVoiced b bytes)
  | .silence n => s.onSeg fun g => (List.range n).foldl (fun g _ => g.appendSilence b) g

theorem writeItem_eq (s : State) (i : LetterIx) (b : Nat) (h : RepackHeader) (first : Bool) (it : RxItem) :
    s.writeItem i b h first it =
      if first then
        when ((s.putItem b it).letters[i].isSome) (fun s =>
          ((s.onLetter i fun x => { x with chain := x.chain ++ [⟨b, 0, it.span, h.pass, h.kind⟩] }).onSeg
            (Segment.takeRecords 1)).incRef b) (s.putItem b it)
      else
        (s.putItem b it).onLetter i fun x =>
          match x.chain.getLast? with
          | some r => { x with chain := x.chain.dropLast ++ [{ r with count := r.count + it.span }] }
          | none => x := by
  cases it <;> rfl

@[simp] theorem putItem_letters (s : State) (b : Nat) (it : RxItem) : (s.putItem b it).letters = s.letters := by
  cases it <;> rfl

theorem putItem_moves (s : State) (b : Nat) (it : RxItem) (M : Multiset Nat) :
    Moves s.seg M (s.putItem b it).seg M := by
  cases it with
  | header => exact .refl _ _
  | voiced bytes => exact .voiced _ _ b bytes
  | silence n => exact foldl_appendSilence_moves b _ _ M

/-- The blocks there are stay when an item's bytes are written. -/
theorem putItem_find (s : State) (b n : Nat) (it : RxItem) (h : (s.seg.find n).isSome = true) :
    ((s.putItem b it).seg.find n).isSome = true ∧ (s.putItem b it).seg.poolFree = s.seg.poolFree := by
  have hmap : ∀ {g g' : Segment} {f : Block → Block}, g'.blocks = g.blocks.map f →
      (∀ x, (f x).num = x.num ∧ (f x).refs = x.refs ∧ (f x).filler = x.filler) →
      (g.find n).isSome = true → (g'.find n).isSome = true := by
    intro g g' f hblocks hf hsome
    obtain ⟨x, hx, hnum⟩ := (Segment.find_isSome g n).mp hsome
    refine (Segment.find_isSome g' n).mpr ⟨f x, ?_, by rw [(hf x).1, hnum]⟩
    rw [hblocks]
    exact List.mem_map_of_mem hx
  have hsilence : ∀ (ns : List Nat) (g : Segment), (g.find n).isSome = true →
      ((ns.foldl (fun g _ => g.appendSilence b) g).find n).isSome = true ∧
        (ns.foldl (fun g _ => g.appendSilence b) g).poolFree = g.poolFree := by
    intro ns
    induction ns with
    | nil => exact fun g hg => ⟨hg, rfl⟩
    | cons k ns ih =>
      intro g hg
      obtain ⟨f, hf, hblocks, hpool, -⟩ := g.appendSilence_blocks b
      obtain ⟨hfind, hrest⟩ := ih (g.appendSilence b) (hmap hblocks hf hg)
      exact ⟨hfind, hrest.trans hpool⟩
  cases it with
  | header => exact ⟨h, rfl⟩
  | voiced bytes =>
    obtain ⟨f, hf, hblocks, hpool, -⟩ := s.seg.appendVoiced_blocks b bytes
    exact ⟨hmap hblocks hf h, hpool⟩
  | silence k => exact hsilence _ _ h

theorem putItem_segStep (s : State) (b : Nat) (it : RxItem) : SegStep s (s.putItem b it) := by
  rw [SegStep, putItem_letters]
  exact putItem_moves s b it _

/-- The first item of a record places it, with a record left in the pool and the block in the table (R163). -/
theorem writeItem_first_segStep {s : State} (i : LetterIx) (b : Nat) (h : RepackHeader) (it : RxItem)
    (hpool : 0 < s.seg.poolFree) (hfind : (s.seg.find b).isSome = true) :
    SegStep s (s.writeItem i b h true it) := by
  obtain ⟨hfind', hpool'⟩ := putItem_find s b b it hfind
  refine (putItem_segStep s b it).trans ?_
  rw [writeItem_eq, if_pos rfl]
  generalize hu : s.putItem b it = u at hfind' hpool'
  unfold when
  split
  case isFalse => exact .refl u
  case isTrue hsome =>
    obtain ⟨x, hx⟩ := Option.isSome_iff_exists.mp hsome
    have hset := namedIn_set u.letters i (some { x with chain := x.chain ++ [⟨b, 0, it.span, h.pass, h.kind⟩] })
    rw [hx, blocksIn_some, blocksIn_some, chainBlocks_append, add_comm (chainBlocks x.chain), ← add_assoc] at hset
    have hnamed := add_right_cancel hset
    have hplaced := Moves.placed (u.onLetter i fun x => { x with chain := x.chain ++ [⟨b, 0, it.span, h.pass, h.kind⟩] })
      (namedIn u.letters) b (by rw [onLetter_seg, hpool']; exact hpool) (.inl hfind')
    have hletters : (u.onLetter i fun x => { x with chain := x.chain ++ [⟨b, 0, it.span, h.pass, h.kind⟩] }).letters =
        u.letters.set i (some { x with chain := x.chain ++ [⟨b, 0, it.span, h.pass, h.kind⟩] }) := by
      rw [onLetter_letters, hx]; rfl
    rw [SegStep]
    simp only [incRef_letters, onSeg_letters, hletters, hnamed]
    simpa [add_comm, Multiset.singleton_add] using hplaced

/-- A later item grows the record, which names its block already (R163). -/
theorem writeItem_later_segStep (s : State) (i : LetterIx) (b : Nat) (h : RepackHeader) (it : RxItem) :
    SegStep s (s.writeItem i b h false it) := by
  rw [writeItem_eq, if_neg (by simp)]
  refine (putItem_segStep s b it).then_same ⟨rfl, ?_⟩
  refine namedIn_set_same _ _ _ ?_
  cases hx : (s.putItem b it).letters[i] with
  | none => rfl
  | some x =>
    rw [Option.map_some, blocksIn_some, blocksIn_some]
    rcases List.eq_nil_or_concat x.chain with hnil | ⟨c, r, hc⟩
    · simp [hnil]
    · simp [hc]

theorem writeItems_segStep (i : LetterIx) (b : Nat) (h : RepackHeader) (first : Bool) (its : List RxItem) (s : State)
    (hfirst : first = true → 0 < s.seg.poolFree ∧ (s.seg.find b).isSome = true) :
    SegStep s (writeItems i b h first its s) := by
  have hlater : ∀ (its : List RxItem) (s : State), SegStep s (writeItems i b h false its s) := by
    intro its
    induction its with
    | nil => exact SegStep.refl
    | cons it its ih => exact fun s => (writeItem_later_segStep s i b h it).trans (ih _)
  cases its with
  | nil => exact .refl s
  | cons it its =>
    refine SegStep.trans ?_ (hlater its _)
    cases first with
    | false => exact writeItem_later_segStep s i b h it
    | true => exact writeItem_first_segStep i b h it (hfirst rfl).1 (hfirst rfl).2

theorem repackInto_segStep (s : State) (inc : Incoming) (b : Nat) (p : Repack)
    (hfirst : inc.slice = 0 → 0 < s.seg.poolFree ∧ (s.seg.find b).isSome = true) :
    SegStep s (s.repackInto inc b p) := by
  refine (writeItems_segStep inc.letter b p.header (inc.slice == 0) p.slices s
    fun h => hfirst (by simpa using h)).trans ?_
  simp only [repackInto, when]
  split
  · exact (sealBlock_segStep _ b).after_same (by simp [SegSame])
  · exact SegSame.step (by simp [SegSame])

/-- A given block is in the table. -/
theorem giveBlock_find (s : State) (o : LetterIx) (f : Filler) (p q : Nat) :
    ((s.giveBlock o f p q).seg.find (Segment.lowestFrom 0 s.seg.blocks)).isSome = true := by
  rw [Segment.find_isSome, giveBlock_blocks]
  exact ⟨_, (Segment.mem_insertBlock _ _ _).mpr (.inl rfl), rfl⟩

theorem repack_segStep (s : State) (inc : Incoming) (d : DataBody) (p : Repack) :
    SegStep s (s.repack inc d p) := by
  simp only [repack]
  split
  case isTrue => exact .refl s
  case isFalse =>
    split
    case isTrue =>
      refine (sealOwned_segStep s inc.letter).trans ?_
      split
      case isTrue hmay =>
        have hgive : SegStep (s.sealOwned inc.letter)
            ((s.sealOwned inc.letter).chargeTransfer.giveBlock inc.letter .transfer p.header.pass 0) :=
          .giveTransfer _ _ _ _ _ _ hmay.2
        exact hgive.trans (repackInto_segStep _ inc _ p fun _ => ⟨hmay.1, giveBlock_find _ _ _ _ _⟩)
      case isFalse => exact incomingFail_segStep _ _ _
    case isFalse hslice =>
      split
      · exact repackInto_segStep s inc _ p fun h => absurd h hslice
      · exact .refl s

theorem takeData_segStep (s : State) (snap : Snapshot) (inc : Incoming) (d : DataBody) :
    SegStep s (s.takeData snap inc d) := by
  simp only [takeData]
  split
  · exact incomingFail_segStep _ _ _
  · refine SegStep.after_same ?_ (restartReceive_segSame s)
    split
    · exact .refl _
    · split
      · exact incomingFail_segStep _ _ _
      · exact repack_segStep _ _ _ _

end Sys2Proof.Machine.State
end

section
/-! Every command and every tick makes moves of segment memory alone; the invariants that follow. -/

namespace Sys2Proof.Machine.State

/-! ### The link -/

/-- The arbiter and the claim's owner leave segment memory. -/
@[simp] theorem choose_segSame (n : Nat) (s : State) : SegSame s (choose n s) := by
  induction n generalizing s with
  | zero => simp [SegSame, choose]
  | succ n ih =>
    simp only [choose]
    split
    · simp [SegSame]
    · split
      · simp [SegSame]
      · simp [SegSame, ih]

@[simp] theorem reattempt_segSame (s : State) (c : Current) : SegSame s (s.reattempt c) := by
  simp only [reattempt]; split
  all_goals simp [SegSame]

theorem tellAbandoned_segStep (s : State) (q : QFrame) : SegStep s (s.tellAbandoned q) := by
  unfold tellAbandoned
  split
  case h_3 =>
    split
    · exact incomingFail_segStep _ _ _
    · exact .refl s
  case h_7 | h_8 | h_9 => split <;> exact SegSame.step (by simp [SegSame])
  all_goals exact SegSame.step (by simp [SegSame])

theorem countAttempt_segStep (s : State) (c : Current) : SegStep s (s.countAttempt c) := by
  unfold countAttempt
  split
  · exact SegSame.step (by simp [SegSame])
  · exact (tellAbandoned_segStep _ _).after_same (by simp [SegSame])

/-! ### Keys -/

/-- The letter a line works on is in the table (R5). -/
theorem lineLetter_spec {s : State} {l : LineNo} {i : LetterIx} {x : Letter} (h : s.lineLetter l = some (i, x)) :
    s.lines[l].attached = some i ∧ s.letters[i] = some x := by
  unfold lineLetter at h
  obtain ⟨j, hj, h⟩ := Option.bind_eq_some_iff.mp h
  obtain ⟨y, hy, h⟩ := Option.map_eq_some_iff.mp h
  simp only [Prod.mk.injEq] at h
  obtain ⟨rfl, rfl⟩ := h
  exact ⟨hj, hy⟩

theorem newLetter_segStep (s : State) (l : LineNo) : SegStep s (s.newLetter l) := by
  simp only [newLetter]
  split
  case h_1 => exact (refuse_segSame s l).step
  case h_2 i hi =>
    have hnamed := namedIn_set_free (x := .new 0 (s.lines[l].author.getD 0) .open (some l) none)
      (freeEntry_spec hi) rfl
    exact SegSame.step (by simpa [SegSame] using hnamed)

theorem endLetter_segStep (s : State) (l : LineNo) (i : LetterIx) (x : Letter) : SegStep s (s.endLetter l i x) := by
  unfold endLetter
  split
  · exact SegSame.step (by simp [SegSame])
  · exact (freeLetter_segStep _ i).after_same (letGo_segSame s l)

theorem discard_segStep {s : State} {i : LetterIx} {x : Letter} (hx : s.letters[i] = some x) (l : LineNo) :
    SegStep s (s.discard l i x) := by
  unfold discard
  split
  · exact (refuse_segSame s l).step
  · exact (discardPass_segStep s i x hx).then_same (prompt_segSame _ _ _)

theorem readyKey_segStep (s : State) (l : LineNo) (k : Key) : SegStep s (s.readyKey l k) := by
  unfold readyKey
  split
  case h_1 => exact (refuse_segSame s l).step
  case h_2 i x hx =>
    cases k
    case k9 => exact endLetter_segStep s l i x
    case kC => exact discard_segStep (lineLetter_spec hx).2 l
    all_goals exact SegSame.step (by simp [SegSame])

theorem recordingKey_segStep (s : State) (l : LineNo) (k : Key) : SegStep s (s.recordingKey l k) := by
  refine (dropTouched_segSame s l).step.trans ?_
  have hclose := closePass_segStep (s.dropTouched l) l none
  have hmark : SegStep (s.dropTouched l) (match (s.dropTouched l).lineLetter l with
      | some (i, _) => (s.dropTouched l).markKey l i k
      | none => (s.dropTouched l).refuse l) := by
    split
    · exact (markKey_segSame _ _ _ _).step
    · exact (refuse_segSame _ _).step
  have hready : SegStep (s.dropTouched l) (((s.dropTouched l).closePass l none).readyKey l k) :=
    hclose.trans (readyKey_segStep _ l k)
  cases k
  case k2 | k4 | k5 => exact hclose
  case k3 | kB | k0 | k9 | kC | kD => exact hready
  case k6 | k7 | k8 => exact hmark
  case k1 | kA | star | hash => exact (refuse_segSame _ _).step

theorem playingKey_segStep (s : State) (l : LineNo) (k : Key) : SegStep s (s.playingKey l k) := by
  have hstop : ∀ k, SegStep s ((s.stopPlaying l).readyKey l k) := fun k =>
    (readyKey_segStep _ l k).after_same (stopPlaying_segSame s l)
  cases k
  case k2 => exact (stopPlaying_segSame s l).step
  case k9 | kD => exact hstop _
  case k1 | k4 | k5 | kB | k0 | kC => exact readyKey_segStep s l _
  case k3 | k6 | k7 | k8 | kA | star | hash => exact (refuse_segSame s l).step

theorem selectKey_segStep (s : State) (l : LineNo) (k : Key) : SegStep s (s.selectKey l k) := by
  unfold selectKey
  split
  · exact newLetter_segStep s l
  all_goals exact SegSame.step (by simp [SegSame])

theorem keyActs_segStep (s : State) (l : LineNo) (k : Key) : SegStep s (s.keyActs l k) := by
  unfold keyActs
  split
  case h_1 => exact .refl s
  case h_2 => exact (authorKey_segSame s l k).step
  case h_3 => exact selectKey_segStep s l k
  case h_4 => exact (seekKey_segSame s l k).step
  case h_5 => exact readyKey_segStep s l k
  case h_6 => exact recordingKey_segStep s l k
  case h_7 => exact playingKey_segStep s l k
  all_goals exact (refuse_segSame s l).step

/-- The release of a key still down, before another is recognised (R99, log 8). -/
def releaseOld (s : State) (l : LineNo) : State := s.tones[l].keyDown.elim s (s.keyReleased l)

theorem keyRecognised_eq (s : State) (l : LineNo) (k : Key) : s.keyRecognised l k =
    if ((s.releaseOld l).toneRecognised l k).lines[l].state = .idle then (s.releaseOld l).toneRecognised l k
    else ((((s.releaseOld l).toneRecognised l k).onLine l fun c => { c with key := some k }).keyActs l k) := by
  rcases h : s.tones[l].keyDown with _ | old <;>
    simp only [keyRecognised, releaseOld, h, Option.elim_none, Option.elim_some]

@[simp] theorem releaseOld_segSame (s : State) (l : LineNo) : SegSame s (s.releaseOld l) := by
  unfold releaseOld
  cases s.tones[l].keyDown <;> simp [SegSame]

theorem keyRecognised_segStep (s : State) (l : LineNo) (k : Key) : SegStep s (s.keyRecognised l k) := by
  rw [keyRecognised_eq]
  split
  · exact SegSame.step (by simp [SegSame])
  · exact (keyActs_segStep _ l k).after_same (by simp [SegSame])

/-! ### Line clear and slice periods -/

theorem clearLine_segStep (s : State) (l : LineNo) : SegStep s (s.clearLine l) := by
  have hpass : SegStep s (if s.lines[l].state = .recording then (s.finishPass l).1 else s) := by
    split
    · exact finishPass_segStep s l
    · exact .refl s
  exact hpass.then_same (by simp [SegSame, clearLine])

theorem clearDisabled_segStep (ls : List LineNo) (s : State) : SegStep s (clearDisabled ls s) := by
  induction ls generalizing s with
  | nil => exact .refl s
  | cons l ls ih =>
    refine SegStep.trans ?_ (ih _)
    unfold when
    split
    · exact clearLine_segStep s l
    · exact .refl s

theorem riseHigh_segSame (ls : List LineNo) (s : State) : SegSame s (riseHigh ls s) := by
  induction ls generalizing s with
  | nil => exact ⟨rfl, rfl⟩
  | cons l ls ih =>
    obtain ⟨hseg, hnamed⟩ := ih (when s.ports[l].active (·.riseLine l) s)
    obtain ⟨hseg', hnamed'⟩ := when_segSame s.ports[l].active (·.riseLine l) s (riseLine_segSame s l)
    exact ⟨hseg.trans hseg', hnamed.trans hnamed'⟩

theorem pushHold_segStep (s : State) (l : LineNo) (h : HoldSlice) : SegStep s (s.pushHold l h) := by
  have hfirst : ∀ r : State × Option PassFail, SegStep s r.1 →
      SegStep s (match r with
        | (s, some f) => ((s.failPass l f).goto l .ready).prompt l f.prompt
        | (s, none) =>
            let s := s.onLine l fun c => { c with hold := c.hold ++ [h] }
            when (h.speech = false && s.bus.ctl.settings.autoPauseSlices ≤ s.lines[l].autoRun)
              (·.report (.autoPause l)) s) := by
    rintro ⟨t, f⟩ ht
    cases f with
    | some f => exact (ht.trans (failPass_segStep t l f)).then_same (by simp [SegSame])
    | none => exact ht.then_same (by simp only [when]; split <;> simp [SegSame])
  refine hfirst _ ?_
  split
  · split
    · exact (leaveHold_segStep _ _ _).after_same (by simp [SegSame])
    · exact .refl s
  · exact .refl s

theorem recordSlice_segStep (s : State) (l : LineNo) (x : InSlice) : SegStep s (s.recordSlice l x) := by
  simp only [recordSlice]
  split
  · exact SegSame.step (by simp [SegSame])
  · exact (pushHold_segStep _ _ _).after_same (by simp [SegSame])

theorem when_segStep (c : Bool) (f : State → State) (s : State) (h : SegStep s (f s)) : SegStep s (when c f s) := by
  unfold when
  split
  · exact h
  · exact .refl s

theorem endPeriod_segStep (s : State) (l : LineNo) (x : InSlice) : SegStep s (s.endPeriod l x) :=
  (when_segStep (s.lines[l].state == .recording) (·.recordSlice l x) s (recordSlice_segStep s l x)).then_same
    (by simp [SegSame, endPeriod])

theorem endPeriods_segStep (ls : List LineNo) (xs : List InSlice) (s : State) : SegStep s (endPeriods ls xs s) := by
  induction ls generalizing xs s with
  | nil => exact .refl s
  | cons l ls ih => exact (endPeriod_segStep s l _).trans (ih _ _)

/-! ### Commands -/

theorem SegStep.of_next {s t u : State} (h : SegStep s u) (ht : (.next u : Result) = .next t) : SegStep s t := by
  cases ht
  exact h

@[simp] theorem taken_segSame (s : State) (c : Instr) : SegSame s (s.taken c) := ⟨rfl, rfl⟩

/-- A key row takes its own report and recognises its key (log 7). -/
theorem keyRow_segStep (s : State) (c : Instr) (l : LineNo) (k : Key) :
    SegStep s ((s.taken c).keyRecognised l k) :=
  (keyRecognised_segStep _ l k).after_same (taken_segSame s c)

/-- What a command does to segment memory and the chains: it makes some of the moves. -/
theorem exec_segStep {s t : State} {c : Instr} (h : exec c s = .next t) : SegStep s t := by
  have htaken := (taken_segSame s c).step
  cases c
  case stationReset stn rate =>
    refine SegStep.of_next ?_ h
    have hnone : namedIn (s.afresh stn.val rate.val).letters = 0 := namedIn_replicate
    rw [SegStep, hnone]
    exact .reset _ _
  case slicePeriodEnd inbound =>
    refine SegStep.of_next ?_ h
    exact (endPeriods_segStep _ _ _).after_same ⟨rfl, rfl⟩
  case lineClear l =>
    refine SegStep.of_next ?_ h
    split
    · exact (clearLine_segStep _ l).after_same (by simp [SegSame])
    · exact SegSame.step (by simp [SegSame])
  case autoPause l =>
    refine SegStep.of_next ?_ h
    split
    · exact htaken.trans (closePass_segStep _ l _)
    · exact htaken
  case refusedKey | authorDigit | authorEnter | newLetter | resume | seekDigit | seekEnter | record | stop | play
      | goToStart | goToEnd | insertOverwriteToggle | instructionMark | priority | endOfLetter | discardPass | hold
      | windKeyRecognised | keyIgnoredInIdle =>
    exact SegStep.of_next (keyRow_segStep s _ _ _) h
  case heldTimerExpiry i =>
    refine SegStep.of_next (htaken.trans ?_) h
    split
    · split
      · unfold expireHeld
        split
        · exact SegSame.step (by simp [SegSame])
        · exact freeLetter_segStep _ i
      · exact .refl _
    · exact .refl _
  case beacon st b =>
    refine SegStep.of_next (htaken.trans ?_) h
    split
    · split
      · exact SegSame.step (by simp [SegSame])
      · exact (takeBeacon_segStep _ st b).after_same (raiseByBeacon_segSame _ b)
    · exact .refl _
  case locateQueuedTimeout | collectionWindowExpiry =>
    refine SegStep.of_next (htaken.trans ?_) h
    split
    · exact (givePick_segStep _ _ _).after_same (dropCollection_segSame _ _)
    · exact .refl _
  case fetchAccept st snap =>
    refine SegStep.of_next (htaken.trans ?_) h
    split
    · split
      · split
        · exact SegSame.step (by simp [SegSame])
        · split
          case isTrue hle =>
            have hres : SegStep (s.taken (.fetchAccept st snap)) ((s.taken (.fetchAccept st snap)).onSeg fun g =>
              { g with reservation := snap.blocks }) := .reserved _ _ _ hle
            exact hres.then_same (by simp [SegSame, admitLetter])
          case isFalse => exact incomingFail_segStep _ _ _
      · exact SegSame.step (by simp [SegSame])
    · exact .refl _
  case fetchRefuse | acceptTimerExpiry | receiveTimerExpiry =>
    refine SegStep.of_next (htaken.trans ?_) h
    split
    · exact incomingFail_segStep _ _ _
    · exact .refl _
  case transferData st d =>
    refine SegStep.of_next (htaken.trans ?_) h
    split
    · split
      · exact takeData_segStep _ _ _ _
      · exact .refl _
    · exact .refl _
  case transferEnd st n w =>
    refine SegStep.of_next (htaken.trans ?_) h
    split
    · split
      · split
        · exact finishIncoming_segStep _ _ _
        · exact incomingFail_segStep _ _ _
      · exact .refl _
    · exact .refl _
  case take st n =>
    refine SegStep.of_next (htaken.trans ?_) h
    split
    · split
      · exact releaseLetter_segStep _ _ _ _
      · split <;> exact SegSame.step (by simp [SegSame])
    · exact .refl _
  case checkAnswer st n r =>
    refine SegStep.of_next (htaken.trans ?_) h
    split
    · split
      · cases r with
        | settling => exact (releaseLetter_segStep _ _ _ _).after_same (onOutgoing_segSame _ _)
        | receiving => exact SegSame.step (by simp [SegSame])
        | notHeld => exact SegSame.step (by simp [SegSame])
      · exact .refl _
    · exact .refl _
  case filed st n g =>
    refine SegStep.of_next (htaken.trans ?_) h
    split
    · split
      · unfold filedActive
        split
        · exact ((fileLetter_segStep _ _ _ _).after_same (clearActive_segSame _)).then_same (afterEnd_segSame _)
        · exact .refl _
      · simp only [filedLate]
        split
        · split
          · exact (fileLetter_segStep _ _ _ _).after_same (by simp [SegSame])
          · exact SegSame.step (by simp [SegSame])
        · exact .refl _
    · exact .refl _
  case settings st d b =>
    refine SegStep.of_next (htaken.trans ?_) h
    split
    · split
      · split
        · exact SegSame.step (by simp [SegSame])
        · exact (clearDisabled_segStep _ _).after_same (by simp [SegSame])
      · exact SegSame.step (by simp [SegSame])
      · exact .refl _
    · exact .refl _
  case frameAttemptFailed kinds =>
    refine SegStep.of_next (htaken.trans ?_) h
    split
    · exact ((countAttempt_segStep _ _).after_same (by simp [SegSame])).then_same (detachIfNew_segSame _ _)
    · exact .refl _
  case listenTimerExpiry =>
    refine SegStep.of_next (htaken.trans ?_) h
    split
    · exact ((riseHigh_segSame _ _).step.after_same (by simp [SegSame])).then_same (look_segSame _)
    · exact .refl _
  case fetch st n a =>
    refine SegStep.of_next (htaken.trans ?_) h
    repeat' split
    all_goals exact SegSame.step (by simp [SegSame])
  case numberClaim | claimObjection | takeTimerExpiry =>
    refine SegStep.of_next (htaken.trans ?_) h
    split
    · dsimp only
      split <;> exact SegSame.step (by simp [SegSame])
    · exact .refl _
  case released | takeUnknown =>
    refine SegStep.of_next (htaken.trans ?_) h
    unfold settleAnswer
    repeat' split
    all_goals exact SegSame.step (by simp [SegSame])
  all_goals
    refine SegStep.of_next (htaken.trans ?_) h
    repeat' split
    all_goals exact SegSame.step (by simp [SegSame])

end Sys2Proof.Machine.State
end

section
/-! Ticks leave segment memory; so every step makes moves alone, and O58 and O60 follow. -/

namespace Sys2Proof.Machine.State

/-! ### Ticks -/

/-- A fold of operations that leave segment memory leaves it. -/
theorem SegSame.foldl {α : Type} {f : State → α → State} (hf : ∀ s a, SegSame s (f s a)) (as : List α) (s : State) :
    SegSame s (as.foldl f s) := by
  induction as generalizing s with
  | nil => exact ⟨rfl, rfl⟩
  | cons a as ih =>
    obtain ⟨hseg, hnamed⟩ := ih (f s a)
    exact ⟨hseg.trans (hf s a).1, hnamed.trans (hf s a).2⟩

theorem SegSame.trans {s t u : State} (h : SegSame s t) (k : SegSame t u) : SegSame s u :=
  ⟨k.1.trans h.1, k.2.trans h.2⟩

@[simp] theorem reportIf_segSame (c : Bool) (i : Instr) (s : State) : SegSame s (reportIf c i s) := by
  unfold reportIf when
  split <;> exact ⟨rfl, rfl⟩

@[simp] theorem reports_segSame {α : Type} (f : α → Instr) (xs : List α) (s : State) :
    SegSame s (xs.foldl (fun s x => s.report (f x)) s) := by
  rw [reports_fold]
  exact ⟨rfl, rfl⟩

theorem lineSync_segSame (s : State) (l : LineNo) (x : Sample) : SegSame s (s.lineSync l x) := by
  rw [lineSync_only s l x]
  exact ⟨rfl, rfl⟩

theorem frameSync_segSame (s : State) (xs : Vector Sample 8) : SegSame s (s.frameSync xs) := by
  have hlines := SegSame.foldl (fun s l => lineSync_segSame s l xs[l]) allLines s
  simp only [frameSync]
  generalize allLines.foldl (fun s l => s.lineSync l xs[l]) s = u at hlines
  refine SegSame.trans hlines ?_
  split <;> exact ⟨rfl, rfl⟩

@[simp] theorem lineMs_segSame (s : State) (l : LineNo) : SegSame s (s.lineMs l) := by simp [SegSame, lineMs]

@[simp] theorem letterMs_segSame (s : State) (i : LetterIx) : SegSame s (s.letterMs i) := by simp [SegSame, letterMs]

@[simp] theorem peersMs_segSame (s : State) : SegSame s s.peersMs := by simp [SegSame, peersMs]

@[simp] theorem numsMs_segSame (s : State) : SegSame s s.numsMs := by simp [SegSame, numsMs]

@[simp] theorem xferMs_segSame (s : State) : SegSame s s.xferMs := by simp [SegSame, xferMs]

@[simp] theorem delivMs_segSame (s : State) : SegSame s s.delivMs := by simp [SegSame, delivMs]

@[simp] theorem controlMs_segSame (s : State) : SegSame s s.controlMs := by
  simp only [controlMs]
  split <;> simp [SegSame]

@[simp] theorem millisecond_segSame (s : State) : SegSame s s.millisecond := by
  have hlines := SegSame.foldl lineMs_segSame allLines s.controlMs
  have hletters := SegSame.foldl letterMs_segSame allLetters (allLines.foldl lineMs s.controlMs)
  exact SegSame.trans (SegSame.trans (SegSame.trans (controlMs_segSame s) hlines) hletters)
    (by simp [SegSame, millisecond])

theorem linePin_segSame (s : State) (l : LineNo) (b : Bool) : SegSame s (s.linePin l b) := by
  rw [linePin_eq]
  exact ⟨rfl, rfl⟩

theorem timebase_segSame (s : State) (bs : Vector Bool 8) : SegSame s (s.timebase bs) := by
  have hwindow : SegSame s s.paceLink.windowUnits := by
    rw [windowUnits_eq]
    exact ⟨rfl, rfl⟩
  have hpins := SegSame.foldl (fun s l => linePin_segSame s l bs[l]) allLines s.paceLink.windowUnits
  simp only [timebase]
  generalize allLines.foldl (fun s l => s.linePin l bs[l]) s.paceLink.windowUnits = u at hpins
  refine SegSame.trans (SegSame.trans hwindow hpins) ?_
  split
  · exact SegSame.trans (t := { u with sub10us := 0 }) ⟨rfl, rfl⟩ (millisecond_segSame _)
  · exact ⟨rfl, rfl⟩

@[simp] theorem stepRecovery_segSame (s : State) : SegSame s s.stepRecovery := by
  unfold stepRecovery
  split <;> simp [SegSame]

@[simp] theorem receiveBit_segSame (s : State) (r : Scan) (b : Bool) : SegSame s (s.receiveBit r b) := by
  unfold receiveBit
  split <;> simp [SegSame, follow]

@[simp] theorem sendBit_segSame (s : State) (r : Scan) (a b : Bool) : SegSame s (s.sendBit r a b) := by
  unfold sendBit
  split
  · simp [SegSame]
  · simp [SegSame]
  · split <;> simp [SegSame, follow]

@[simp] theorem viewBit_segSame (s : State) (a b : Bool) (n : Nat) : SegSame s (s.viewBit a b n) := by
  unfold viewBit
  repeat' split
  all_goals simp [SegSame, idleBit, startBit]

theorem busBit_segSame (s : State) (a b : Bool) : SegSame s (s.busBit a b) := by
  simp only [busBit]
  repeat' split
  all_goals simp [SegSame]

theorem resetLow_segStep (s : State) : SegStep s s.resetLow := by
  have hnone : namedIn s.resetLow.letters = 0 := namedIn_replicate
  rw [SegStep, hnone]
  exact .reset _ _

theorem tick_segStep (s : State) (t : Tick) (rest : List Tick) : SegStep s (s.tick t rest) := by
  unfold tick
  split
  · exact SegSame.step ⟨rfl, rfl⟩
  · cases t with
    | frameSync xs =>
      have hsame : SegSame s (State.frameSync { s with ticks := rest } xs) := frameSync_segSame { s with ticks := rest } xs
      exact SegSame.step hsame
    | timebase bs =>
      have hsame : SegSame s (State.timebase { s with ticks := rest } bs) := timebase_segSame { s with ticks := rest } bs
      exact SegSame.step hsame
    | busBit a b =>
      simp only [clockTick]
      split
      · exact SegSame.step ⟨rfl, rfl⟩
      · have hsame : SegSame s (State.busBit { s with ticks := rest } a b) := busBit_segSame { s with ticks := rest } a b
        exact SegSame.step hsame
    | resetLow => exact resetLow_segStep { s with ticks := rest }

/-! ### Steps -/

/-- What a step is: a command on the queue's rest, the oldest report, the first tick, or nothing. -/
theorem step_cases {s t : State} (h : step s = .next t) :
    (∃ c rest, s.pending = c :: rest ∧ exec c { s with pending := rest } = .next t) ∨
    (∃ r rest, s.pending = [] ∧ s.reports = r :: rest ∧ exec r s = .next t) ∨
    (∃ k rest, s.pending = [] ∧ s.reports = [] ∧ s.ticks = k :: rest ∧ t = s.tick k rest) ∨
    (s.pending = [] ∧ s.reports = [] ∧ s.ticks = [] ∧ t = s) := by
  unfold step at h
  split at h
  case h_1 c rest hp => exact .inl ⟨c, rest, hp, h⟩
  case h_2 hp =>
    split at h
    case h_1 r rest hr => exact .inr (.inl ⟨r, rest, hp, hr, h⟩)
    case h_2 hr =>
      split at h
      case h_1 k rest hk => exact .inr (.inr (.inl ⟨k, rest, hp, hr, hk, (Host.Outcome.next.inj h).symm⟩))
      case h_2 hk => exact .inr (.inr (.inr ⟨hp, hr, hk, (Host.Outcome.next.inj h).symm⟩))

/-- Every step makes moves of segment memory alone. -/
theorem step_segStep {s t : State} (h : step s = .next t) : SegStep s t := by
  obtain ⟨c, rest, -, hexec⟩ | ⟨r, rest, -, -, hexec⟩ | ⟨k, rest, -, -, -, rfl⟩ | ⟨-, -, -, rfl⟩ := step_cases h
  · exact (exec_segStep hexec).after_same ⟨rfl, rfl⟩
  · exact exec_segStep hexec
  · exact tick_segStep s k rest
  · exact .refl t

/-- Settles O58: the moves keep the canonical bytes and the rising table. -/
theorem memoryKept : Obligations.MemoryKept := by
  unfold Obligations.MemoryKept
  intro s t hmem hrise hstep
  have hmoves := step_segStep hstep
  exact ⟨hmoves.memory hmem, hmoves.rising hrise⟩

/-- Settles O60: the moves keep balanced accounts, which are the three accounts of the statement. -/
theorem accountsKept : Obligations.AccountsKept := by
  unfold Obligations.AccountsKept
  intro s t hrise hcounts hpool hcredits hstep
  have hbalanced := (balanced_iff s).mpr ⟨hcounts, hpool, hcredits⟩
  exact (balanced_iff t).mp ((step_segStep hstep).balanced hrise hbalanced)

end Sys2Proof.Machine.State
end

section
/-! The bounds of the Control Queue, the fault count and the short lists, and the quiet of an UNNUMBERED
station: what the shared operations keep (R110, R117, R121, R129, R154, R173). -/

namespace Sys2Proof.Machine

/-- The bounds of the bus side: the Control Queue, the fault count, the fault count of an UNNUMBERED station. -/
structure Bus.Bounded (b : Bus) : Prop where
  queue : b.link.control.length ≤ Config.controlFrames
  fault : b.link.fault ≤ Config.faultLimit
  quiet : b.ctl.state = .unnumbered → b.link.fault = 0

namespace Bus

/-- A change of the bus side that keeps the fault count and the station state, and lets the queue grow to 16 at
most, keeps the bounds. -/
theorem Bounded.of_same {b c : Bus} (h : b.Bounded) (hqueue : c.link.control.length ≤ Config.controlFrames)
    (hfault : c.link.fault = b.link.fault) (hstate : c.ctl.state = b.ctl.state) : c.Bounded :=
  ⟨hqueue, hfault ▸ h.fault, fun hu => by rw [hfault]; exact h.quiet (hstate ▸ hu)⟩

@[simp] theorem raise_bounded {b : Bus} (h : b.Bounded) (e : Event) : (b.raise e).Bounded :=
  h.of_same (raise_control_le b e h.queue) (raise_fault b e) (raise_state b e)

@[simp] theorem place_bounded {b : Bus} (h : b.Bounded) (q : QFrame) : (b.place q).Bounded :=
  h.of_same (place_control_le b q h.queue) (place_fault b q) (place_state b q)

@[simp] theorem count_bounded {b : Bus} (f : Counters → Counters) : (b.count f).Bounded ↔ b.Bounded :=
  ⟨fun h => ⟨h.queue, h.fault, h.quiet⟩, fun h => ⟨h.queue, h.fault, h.quiet⟩⟩

/-- A change of the link that leaves the queue and the fault count. -/
theorem Bounded.onLink {b : Bus} (h : b.Bounded) {f : Link → Link} (hqueue : (f b.link).control = b.link.control)
    (hfault : (f b.link).fault = b.link.fault) : (b.onLink f).Bounded :=
  h.of_same (by rw [onLink_link, hqueue]; exact h.queue) hfault rfl

@[simp] theorem abandon_bounded {b : Bus} (h : b.Bounded) (q : QFrame) : (b.abandon q).Bounded :=
  raise_bounded ((count_bounded _).mpr h) _

end Bus

namespace State

/-- The bounds of a station. -/
def Bounded (s : State) : Prop := s.bus.Bounded ∧ s.ListsBounded

theorem bounded_iff (s : State) : s.Bounded ↔ s.QueueBounded ∧ s.FaultBounded ∧ s.ListsBounded ∧ s.UnnumberedQuiet :=
  ⟨fun ⟨hb, hl⟩ => ⟨hb.queue, hb.fault, hl, hb.quiet⟩, fun ⟨hq, hf, hl, hu⟩ => ⟨⟨hq, hf, hu⟩, hl⟩⟩

variable {s : State}

/-- The bounds look at the bus side and at the two lists alone. -/
theorem Bounded.congr {t : State} (h : Bounded s) (hbus : t.bus = s.bus)
    (hrel : t.xfer.releases = s.xfer.releases) (hunc : t.deliv.unconfirmed = s.deliv.unconfirmed) : Bounded t := by
  obtain ⟨hb, hr, hu⟩ := h
  exact ⟨hbus ▸ hb, hrel ▸ hr, hunc ▸ hu⟩

/-! ### Updates of one part -/

@[simp] theorem onSeg_bounded (f : Segment → Segment) : Bounded (s.onSeg f) ↔ Bounded s := Iff.rfl
@[simp] theorem onNums_bounded (f : Numbers → Numbers) : Bounded (s.onNums f) ↔ Bounded s := Iff.rfl
@[simp] theorem onLine_bounded (l : LineNo) (f : Line → Line) : Bounded (s.onLine l f) ↔ Bounded s := Iff.rfl
@[simp] theorem onCoder_bounded (l : LineNo) (f : Coder → Coder) : Bounded (s.onCoder l f) ↔ Bounded s := Iff.rfl
@[simp] theorem onTone_bounded (l : LineNo) (f : Tone → Tone) : Bounded (s.onTone l f) ↔ Bounded s := Iff.rfl
@[simp] theorem onPort_bounded (l : LineNo) (f : Port → Port) : Bounded (s.onPort l f) ↔ Bounded s := Iff.rfl
@[simp] theorem onLetter_bounded (i : LetterIx) (f : Letter → Letter) : Bounded (s.onLetter i f) ↔ Bounded s := Iff.rfl
@[simp] theorem setLetter_bounded (i : LetterIx) (x : Option Letter) : Bounded (s.setLetter i x) ↔ Bounded s := Iff.rfl
@[simp] theorem report_bounded (c : Instr) : Bounded (s.report c) ↔ Bounded s := Iff.rfl
@[simp] theorem taken_bounded (c : Instr) : Bounded (s.taken c) ↔ Bounded s := Iff.rfl
@[simp] theorem cancel_bounded (c : Instr) : Bounded (s.cancel c) ↔ Bounded s := Iff.rfl

@[simp] theorem onXfer_bounded (f : Transfer → Transfer) (hf : ∀ x, (f x).releases = x.releases) :
    Bounded (s.onXfer f) ↔ Bounded s := by simp [Bounded, ListsBounded, hf]

@[simp] theorem onDeliv_bounded (f : Delivery → Delivery) (hf : ∀ d, (f d).unconfirmed = d.unconfirmed) :
    Bounded (s.onDeliv f) ↔ Bounded s := by simp [Bounded, ListsBounded, hf]

@[simp] theorem count_bounded (f : Counters → Counters) : Bounded (s.count f) ↔ Bounded s := by
  simp [Bounded, ListsBounded, count]

theorem Bounded.onBus (h : Bounded s) {f : Bus → Bus} (hf : s.bus.Bounded → (f s.bus).Bounded) :
    Bounded (s.onBus f) := ⟨hf h.1, h.2⟩

@[simp] theorem onBus_onLink_bounded (h : Bounded s) (f : Link → Link) (hqueue : ∀ k, (f k).control = k.control)
    (hfault : ∀ k, (f k).fault = k.fault) : Bounded (s.onBus (Bus.onLink f)) :=
  h.onBus fun hb => hb.onLink (hqueue _) (hfault _)

@[simp] theorem onBus_place_bounded (h : Bounded s) (q : QFrame) : Bounded (s.onBus (Bus.place q)) :=
  h.onBus fun hb => Bus.place_bounded hb q

@[simp] theorem raise_bounded (h : Bounded s) (e : Event) : Bounded (s.raise e) :=
  h.onBus fun hb => Bus.raise_bounded hb e

@[simp] theorem place_bounded (h : Bounded s) (d : Station) (m : Msg) : Bounded (s.place d m) :=
  h.onBus fun hb => Bus.place_bounded hb _

@[simp] theorem when_bounded (h : Bounded s) (c : Bool) (f : State → State) (hf : Bounded s → Bounded (f s)) :
    Bounded (when c f s) := by
  unfold when
  split
  · exact hf h
  · exact h

/-! ### Prompts and letters -/

@[simp] theorem prompt_bounded (l : LineNo) (p : Prompt) (h : Bounded s) : Bounded (s.prompt l p) := by
  simp [h, prompt]

@[simp] theorem goto_bounded (l : LineNo) (x : LineState) (h : Bounded s) : Bounded (s.goto l x) := by
  simp [h, goto]

@[simp] theorem holdLetter_bounded (i : LetterIx) (h : Bounded s) : Bounded (s.holdLetter i) := by
  simp [h, holdLetter]

@[simp] theorem attachLetter_bounded (i : LetterIx) (l : LineNo) (h : Bounded s) : Bounded (s.attachLetter i l) := by
  simp [h, attachLetter]

@[simp] theorem detachLine_bounded (l : LineNo) (h : Bounded s) : Bounded (s.detachLine l) := by
  simp [h, detachLine]

@[simp] theorem cutOff_bounded (l : LineNo) (h : Bounded s) : Bounded (s.cutOff l) := by
  simp [h, cutOff]

@[simp] theorem reportAll_bounded (is : List Instr) (h : Bounded s) : Bounded (s.reportAll is) := h

@[simp] theorem reportSome_bounded (i : Option Instr) (h : Bounded s) : Bounded (s.reportSome i) := by
  simp only [reportSome]; repeat' split
  all_goals simp [h]

/-! ### Segment memory and passes -/

@[simp] theorem evalPressure_bounded (h : Bounded s) : Bounded (s.evalPressure) := by
  obtain ⟨hb, hl⟩ := h
  refine ⟨?_, hl⟩
  simp only [evalPressure]
  split
  · exact hb
  · exact Bus.raise_bounded hb _

@[simp] theorem freeBlock_bounded (b : Nat) (h : Bounded s) : Bounded (s.freeBlock b) := by
  simp only [freeBlock]; repeat' split
  all_goals simp [h]

@[simp] theorem incRef_bounded (b : Nat) (h : Bounded s) : Bounded (s.incRef b) := by
  simp [h, incRef]

@[simp] theorem decRef_bounded (b : Nat) (h : Bounded s) : Bounded (s.decRef b) := by
  simp [h, decRef]

@[simp] theorem sealBlock_bounded (b : Nat) (h : Bounded s) : Bounded (s.sealBlock b) := by
  simp only [sealBlock]; repeat' split
  all_goals simp [h]

@[simp] theorem giveBlock_bounded (o : LetterIx) (f : Filler) (p q : Nat) (h : Bounded s) : Bounded (s.giveBlock o f p q) := by
  simp [h, giveBlock]

@[simp] theorem chargeLine_bounded (l : LineNo) (h : Bounded s) : Bounded (s.chargeLine l) := by
  simp [h, chargeLine]

@[simp] theorem chargeTransfer_bounded (h : Bounded s) : Bounded (s.chargeTransfer) := by
  simp [h, chargeTransfer]

@[simp] theorem takeFilling_bounded (l : LineNo) (i : LetterIx) (n : Nat) (h : Bounded s) : Bounded (s.takeFilling l i n) := by
  have hgive : ∀ q, Bounded ((s.chargeLine l).giveBlock i (.line l) n q) := fun q => by simp [h]
  simp only [takeFilling]
  split
  · exact sealBlock_bounded _ (hgive _)
  · exact hgive _

@[simp] theorem writeSlice_bounded (l : LineNo) (b : Nat) (x : HoldSlice) (h : Bounded s) : Bounded (s.writeSlice l b x) := by
  simp only [writeSlice]; repeat' split
  all_goals simp [h]

@[simp] theorem editChain_bounded (i : LetterIx) (e : ChainEdit) (b : Nat) (h : Bounded s) : Bounded (s.editChain i e b) := by
  have hnames : ∀ (bs : List Nat) (s : State), Bounded s → Bounded (bs.foldl State.incRef s) := by
    intro bs
    induction bs with
    | nil => exact fun s hs => hs
    | cons n bs ih => exact fun s hs => ih _ (incRef_bounded n hs)
  rw [editChain_eq]
  cases e.removed with
  | none => exact hnames _ _ h
  | some n => exact decRef_bounded n (hnames _ _ h)

@[simp] theorem commitPlace_bounded (l : LineNo) (i : LetterIx) (x : Letter) (p : Pass) (c : HoldSlice) (h : Bounded s) :
    Bounded (s.commitPlace l i x p c) := by
  have hland : Bounded (when (s.landing l c.coded).isNone (·.takeFilling l i p.number) s) :=
    when_bounded h _ _ (takeFilling_bounded l i p.number)
  simp only [commitPlace]
  split
  · exact hland
  · exact (count_bounded _).mpr (editChain_bounded _ _ _ (writeSlice_bounded _ _ _ hland))

/-! ### Deliveries -/

@[simp] theorem withdrawDelivery_bounded (h : Bounded s) : Bounded (s.withdrawDelivery) := by
  simp [h, withdrawDelivery]

@[simp] theorem offerDelivery_bounded (h : Bounded s) : Bounded (s.offerDelivery) := by
  simp only [offerDelivery]; repeat' split
  all_goals simp [h]

@[simp] theorem onActive_bounded (f : Machine.Active → Machine.Active) (h : Bounded s) : Bounded (s.onActive f) := by
  simp [h, onActive]

@[simp] theorem clearActive_bounded (h : Bounded s) : Bounded (s.clearActive) := by
  simp [h, clearActive]

@[simp] theorem resumeSuspended_bounded (h : Bounded s) : Bounded (s.resumeSuspended) := by
  simp only [resumeSuspended]; repeat' split
  all_goals simp [h]

@[simp] theorem offerFailed_bounded (h : Bounded s) : Bounded (s.offerFailed) := by
  simp only [offerFailed]; repeat' split
  all_goals simp [h]

@[simp] theorem offerLetter_bounded (i : LetterIx) (st : Station) (h : Bounded s) : Bounded (s.offerLetter i st) := by
  simp only [offerLetter]
  split
  · exact h
  · split
    · exact onBus_place_bounded (h.congr rfl rfl rfl) _
    · exact offerFailed_bounded (onBus_place_bounded (h.congr rfl rfl rfl) _)

@[simp] theorem suspendNow_bounded (h : Bounded s) : Bounded (s.suspendNow) := by
  simp only [suspendNow]; repeat' split
  all_goals simp [h]

@[simp] theorem afterSuspend_bounded (h : Bounded s) : Bounded (s.afterSuspend) := by
  simp only [afterSuspend]; repeat' split
  all_goals simp [h]

@[simp] theorem look_bounded (h : Bounded s) : Bounded (s.look) := by
  unfold look
  split
  · exact h
  · split
    · split
      · exact offerLetter_bounded _ _ h
      · exact resumeSuspended_bounded h
    · split
      · have hpend := onActive_bounded (fun a => { a with suspendPending := true }) h
        dsimp only
        split
        · split
          · exact withdrawDelivery_bounded hpend
          · exact afterSuspend_bounded (suspendNow_bounded (withdrawDelivery_bounded hpend))
        · exact hpend
      · exact h

@[simp] theorem afterEnd_bounded (h : Bounded s) : Bounded (s.afterEnd) :=
  look_bounded (when_bounded h _ _ resumeSuspended_bounded)

@[simp] theorem streamOn_bounded (h : Bounded s) : Bounded (s.streamOn) := by
  simp only [streamOn]; repeat' split
  all_goals simp [h]

@[simp] theorem addUnconfirmed_bounded (u : Unconfirmed) (h : Bounded s) : Bounded (s.addUnconfirmed u) := by
  obtain ⟨hb, hr, hu⟩ := h
  refine ⟨hb, hr, ?_⟩
  simp only [addUnconfirmed, onDeliv_deliv, List.length_append, List.length_singleton]
  split
  · omega
  · rw [List.length_drop]; omega

@[simp] theorem noteUnconfirmed_bounded (x : Letter) (p : Progress) (h : Bounded s) : Bounded (s.noteUnconfirmed x p) := by
  simp only [noteUnconfirmed]; repeat' split
  all_goals simp [h]

@[simp] theorem closeAgain_bounded (i : LetterIx) (h : Bounded s) : Bounded (s.closeAgain i) := by
  simp [h, closeAgain]

@[simp] theorem abortActive_bounded (h : Bounded s) : Bounded (s.abortActive) := by
  unfold abortActive
  split
  · exact clearActive_bounded (closeAgain_bounded _ (when_bounded h _ _ (noteUnconfirmed_bounded _ _)))
  · exact h

@[simp] theorem abortSuspended_bounded (h : Bounded s) : Bounded (s.abortSuspended) := by
  simp only [abortSuspended]; repeat' split
  all_goals simp [h]

@[simp] theorem filingAbsent_bounded (st : Station) (h : Bounded s) : Bounded (s.filingAbsent st) := by
  simp only [filingAbsent]
  split
  · exact afterEnd_bounded (when_bounded (when_bounded h _ _ abortSuspended_bounded) _ _ abortActive_bounded)
  · exact h

@[simp] theorem reviveStranded_bounded (h : Bounded s) : Bounded (s.reviveStranded) := h

@[simp] theorem filingPresent_bounded (h : Bounded s) : Bounded (s.filingPresent) := by
  simp [h, filingPresent]

@[simp] theorem rejectActive_bounded (h : Bounded s) : Bounded (s.rejectActive) := by
  unfold rejectActive
  split
  · dsimp only
    refine afterEnd_bounded ?_
    split
    · exact clearActive_bounded ((onLetter_bounded _ _).mpr h)
    · exact raise_bounded (clearActive_bounded ((onLetter_bounded _ _).mpr h)) _
  · exact h

@[simp] theorem setPhase_bounded (ph : DeliveryPhase) (t : Option Nat) (h : Bounded s) : Bounded (s.setPhase ph t) := by
  simp [h, setPhase]

@[simp] theorem advanceDelivery_bounded (a : Machine.Active) (r : SegRec) (d : DataBody) (h : Bounded s) :
    Bounded (s.advanceDelivery a r d) := by
  simp only [advanceDelivery]; repeat' split
  all_goals simp [h]

/-! ### Numbers -/

@[simp] theorem raiseNext_bounded (v : Nat) (h : Bounded s) : Bounded (s.raiseNext v) := by
  simp [h, raiseNext]

@[simp] theorem claimAbandoned_bounded (h : Bounded s) : Bounded (s.claimAbandoned) := by
  simp [h, claimAbandoned]

@[simp] theorem placeClaim_bounded (h : Bounded s) : Bounded (s.placeClaim) := by
  simp only [placeClaim]; repeat' split
  all_goals simp [h]

@[simp] theorem exhaust_bounded (h : Bounded s) : Bounded (s.exhaust) := by
  simp only [exhaust]; repeat' split
  all_goals simp [h]

@[simp] theorem makeClaim_bounded (h : Bounded s) : Bounded (s.makeClaim) := by
  simp only [makeClaim]; repeat' split
  all_goals simp [h]

@[simp] theorem endClaim_bounded (h : Bounded s) : Bounded (s.endClaim) := by
  simp [h, endClaim]

@[simp] theorem consultClaim_bounded (h : Bounded s) : Bounded (s.consultClaim.1) := by
  simp only [consultClaim]; repeat' split
  all_goals simp [h]

@[simp] theorem assignNumber_bounded (n : Nat) (h : Bounded s) : Bounded (s.assignNumber n) := by
  simp only [assignNumber]; repeat' split
  all_goals simp [h]

@[simp] theorem takeBack_bounded (i : LetterIx) (h : Bounded s) : Bounded (s.takeBack i) := by
  simp [h, takeBack]

@[simp] theorem ignoreObjection_bounded (h : Bounded s) : Bounded (s.ignoreObjection) := by
  simp [h, ignoreObjection]

@[simp] theorem objectedTo_bounded (st : Station) (n : Nat) (h : Bounded s) : Bounded (s.objectedTo st n) := by
  simp only [objectedTo]
  split
  · exact raise_bounded (ignoreObjection_bounded h) _
  · split
    · exact raise_bounded (makeClaim_bounded (takeBack_bounded _ ((onNums_bounded _).mpr h))) _
    · exact raise_bounded (ignoreObjection_bounded ((onNums_bounded _).mpr h)) _

@[simp] theorem placeBeacon_bounded (h : Bounded s) : Bounded (s.placeBeacon) :=
  (onBus_onLink_bounded h (fun k => { k with beacon := some s.beaconBody }) (fun _ => rfl) fun _ => rfl).congr
    rfl rfl rfl

@[simp] theorem chooseConsole_bounded (h : Bounded s) : Bounded (s.chooseConsole) :=
  h.onBus fun hb => ⟨hb.queue, hb.fault, hb.quiet⟩

end State

end Sys2Proof.Machine
end

section
/-! The bounds, kept by the operations of letters, transfers, lines and peers. -/

namespace Sys2Proof.Machine.State

variable {s : State}

/-- A fold of operations that keep the bounds keeps them. -/
theorem foldl_bounded {α : Type} {f : State → α → State} (hf : ∀ s a, Bounded s → Bounded (f s a)) (as : List α)
    (h : Bounded s) : Bounded (as.foldl f s) := by
  induction as generalizing s with
  | nil => exact h
  | cons a as ih => exact ih (hf s a h)

@[simp] theorem dropRecords_bounded (c : List SegRec) (h : Bounded s) : Bounded (dropRecords c s) := by
  induction c generalizing s with
  | nil => exact h
  | cons r c ih => exact ih (decRef_bounded _ ((onSeg_bounded _).mpr h))

@[simp] theorem sealAll_bounded (bs : List Nat) (h : Bounded s) : Bounded (sealAll bs s) := by
  induction bs generalizing s with
  | nil => exact h
  | cons b bs ih => exact ih (sealBlock_bounded b h)

/-! ### Letters freed -/

@[simp] theorem freeLetter_bounded (i : LetterIx) (h : Bounded s) : Bounded (s.freeLetter i) := by
  simp only [freeLetter]; repeat' split
  all_goals simp [h]

@[simp] theorem fileLetter_bounded (i : LetterIx) (n : Nat) (st : Station) (h : Bounded s) : Bounded (s.fileLetter i n st) := by
  simp [h, fileLetter]

@[simp] theorem discardPass_bounded (i : LetterIx) (x : Letter) (h : Bounded s) : Bounded (s.discardPass i x) := by
  simp [h, discardPass]

/-! ### Transfers -/

@[simp] theorem sealOwned_bounded (i : LetterIx) (h : Bounded s) : Bounded (s.sealOwned i) := by
  simp [h, sealOwned]

@[simp] theorem endIncoming_bounded (h : Bounded s) : Bounded (s.endIncoming) := by
  simp [h, endIncoming]

@[simp] theorem backToSelect_bounded (l : LineNo) (h : Bounded s) : Bounded (s.backToSelect l) := by
  simp [h, backToSelect]

@[simp] theorem landOn_bounded (l : LineNo) (i : LetterIx) (h : Bounded s) : Bounded (s.landOn l i) := by
  simp [h, landOn]

@[simp] theorem placeCancel_bounded (g : Station) (n : Nat) (r : Option CancelReason) (h : Bounded s) :
    Bounded (s.placeCancel g n r) := by
  simp only [placeCancel]; repeat' split
  all_goals simp [h]

@[simp] theorem tellFailed_bounded (i : LetterIx) (h : Bounded s) : Bounded (s.tellFailed i) := by
  simp only [tellFailed]; repeat' split
  all_goals simp [h]

@[simp] theorem incomingFail_bounded (c : Option CancelReason) (w : TransferReason) (h : Bounded s) :
    Bounded (s.incomingFail c w) := by
  unfold incomingFail
  split
  · exact h
  · exact placeCancel_bounded _ _ _ (raise_bounded (tellFailed_bounded _ (endIncoming_bounded
      (freeLetter_bounded _ h))) _)

@[simp] theorem startFetch_bounded (l : LineNo) (st : Station) (n a : Nat) (h : Bounded s) : Bounded (s.startFetch l st n a) := by
  unfold startFetch
  split
  · exact backToSelect_bounded l h
  · next i _ =>
    have hnew := raiseNext_bounded (n + 1)
      ((setLetter_bounded i (some (.new n a .transitIn none (some st)))).mpr (h.congr (t := { s with
        streamId := s.streamId + 1 }) rfl rfl rfl))
    dsimp only
    split
    · exact onBus_place_bounded (hnew.congr rfl rfl rfl) _
    · exact incomingFail_bounded _ _ (onBus_place_bounded (hnew.congr rfl rfl rfl) _)

@[simp] theorem actOnPick_bounded (l : LineNo) (a : Nat) (p : Pick) (h : Bounded s) : Bounded (s.actOnPick l a p) := by
  simp only [actOnPick]; repeat' split
  all_goals simp [h]

@[simp] theorem givePick_bounded (c : Collection) (p : Pick) (h : Bounded s) : Bounded (s.givePick c p) := by
  simp only [givePick]; repeat' split
  all_goals simp [h]

@[simp] theorem dropCollection_bounded (c : Collection) (h : Bounded s) : Bounded (s.dropCollection c) := by
  simp [h, dropCollection]

@[simp] theorem endQueued_bounded (t : BitVec 8) (h : Bounded s) : Bounded (s.endQueued t) := by
  simp only [endQueued]; repeat' split
  all_goals simp [h]

@[simp] theorem requestLocate_bounded (l : LineNo) (a k : Nat) (h : Bounded s) : Bounded (s.requestLocate l a k) := by
  simp only [requestLocate]
  split
  · exact place_bounded (h.congr rfl rfl rfl) _ _
  · exact endQueued_bounded _ (place_bounded (h.congr rfl rfl rfl) _ _)

@[simp] theorem onOutgoing_bounded (f : Outgoing → Outgoing) (h : Bounded s) : Bounded (s.onOutgoing f) := by
  simp [h, onOutgoing]

@[simp] theorem withdrawTransfer_bounded (h : Bounded s) : Bounded (s.withdrawTransfer) := by
  simp [h, withdrawTransfer]

@[simp] theorem makeCheck_bounded (h : Bounded s) : Bounded (s.makeCheck) := by
  simp only [makeCheck]; repeat' split
  all_goals simp [h]

@[simp] theorem haltOutgoing_bounded (h : Bounded s) : Bounded (s.haltOutgoing) := by
  simp [h, haltOutgoing]

@[simp] theorem transferAbandoned_bounded (n : Nat) (h : Bounded s) : Bounded (s.transferAbandoned n) := by
  simp only [transferAbandoned]; repeat' split
  all_goals simp [h]

@[simp] theorem offerTransfer_bounded (h : Bounded s) : Bounded (s.offerTransfer) := by
  simp only [offerTransfer]; repeat' split
  all_goals simp [h]

@[simp] theorem startStream_bounded (h : Bounded s) : Bounded (s.startStream) := by
  simp [h, startStream]

@[simp] theorem endOutgoing_bounded (h : Bounded s) : Bounded (s.endOutgoing) := by
  simp [h, endOutgoing]

@[simp] theorem lendLetter_bounded (i : LetterIx) (x : Letter) (st : Station) (h : Bounded s) : Bounded (s.lendLetter i x st) := by
  simp only [lendLetter]
  split
  · exact onBus_place_bounded (h.congr rfl rfl rfl) _
  · exact transferAbandoned_bounded _ (onBus_place_bounded (h.congr rfl rfl rfl) _)

@[simp] theorem releaseLetter_bounded (i : LetterIx) (n : Nat) (st : Station) (h : Bounded s) :
    Bounded (s.releaseLetter i n st) := by
  obtain ⟨hb, hr, hu⟩ := endOutgoing_bounded (freeLetter_bounded i h)
  simp only [releaseLetter]
  apply place_bounded
  refine ⟨hb, ?_, hu⟩
  simp only [onXfer_xfer, List.length_append, List.length_singleton]
  split
  · omega
  · rw [List.length_drop]; omega

@[simp] theorem returnHeld_bounded (i : LetterIx) (h : Bounded s) : Bounded (s.returnHeld i) := by
  simp [h, returnHeld]

@[simp] theorem writeItem_bounded (i : LetterIx) (b : Nat) (r : RepackHeader) (first : Bool) (it : RxItem) (h : Bounded s) :
    Bounded (s.writeItem i b r first it) := by
  simp only [writeItem]; repeat' split
  all_goals simp [h]

@[simp] theorem restartReceive_bounded (h : Bounded s) : Bounded (s.restartReceive) := by
  simp [h, restartReceive]

@[simp] theorem settle_bounded (e : Settle) (h : Bounded s) : Bounded (s.settle e) := by
  simp only [settle]; repeat' split
  all_goals simp [h]

@[simp] theorem finishIncoming_bounded (c : Incoming) (p : Snapshot) (h : Bounded s) : Bounded (s.finishIncoming c p) := by
  have hend := endIncoming_bounded (sealOwned_bounded c.letter h)
  simp only [finishIncoming]
  generalize (s.sealOwned c.letter).endIncoming = u at hend ⊢
  split
  · exact prompt_bounded _ _ ((place_bounded (hend.congr rfl rfl rfl) c.giver (.take c.number)).congr rfl rfl rfl)
  · exact place_bounded (hend.congr rfl rfl rfl) _ _

@[simp] theorem restartAtGiver_bounded (st : Station) (h : Bounded s) : Bounded (s.restartAtGiver st) := by
  simp only [restartAtGiver]; repeat' split
  all_goals simp [h]

@[simp] theorem restartAtTaker_bounded (st : Station) (h : Bounded s) : Bounded (s.restartAtTaker st) := by
  simp only [restartAtTaker]; repeat' split
  all_goals simp [h]

@[simp] theorem partnerRestart_bounded (st : Station) (h : Bounded s) : Bounded (s.partnerRestart st) :=
  foldl_bounded (fun _ e hs => settle_bounded e hs) _ (restartAtTaker_bounded st (restartAtGiver_bounded st h))

@[simp] theorem onCollection_bounded (c d : Collection) (h : Bounded s) : Bounded (s.onCollection c d) := by
  simp [h, onCollection]

@[simp] theorem admitLetter_bounded (c : Incoming) (p : Snapshot) (h : Bounded s) : Bounded (s.admitLetter c p) := by
  simp [h, admitLetter]

@[simp] theorem advanceOutgoing_bounded (r : SegRec) (d : DataBody) (h : Bounded s) : Bounded (s.advanceOutgoing r d) := by
  simp [h, advanceOutgoing]

/-! ### Passes -/

@[simp] theorem leaveHold_bounded (l : LineNo) (x : HoldSlice) (h : Bounded s) : Bounded ((s.leaveHold l x).1) := by
  simp only [leaveHold]; repeat' split
  all_goals simp [h]

@[simp] theorem endPass_bounded (l : LineNo) (h : Bounded s) : Bounded (s.endPass l) := by
  simp only [endPass]; repeat' split
  all_goals simp [h]

@[simp] theorem failPass_bounded (l : LineNo) (f : PassFail) (h : Bounded s) : Bounded (s.failPass l f) := by
  simp [h, failPass]

/-! ### Lines -/

@[simp] theorem refuse_bounded (l : LineNo) (h : Bounded s) : Bounded (s.refuse l) := by
  simp [h, refuse]

@[simp] theorem authorAgain_bounded (l : LineNo) (h : Bounded s) : Bounded (s.authorAgain l) := by
  simp [h, authorAgain]

@[simp] theorem authorDigit_bounded (l : LineNo) (d : Digit) (h : Bounded s) : Bounded (s.authorDigit l d) := by
  simp only [authorDigit]; repeat' split
  all_goals simp [h]

@[simp] theorem authorEnter_bounded (l : LineNo) (h : Bounded s) : Bounded (s.authorEnter l) := by
  simp only [authorEnter]; repeat' split
  all_goals simp [h]

@[simp] theorem authorKey_bounded (l : LineNo) (k : Key) (h : Bounded s) : Bounded (s.authorKey l k) := by
  simp only [authorKey]; repeat' split
  all_goals simp [h]

@[simp] theorem newLetter_bounded (l : LineNo) (h : Bounded s) : Bounded (s.newLetter l) := by
  simp only [newLetter]; repeat' split
  all_goals simp [h]

@[simp] theorem startSeek_bounded (l : LineNo) (h : Bounded s) : Bounded (s.startSeek l) := by
  simp [h, startSeek]

@[simp] theorem selectKey_bounded (l : LineNo) (k : Key) (h : Bounded s) : Bounded (s.selectKey l k) := by
  simp only [selectKey]; repeat' split
  all_goals simp [h]

@[simp] theorem restartSeek_bounded (l : LineNo) (h : Bounded s) : Bounded (s.restartSeek l) := by
  simp [h, restartSeek]

@[simp] theorem seekDigit_bounded (l : LineNo) (d : Digit) (h : Bounded s) : Bounded (s.seekDigit l d) := by
  simp only [seekDigit]; repeat' split
  all_goals simp [h]

@[simp] theorem seekEnter_bounded (l : LineNo) (h : Bounded s) : Bounded (s.seekEnter l) := by
  simp [h, seekEnter]

@[simp] theorem seekKey_bounded (l : LineNo) (k : Key) (h : Bounded s) : Bounded (s.seekKey l k) := by
  simp only [seekKey]; repeat' split
  all_goals simp [h]

@[simp] theorem startPass_bounded (l : LineNo) (i : LetterIx) (h : Bounded s) : Bounded (s.startPass l i) := by
  simp [h, startPass]

@[simp] theorem record_bounded (l : LineNo) (i : LetterIx) (x : Letter) (h : Bounded s) : Bounded (s.record l i x) := by
  simp only [record]; repeat' split
  all_goals simp [h]

@[simp] theorem endPlayback_bounded (l : LineNo) (h : Bounded s) : Bounded (s.endPlayback l) := by
  simp [h, endPlayback]

@[simp] theorem play_bounded (l : LineNo) (x : Letter) (h : Bounded s) : Bounded (s.play l x) := by
  simp only [play]; repeat' split
  all_goals simp [h]

@[simp] theorem moveCursor_bounded (i : LetterIx) (f : Nat → Nat → Nat) (h : Bounded s) : Bounded (s.moveCursor i f) := by
  simp [h, moveCursor]

@[simp] theorem toggleMode_bounded (i : LetterIx) (h : Bounded s) : Bounded (s.toggleMode i) := by
  simp [h, toggleMode]

@[simp] theorem markInstruction_bounded (i : LetterIx) (h : Bounded s) : Bounded (s.markInstruction i) := by
  simp [h, markInstruction]

@[simp] theorem togglePriority_bounded (i : LetterIx) (h : Bounded s) : Bounded (s.togglePriority i) := by
  simp [h, togglePriority]

@[simp] theorem letGo_bounded (l : LineNo) (h : Bounded s) : Bounded (s.letGo l) :=
  prompt_bounded l _ (goto_bounded l _ (detachLine_bounded l h))

@[simp] theorem closeLetter_bounded (i : LetterIx) (h : Bounded s) : Bounded (s.closeLetter i) := by
  simp [h, closeLetter]

@[simp] theorem endLetter_bounded (l : LineNo) (i : LetterIx) (x : Letter) (h : Bounded s) : Bounded (s.endLetter l i x) := by
  simp only [endLetter]; repeat' split
  all_goals simp [h]

@[simp] theorem discard_bounded (l : LineNo) (i : LetterIx) (x : Letter) (h : Bounded s) : Bounded (s.discard l i x) := by
  simp only [discard]; repeat' split
  all_goals simp [h]

@[simp] theorem holdKey_bounded (l : LineNo) (i : LetterIx) (h : Bounded s) : Bounded (s.holdKey l i) := by
  simp [h, holdKey]

@[simp] theorem markKey_bounded (l : LineNo) (i : LetterIx) (k : Key) (h : Bounded s) : Bounded (s.markKey l i k) := by
  simp only [markKey]; repeat' split
  all_goals simp [h]

@[simp] theorem dropTouched_bounded (l : LineNo) (h : Bounded s) : Bounded (s.dropTouched l) := by
  simp [h, dropTouched]

@[simp] theorem readyKey_bounded (l : LineNo) (k : Key) (h : Bounded s) : Bounded (s.readyKey l k) := by
  simp only [readyKey]; repeat' split
  all_goals simp [h]

@[simp] theorem stopPlaying_bounded (l : LineNo) (h : Bounded s) : Bounded (s.stopPlaying l) := by
  simp [h, stopPlaying]

@[simp] theorem playingKey_bounded (l : LineNo) (k : Key) (h : Bounded s) : Bounded (s.playingKey l k) := by
  simp only [playingKey]; repeat' split
  all_goals simp [h]

@[simp] theorem toneReleased_bounded (l : LineNo) (h : Bounded s) : Bounded (s.toneReleased l) := by
  simp [h, toneReleased]

@[simp] theorem endWinding_bounded (l : LineNo) (h : Bounded s) : Bounded (s.endWinding l) := by
  simp only [endWinding]; repeat' split
  all_goals simp [h]

@[simp] theorem windReleased_bounded (l : LineNo) (w : Wind) (u : Bool) (h : Bounded s) : Bounded (s.windReleased l w u) := by
  simp only [windReleased]; repeat' split
  all_goals simp [h]

@[simp] theorem keyReleased_bounded (l : LineNo) (k : Key) (h : Bounded s) : Bounded (s.keyReleased l k) := by
  simp only [keyReleased]; repeat' split
  all_goals simp [h]

@[simp] theorem toneRecognised_bounded (l : LineNo) (k : Key) (h : Bounded s) : Bounded (s.toneRecognised l k) := by
  simp [h, toneRecognised]

@[simp] theorem startWinding_bounded (l : LineNo) (r : ReturnState) (h : Bounded s) : Bounded (s.startWinding l r) := by
  simp [h, startWinding]

@[simp] theorem keyHeld_bounded (l : LineNo) (k : Key) (h : Bounded s) : Bounded (s.keyHeld l k) := by
  simp only [keyHeld]; repeat' split
  all_goals simp [h]

@[simp] theorem windStepNow_bounded (l : LineNo) (h : Bounded s) : Bounded (s.windStepNow l) := by
  simp only [windStepNow]; repeat' split
  all_goals simp [h]

@[simp] theorem takeLevel_bounded (l : LineNo) (b : Bool) (h : Bounded s) : Bounded (s.takeLevel l b) := by
  simp [h, takeLevel]

@[simp] theorem riseLine_bounded (l : LineNo) (h : Bounded s) : Bounded (s.riseLine l) := by
  simp only [riseLine]; repeat' split
  all_goals simp [h]

@[simp] theorem holdAttached_bounded (l : LineNo) (h : Bounded s) : Bounded (s.holdAttached l) := by
  simp only [holdAttached]; repeat' split
  all_goals simp [h]

@[simp] theorem countPause_bounded (l : LineNo) (b : Bool) (h : Bounded s) : Bounded (s.countPause l b) := by
  simp only [countPause]; repeat' split
  all_goals simp [h]

@[simp] theorem playSlice_bounded (l : LineNo) (h : Bounded s) : Bounded (s.playSlice l) := by
  simp only [playSlice]; repeat' split
  all_goals simp [h]

@[simp] theorem newPeriod_bounded (l : LineNo) (h : Bounded s) : Bounded (s.newPeriod l) := by
  simp [h, newPeriod]

/-! ### Control and peers -/

@[simp] theorem answer_bounded (st : Station) (k u : Nat) (c : List Byte) (h : Bounded s) : Bounded (s.answer st k u c) := by
  simp [h, answer]

@[simp] theorem becomeActive_bounded (h : Bounded s) : Bounded (s.becomeActive) :=
  (onNums_bounded _).mpr (h.onBus fun hb => ⟨hb.queue, hb.fault, nofun⟩)

@[simp] theorem putPeer_bounded (st : Station) (b : BeaconBody) (h : Bounded s) : Bounded (s.putPeer st b) :=
  h.congr rfl rfl rfl

@[simp] theorem tellPresent_bounded (c : StationClass) (h : Bounded s) : Bounded (s.tellPresent c) := by
  simp only [tellPresent]; repeat' split
  all_goals simp [h]

@[simp] theorem tellAbsent_bounded (st : Station) (c : StationClass) (h : Bounded s) : Bounded (s.tellAbsent st c) := by
  simp only [tellAbsent]; repeat' split
  all_goals simp [h]

@[simp] theorem tellChange_bounded (p : Peer) (b : BeaconBody) (h : Bounded s) : Bounded (s.tellChange p b) := by
  have habsent : Bounded (when p.present (·.tellAbsent p.station p.cls) s) :=
    when_bounded h _ _ (tellAbsent_bounded _ _)
  unfold tellChange
  split
  · split
    · exact when_bounded h _ _ (tellAbsent_bounded _ _)
    · exact when_bounded h _ _ (tellPresent_bounded _)
  · exact when_bounded habsent _ _ (tellPresent_bounded _)

@[simp] theorem seeRestart_bounded (p : Peer) (h : Bounded s) : Bounded (s.seeRestart p) := by
  simp [h, seeRestart]

@[simp] theorem takeBeacon_bounded (st : Station) (b : BeaconBody) (h : Bounded s) : Bounded (s.takeBeacon st b) := by
  unfold takeBeacon
  split
  · exact when_bounded (putPeer_bounded st b h) _ _ (tellPresent_bounded _)
  · exact tellChange_bounded _ _ (putPeer_bounded st b (when_bounded h _ _ (seeRestart_bounded _)))

@[simp] theorem raiseByBeacon_bounded (b : BeaconBody) (h : Bounded s) : Bounded (s.raiseByBeacon b) := by
  simp only [raiseByBeacon]; repeat' split
  all_goals simp [h]

@[simp] theorem silence_bounded (st : Station) (h : Bounded s) : Bounded (s.silence st) :=
  h.congr rfl rfl rfl

@[simp] theorem expireHeld_bounded (i : LetterIx) (x : Letter) (h : Bounded s) : Bounded (s.expireHeld i x) := by
  simp only [expireHeld]; repeat' split
  all_goals simp [h]

end Sys2Proof.Machine.State
end

section
/-! The bounds, kept by passes, received items, keys, periods and the link. -/

namespace Sys2Proof.Machine.State

variable {s : State}

/-! ### Passes -/

theorem flushHold_bounded (l : LineNo) (hs : List HoldSlice) (h : Bounded s) : Bounded (flushHold l hs s).1 := by
  induction hs generalizing s with
  | nil => exact h
  | cons x hs ih =>
    have hleave := leaveHold_bounded l x h
    unfold flushHold
    split
    · next heq => rw [heq] at hleave; exact hleave
    · next heq => rw [heq] at hleave; exact ih hleave

@[simp] theorem finishPass_bounded (l : LineNo) (h : Bounded s) : Bounded (s.finishPass l).1 := by
  have hflush := flushHold_bounded l s.lines[l].hold h
  unfold finishPass
  split
  · next heq => rw [heq] at hflush; exact failPass_bounded l _ hflush
  · next heq => rw [heq] at hflush; exact endPass_bounded l hflush

@[simp] theorem closePass_bounded (l : LineNo) (p : Option Prompt) (h : Bounded s) : Bounded (s.closePass l p) := by
  have hready := goto_bounded l .ready (finishPass_bounded l h)
  unfold closePass
  dsimp only
  split
  · exact prompt_bounded _ _ hready
  · exact prompt_bounded _ _ hready
  · exact hready

/-! ### Items received -/

theorem writeItems_bounded (i : LetterIx) (b : Nat) (r : RepackHeader) (first : Bool) (its : List RxItem)
    (h : Bounded s) : Bounded (writeItems i b r first its s) := by
  induction its generalizing first s with
  | nil => exact h
  | cons it its ih => exact ih _ (writeItem_bounded i b r first it h)

@[simp] theorem repackInto_bounded (c : Incoming) (b : Nat) (p : Repack) (h : Bounded s) :
    Bounded (s.repackInto c b p) := by
  have hwritten := writeItems_bounded c.letter b p.header (c.slice == 0) p.slices h
  refine when_bounded ?_ _ _ (sealBlock_bounded b)
  exact (onXfer_bounded _ fun _ => rfl).mpr hwritten

@[simp] theorem repack_bounded (c : Incoming) (d : DataBody) (p : Repack) (h : Bounded s) :
    Bounded (s.repack c d p) := by
  have hsealed := sealOwned_bounded c.letter h
  unfold repack
  dsimp only
  split
  · exact h
  · split
    · split
      · exact repackInto_bounded _ _ _ (giveBlock_bounded _ _ _ _ (chargeTransfer_bounded hsealed))
      · exact incomingFail_bounded _ _ hsealed
    · split
      · exact repackInto_bounded _ _ _ h
      · exact h

@[simp] theorem takeData_bounded (p : Snapshot) (c : Incoming) (d : DataBody) (h : Bounded s) :
    Bounded (s.takeData p c d) := by
  have hrestart := restartReceive_bounded h
  unfold takeData
  dsimp only
  split
  · exact incomingFail_bounded _ _ h
  · split
    · exact hrestart
    · split
      · exact incomingFail_bounded _ _ hrestart
      · exact repack_bounded _ _ _ hrestart

/-! ### Keys -/

@[simp] theorem recordingKey_bounded (l : LineNo) (k : Key) (h : Bounded s) : Bounded (s.recordingKey l k) := by
  have hdrop := dropTouched_bounded l h
  have hclose := closePass_bounded l none hdrop
  cases k
  case k2 | k4 | k5 => exact hclose
  case k3 | kB | k0 | k9 | kC | kD => exact readyKey_bounded l _ hclose
  case k6 | k7 | k8 =>
    simp only [recordingKey]
    split
    · exact markKey_bounded _ _ _ hdrop
    · exact refuse_bounded l hdrop
  case k1 | kA | star | hash => exact refuse_bounded l hdrop

@[simp] theorem keyActs_bounded (l : LineNo) (k : Key) (h : Bounded s) : Bounded (s.keyActs l k) := by
  unfold keyActs
  split <;> simp [h]

theorem releaseOld_bounded (l : LineNo) (h : Bounded s) : Bounded (s.releaseOld l) := by
  unfold releaseOld
  cases s.tones[l].keyDown with
  | none => exact h
  | some old => exact keyReleased_bounded l old h

@[simp] theorem keyRecognised_bounded (l : LineNo) (k : Key) (h : Bounded s) : Bounded (s.keyRecognised l k) := by
  have htone := toneRecognised_bounded l k (releaseOld_bounded l h)
  rw [keyRecognised_eq]
  split
  · exact htone
  · exact keyActs_bounded l k ((onLine_bounded _ _).mpr htone)

/-! ### Line clear and slice periods -/

@[simp] theorem clearLine_bounded (l : LineNo) (h : Bounded s) : Bounded (s.clearLine l) := by
  have hpass : Bounded (if s.lines[l].state = .recording then (s.finishPass l).1 else s) := by
    split
    · exact finishPass_bounded l h
    · exact h
  exact cutOff_bounded l (by simpa using holdAttached_bounded l hpass)

theorem clearDisabled_bounded (ls : List LineNo) (h : Bounded s) : Bounded (clearDisabled ls s) := by
  induction ls generalizing s with
  | nil => exact h
  | cons l ls ih => exact ih (when_bounded h _ _ (clearLine_bounded l))

theorem riseHigh_bounded (ls : List LineNo) (h : Bounded s) : Bounded (riseHigh ls s) := by
  induction ls generalizing s with
  | nil => exact h
  | cons l ls ih => exact ih (when_bounded h _ _ (riseLine_bounded l))

@[simp] theorem acceptSettings_bounded (b : SettingsBody) (h : Bounded s) : Bounded (s.acceptSettings b) :=
  clearDisabled_bounded _ (h.onBus fun hb => ⟨hb.queue, hb.fault, hb.quiet⟩)

/-- A slice that leaves the hold, and whether the pass fails at it: the bounds of either outcome. -/
theorem pushHold_bounded (l : LineNo) (x : HoldSlice) (h : Bounded s) : Bounded (s.pushHold l x) := by
  have hfirst : ∀ r : State × Option PassFail, Bounded r.1 →
      Bounded (match r with
        | (s, some f) => ((s.failPass l f).goto l .ready).prompt l f.prompt
        | (s, none) =>
            let s := s.onLine l fun c => { c with hold := c.hold ++ [x] }
            when (x.speech = false && s.bus.ctl.settings.autoPauseSlices ≤ s.lines[l].autoRun)
              (·.report (.autoPause l)) s) := by
    rintro ⟨t, f⟩ ht
    cases f with
    | some f => exact prompt_bounded _ _ (goto_bounded _ _ (failPass_bounded _ _ ht))
    | none => exact when_bounded ((onLine_bounded _ _).mpr ht) _ _ id
  refine hfirst _ ?_
  split
  · split
    · exact leaveHold_bounded _ _ ((onLine_bounded _ _).mpr h)
    · exact h
  · exact h

@[simp] theorem recordSlice_bounded (l : LineNo) (x : InSlice) (h : Bounded s) : Bounded (s.recordSlice l x) := by
  simp only [recordSlice]
  split
  · exact (count_bounded _).mpr h
  · exact pushHold_bounded _ _ (countPause_bounded _ _ ((onCoder_bounded _ _).mpr h))

theorem endPeriod_bounded (l : LineNo) (x : InSlice) (h : Bounded s) : Bounded (s.endPeriod l x) :=
  newPeriod_bounded l (when_bounded (when_bounded (when_bounded h _ _ (recordSlice_bounded l x)) _ _
    (playSlice_bounded l)) _ _ (cutOff_bounded l))

theorem endPeriods_bounded (ls : List LineNo) (xs : List InSlice) (h : Bounded s) :
    Bounded (endPeriods ls xs s) := by
  induction ls generalizing xs s with
  | nil => exact h
  | cons l ls ih => exact ih _ (endPeriod_bounded l _ h)

/-! ### The link -/

@[simp] theorem enterDetached_bounded (h : Bounded s) : Bounded s.enterDetached := by
  have hlink : Bounded ((s.cancel .linkRecovery).onBus (Bus.onLink detachLink)) :=
    ((cancel_bounded _).mpr h).onBus fun hb => hb.onLink rfl rfl
  exact abortActive_bounded (abortSuspended_bounded (when_bounded hlink _ _ haltOutgoing_bounded))

/-- The fault count takes a value up to 256: 0 where the station is UNNUMBERED. -/
theorem setFaultBus_bounded {b : Bus} (h : b.Bounded) {n : Nat}
    (hn : n ≤ Config.faultLimit) (hquiet : b.ctl.state = .unnumbered → n = 0) : (b.setFault n).Bounded := by
  have hset : (b.onLink fun k => { k with
      fault := n
      holdOff := if b.link.state = .muted ∧ LinkState.ofFault n ≠ .muted then none else k.holdOff }).Bounded :=
    ⟨h.queue, hn, hquiet⟩
  simp only [Bus.setFault]
  split
  · exact hset
  · exact Bus.raise_bounded hset _

theorem faultDown_le (n : Nat) : faultDown n ≤ n := by
  unfold faultDown
  split <;> omega

theorem faultFalls_bounded (h : Bounded s) : Bounded s.faultFalls := by
  have hle := faultDown_le s.bus.link.fault
  have hset : Bounded (s.onBus (Bus.setFault (faultDown s.bus.link.fault))) :=
    h.onBus fun hb => setFaultBus_bounded hb (hle.trans hb.fault) fun hu => by
      rw [hb.quiet hu] at hle ⊢
      exact Nat.le_zero.mp hle
  exact when_bounded hset _ _ enterDetached_bounded

theorem noteError_bounded (kinds : List ErrKind) (n : Nat) (hnum : s.isNumbered = true) (h : Bounded s) :
    Bounded (s.noteError kinds n) :=
  h.onBus fun hb => setFaultBus_bounded (hb.onLink rfl rfl) (Nat.min_le_left _ _) fun hu => by
    have hstate : s.bus.ctl.state = .unnumbered := hu
    simp [isNumbered, hstate] at hnum

@[simp] theorem detachIfNew_bounded (was : Bool) (h : Bounded s) : Bounded (detachIfNew was s) :=
  when_bounded h _ _ enterDetached_bounded

theorem recover_bounded (h : Bounded s) : Bounded s.recover := by
  have hzero : Bounded (s.onBus fun b => (b.setFault 0).onLink fun k => { k with recoveryRuns := 0 }) :=
    h.onBus fun hb => (setFaultBus_bounded hb (Nat.zero_le _) fun _ => rfl).onLink rfl rfl
  exact look_bounded (when_bounded hzero _ _ makeCheck_bounded)

@[simp] theorem dropCurrent_bounded (h : Bounded s) : Bounded s.dropCurrent :=
  h.onBus fun hb => hb.onLink rfl rfl

@[simp] theorem startFrame_bounded (q : QFrame) (h : Bounded s) : Bounded (s.startFrame q) :=
  h.onBus fun hb => hb.onLink rfl rfl

@[simp] theorem frameDone_bounded (c : Current) (h : Bounded s) : Bounded (s.frameDone c) :=
  ((cancel_bounded _).mpr h).onBus fun hb => hb.of_same hb.queue rfl rfl

theorem consult_bounded (q : QFrame) (h : Bounded s) : Bounded (s.consult q).1 := by
  have hclaim := consultClaim_bounded h
  simp only [consult]
  split
  · dsimp only
    split
    · exact hclaim
    · exact dropCurrent_bounded hclaim
  · exact h

/-- What the arbiter takes leaves a shorter queue, and the fault count. -/
theorem arbiterTakes_link {c : Current} {k : Link} (h : s.arbiterTakes = some (c, k)) :
    k.control.length ≤ s.bus.link.control.length ∧ k.fault = s.bus.link.fault := by
  simp only [arbiterTakes] at h
  split at h
  · split at h <;> cases h <;> simp_all
  · obtain ⟨q, -, heq⟩ := Option.map_eq_some_iff.mp h
    cases heq
    exact ⟨List.length_eraseP_le, rfl⟩

theorem choose_bounded (fuel : Nat) (h : Bounded s) : Bounded (choose fuel s) := by
  induction fuel generalizing s with
  | zero => exact h
  | succ fuel ih =>
    unfold choose
    split
    · exact h
    · next c k hk =>
      obtain ⟨hlen, hfault⟩ := arbiterTakes_link hk
      have hcons := consult_bounded c.frame (h.onBus (f := Bus.onLink fun _ => { k with current := some c })
        fun hb => hb.of_same (hlen.trans hb.queue) hfault rfl)
      dsimp only
      split
      · exact startFrame_bounded _ hcons
      · exact ih hcons

theorem reattempt_bounded (c : Current) (h : Bounded s) : Bounded (s.reattempt c) := by
  have hcons := consult_bounded c.frame h
  unfold reattempt
  dsimp only
  split
  · exact startFrame_bounded _ hcons
  · exact choose_bounded _ hcons

theorem tellAbandoned_bounded (q : QFrame) (h : Bounded s) : Bounded (s.tellAbandoned q) := by
  unfold tellAbandoned
  repeat' split
  all_goals simp [h]

theorem countAttempt_bounded (c : Current) (h : Bounded s) : Bounded (s.countAttempt c) := by
  unfold countAttempt
  split
  · exact h.onBus fun hb => hb.onLink rfl rfl
  · exact tellAbandoned_bounded _ ((dropCurrent_bounded h).onBus fun hb => Bus.abandon_bounded hb _)

@[simp] theorem settleAnswer_bounded (st : Station) (n : Nat) (h : Bounded s) : Bounded (s.settleAnswer st n) := by
  unfold settleAnswer
  repeat' split
  all_goals simp [h]

@[simp] theorem filedActive_bounded (a : Machine.Active) (x : Letter) (p : Progress) (h : Bounded s) :
    Bounded (s.filedActive a x p) := by
  unfold filedActive
  split
  · exact afterEnd_bounded (fileLetter_bounded _ _ _ (clearActive_bounded h))
  · exact h

@[simp] theorem filedLate_bounded (u : Unconfirmed) (h : Bounded s) : Bounded (s.filedLate u) := by
  have herase : Bounded (s.onDeliv fun d => { d with unconfirmed := d.unconfirmed.erase u }) :=
    ⟨h.1, h.2.1, List.length_erase_le.trans h.2.2⟩
  simp only [filedLate]
  split
  · split
    · exact fileLetter_bounded _ _ _ herase
    · exact herase
  · exact h

end Sys2Proof.Machine.State
end

section
/-! The bounds, kept by every command and every tick; O59 follows. -/

namespace Sys2Proof.Machine.State

variable {s : State}

/-! ### Commands -/

theorem Bounded.of_next {t u : State} (h : Bounded u) (ht : (.next u : Result) = .next t) : Bounded t := by
  cases ht
  exact h

/-- A key row takes its own report and recognises its key (log 7). -/
theorem keyRow_bounded (c : Instr) (l : LineNo) (k : Key) (h : Bounded s) :
    Bounded ((s.taken c).keyRecognised l k) :=
  keyRecognised_bounded l k h

theorem afresh_bounded (s : State) (n r : Nat) : Bounded (s.afresh n r) := by
  refine ⟨⟨?_, ?_, fun _ => rfl⟩, ?_, ?_⟩ <;> exact Nat.zero_le _

theorem sendingNow_numbered {c : Current} (h : s.sendingNow = some c) : s.isNumbered = true := by
  unfold sendingNow at h
  split at h
  · simp_all
  · cases h

theorem canFollow_numbered (h : s.canFollow = true) : s.isNumbered = true := by
  unfold canFollow at h
  simp_all

/-- A command keeps the bounds. -/
theorem exec_bounded {t : State} {c : Instr} (h : Bounded s) (hexec : exec c s = .next t) : Bounded t := by
  have htaken := (taken_bounded c).mpr h
  cases c
  case stationReset stn rate => exact Bounded.of_next (afresh_bounded s _ _) hexec
  case slicePeriodEnd inbound =>
    refine Bounded.of_next ?_ hexec
    exact endPeriods_bounded _ _ (h.congr rfl rfl rfl)
  case refusedKey | authorDigit | authorEnter | newLetter | resume | seekDigit | seekEnter | record | stop | play
      | goToStart | goToEnd | insertOverwriteToggle | instructionMark | priority | endOfLetter | discardPass | hold
      | windKeyRecognised | keyIgnoredInIdle =>
    refine Bounded.of_next ?_ hexec
    exact keyRow_bounded _ _ _ h
  case listenTimerExpiry =>
    refine Bounded.of_next ?_ hexec
    split
    · exact look_bounded (riseHigh_bounded _ (placeBeacon_bounded (becomeActive_bounded htaken)))
    · exact htaken
  case secondsSinceResetTick =>
    refine Bounded.of_next ?_ hexec
    exact htaken.onBus fun hb => ⟨hb.queue, hb.fault, hb.quiet⟩
  case numberClaimCompletes n =>
    refine Bounded.of_next ?_ hexec
    split
    · exact makeClaim_bounded (endClaim_bounded ((onNums_bounded _).mpr (assignNumber_bounded n htaken)))
    · exact htaken
  case numberClaim | claimObjection | takeTimerExpiry =>
    refine Bounded.of_next ?_ hexec
    split
    · dsimp only
      split <;> simp [htaken]
    · exact htaken
  case queryLineStates stn d =>
    refine Bounded.of_next ?_ hexec
    split
    · exact answer_bounded _ _ _ _ (htaken.congr rfl rfl rfl)
    · exact htaken
  case frameReception f =>
    refine Bounded.of_next ?_ hexec
    split
    · exact reportSome_bounded _ ((faultFalls_bounded ((count_bounded _).mpr htaken)).onBus fun hb =>
        hb.of_same hb.queue rfl rfl)
    · exact htaken
  case frameSuccess =>
    refine Bounded.of_next ?_ hexec
    split
    · exact reportSome_bounded _ (frameDone_bounded _ (faultFalls_bounded ((count_bounded _).mpr htaken)))
    · exact htaken
  case transmitArbiterChoose =>
    refine Bounded.of_next ?_ hexec
    split
    · exact choose_bounded _ htaken
    · exact htaken
  case currentFrameReattempt =>
    refine Bounded.of_next ?_ hexec
    split
    · split
      · exact reattempt_bounded _ htaken
      · exact htaken
    · exact htaken
  case frameAttemptFailed kinds =>
    refine Bounded.of_next ?_ hexec
    split
    · next c hc =>
      exact detachIfNew_bounded _ (countAttempt_bounded c ((noteError_bounded kinds 8 (sendingNow_numbered hc)
        htaken).onBus fun hb => hb.of_same hb.queue rfl rfl))
    · exact htaken
  case receiveError kinds =>
    refine Bounded.of_next ?_ hexec
    split
    · next hfollow =>
      exact detachIfNew_bounded _ ((noteError_bounded kinds 1 (canFollow_numbered hfollow) htaken).onBus fun hb =>
        hb.of_same hb.queue rfl rfl)
    · exact htaken
  case linkRecovery =>
    refine Bounded.of_next ?_ hexec
    split
    · exact recover_bounded htaken
    · exact htaken
  case stuckEvent =>
    refine Bounded.of_next ?_ hexec
    split
    · next hnum =>
      exact detachIfNew_bounded _ (((cancel_bounded _).mpr (raise_bounded (noteError_bounded [.stuck] 1 hnum htaken)
        _)).onBus fun hb => hb.of_same hb.queue rfl rfl)
    · exact htaken
  case busViewIdle =>
    refine Bounded.of_next ?_ hexec
    have hidle : Bounded (((s.taken .busViewIdle).cancel .holdOffExpiry).onBus Bus.idle) :=
      h.onBus fun hb => hb.of_same hb.queue rfl rfl
    repeat' split
    all_goals assumption
  all_goals
    refine Bounded.of_next ?_ hexec
    clear hexec
    repeat' split
    all_goals simp [htaken]

/-! ### Ticks -/

@[simp] theorem reportIf_bounded (c : Bool) (i : Instr) : Bounded (reportIf c i s) ↔ Bounded s := by
  unfold reportIf when
  split <;> rfl

@[simp] theorem reports_bounded {α : Type} (f : α → Instr) (xs : List α) :
    Bounded (xs.foldl (fun s x => s.report (f x)) s) ↔ Bounded s := by
  rw [reports_fold]
  rfl

theorem lineSync_bounded (l : LineNo) (x : Sample) (h : Bounded s) : Bounded (s.lineSync l x) := by
  rw [lineSync_only s l x]
  exact h.congr rfl rfl rfl

theorem frameSync_bounded (xs : Vector Sample 8) (h : Bounded s) : Bounded (s.frameSync xs) := by
  have hlines := foldl_bounded (fun s l hs => lineSync_bounded l xs[l] hs) allLines h
  simp only [frameSync]
  generalize allLines.foldl (fun s l => s.lineSync l xs[l]) s = u at hlines
  split <;> exact hlines.congr rfl rfl rfl

theorem lineMs_bounded (l : LineNo) (h : Bounded s) : Bounded (s.lineMs l) := by simp [lineMs, h]

theorem letterMs_bounded (i : LetterIx) (h : Bounded s) : Bounded (s.letterMs i) := by simp [letterMs, h]

theorem peersMs_bounded (h : Bounded s) : Bounded s.peersMs :=
  (reports_bounded _ _).mpr (h.congr rfl rfl rfl)

theorem numsMs_bounded (h : Bounded s) : Bounded s.numsMs := by simp [numsMs, h]

theorem xferMs_bounded (h : Bounded s) : Bounded s.xferMs := by
  have hdown : Bounded (s.onXfer fun x => { x with
      collections := x.collections.map fun c => { c with timer := c.timer - 1 }
      incoming := x.incoming.map fun c => { c with timer := c.timer - 1 }
      settling := x.settling.map fun e => { e with timer := e.timer - 1 }
      outgoing := x.outgoing.map fun o => { o with timer := down o.timer } }) := h
  simpa [xferMs] using hdown

theorem delivMs_bounded (h : Bounded s) : Bounded s.delivMs := by simp [delivMs, h]

theorem controlMs_bounded (h : Bounded s) : Bounded s.controlMs := by
  have hdown : Bounded (s.onBus fun b => { b with ctl := { b.ctl with listen := down b.ctl.listen } }) :=
    h.onBus fun hb => ⟨hb.queue, hb.fault, hb.quiet⟩
  simp only [controlMs]
  split <;> exact (reportIf_bounded _ _).mpr (hdown.congr rfl rfl rfl)

theorem millisecond_bounded (h : Bounded s) : Bounded s.millisecond :=
  delivMs_bounded (xferMs_bounded (numsMs_bounded (peersMs_bounded
    (foldl_bounded (fun _ i hs => letterMs_bounded i hs) allLetters
      (foldl_bounded (fun _ l hs => lineMs_bounded l hs) allLines (controlMs_bounded h))))))

theorem linePin_bounded (l : LineNo) (b : Bool) (h : Bounded s) : Bounded (s.linePin l b) := by
  rw [linePin_eq]
  exact h.congr rfl rfl rfl

theorem timebase_bounded (bs : Vector Bool 8) (h : Bounded s) : Bounded (s.timebase bs) := by
  have hwindow : Bounded s.paceLink.windowUnits := by
    rw [windowUnits_eq]
    exact Bounded.congr (h.onBus fun hb => hb.onLink rfl rfl : Bounded s.paceLink) rfl rfl rfl
  have hpins := foldl_bounded (fun s l hs => linePin_bounded l bs[l] hs) allLines hwindow
  simp only [timebase]
  generalize allLines.foldl (fun s l => s.linePin l bs[l]) s.paceLink.windowUnits = u at hpins
  split
  · exact millisecond_bounded (hpins.congr rfl rfl rfl)
  · exact hpins.congr rfl rfl rfl

/-! ### A bus bit -/

theorem follow_bounded (r : Scan) (h : Bounded s) : Bounded (s.follow r) :=
  h.onBus fun hb => hb.onLink rfl rfl

theorem stepRecovery_bounded (h : Bounded s) : Bounded s.stepRecovery := by
  unfold stepRecovery
  split
  · exact (reportIf_bounded _ _).mpr (h.onBus fun hb => hb.onLink rfl rfl)
  · exact h

theorem receiveBit_bounded (r : Scan) (b : Bool) (h : Bounded s) : Bounded (s.receiveBit r b) := by
  unfold receiveBit
  split <;> simp [follow_bounded, h]

theorem sendBit_bounded (r : Scan) (a b : Bool) (h : Bounded s) : Bounded (s.sendBit r a b) := by
  unfold sendBit
  split
  · exact receiveBit_bounded _ _ h
  · exact h
  · split <;> simp [follow_bounded, h]

theorem viewBit_bounded (a b : Bool) (n : Nat) (h : Bounded s) : Bounded (s.viewBit a b n) := by
  unfold viewBit
  split
  · split
    · exact (reportIf_bounded _ _).mpr (h.onBus fun hb => hb.onLink rfl rfl)
    · exact receiveBit_bounded _ _ (h.onBus fun hb => hb.onLink rfl rfl)
  · split
    · split
      · exact sendBit_bounded _ _ _ h
      · exact receiveBit_bounded _ _ h
    · exact h
  all_goals exact (reportIf_bounded _ _).mpr h

theorem busBit_bounded (a b : Bool) (h : Bounded s) : Bounded (s.busBit a b) := by
  simp only [busBit]
  split
  · have hruns := stepRecovery_bounded (h.onBus (f := Bus.onLink fun k =>
      stepRuns ((a && s.drives) != b) (stepBurst k)) fun hb => hb.onLink (by unfold stepBurst; split <;> rfl)
        (by unfold stepBurst; split <;> rfl))
    split
    · exact hruns
    · exact viewBit_bounded _ _ _ hruns
  · exact h

theorem resetLow_bounded (s : State) : Bounded s.resetLow := by
  obtain ⟨hb, hl⟩ := afresh_bounded s 0 0
  exact ⟨hb, hl⟩

theorem tick_bounded (k : Tick) (rest : List Tick) (h : Bounded s) : Bounded (s.tick k rest) := by
  have hrest : Bounded { s with ticks := rest } := h.congr rfl rfl rfl
  unfold tick
  split
  · exact hrest
  · cases k with
    | frameSync xs => exact frameSync_bounded (s := { s with ticks := rest }) xs hrest
    | timebase bs => exact timebase_bounded (s := { s with ticks := rest }) bs hrest
    | busBit a b =>
      simp only [clockTick]
      split
      · exact h
      · exact busBit_bounded (s := { s with ticks := rest }) a b hrest
    | resetLow => exact resetLow_bounded _

/-- Settles O59: commands and ticks keep the queue, the fault count and the lists in their bounds; an UNNUMBERED
station follows and sends no frame, so its fault count stays 0. -/
theorem boundsKept : Obligations.BoundsKept := by
  unfold Obligations.BoundsKept
  intro s t hqueue hfault hlists hquiet hstep
  have h := (bounded_iff s).mpr ⟨hqueue, hfault, hlists, hquiet⟩
  refine (bounded_iff t).mp ?_
  obtain ⟨c, rest, -, hexec⟩ | ⟨r, rest, -, -, hexec⟩ | ⟨k, rest, -, -, -, rfl⟩ | ⟨-, -, -, rfl⟩ := step_cases hstep
  · exact exec_bounded (s := { s with pending := rest }) (h.congr rfl rfl rfl) hexec
  · exact exec_bounded h hexec
  · exact tick_bounded k rest h
  · exact h

end Sys2Proof.Machine.State
end

section
/-! What events and placed frames can change of the bus side. -/

namespace Sys2Proof.Machine.Bus

/-- Only the event sequence, the counters, the Control Queue and the offered stream frames may differ. -/
def OnlyQueued (b c : Bus) : Prop := c =
  { ctl := { b.ctl with eventSeq := c.ctl.eventSeq }
    counters := c.counters
    link := { b.link with
      control := c.link.control, offTransfer := c.link.offTransfer, offDelivery := c.link.offDelivery } }

namespace OnlyQueued

variable {b c d : Bus}

theorem refl (b : Bus) : OnlyQueued b b := rfl

theorem trans (h : OnlyQueued b c) (k : OnlyQueued c d) : OnlyQueued b d := by
  unfold OnlyQueued at *
  rw [k, h]

theorem count (f : Counters → Counters) (b : Bus) : OnlyQueued b (b.count f) := rfl

theorem push (q : QFrame) (b : Bus) : OnlyQueued b (b.push q) := rfl

theorem raise (b : Bus) (e : Event) : OnlyQueued b (b.raise e) := by
  unfold Bus.raise
  dsimp only
  split
  · rfl
  · split <;> rfl

theorem abandon (q : QFrame) (b : Bus) : OnlyQueued b (b.abandon q) := (count _ b).trans (raise _ _)

theorem place (q : QFrame) (b : Bus) : OnlyQueued b (b.place q) := by
  unfold Bus.place
  split
  · rfl
  · split
    · rfl
    · exact abandon q b

/-! What such work leaves. -/

theorem state (h : OnlyQueued b c) : c.ctl.state = b.ctl.state := by rw [h]

theorem ctl (h : OnlyQueued b c) : c.ctl = { b.ctl with eventSeq := c.ctl.eventSeq } := by rw [h]

theorem link (h : OnlyQueued b c) : c.link = { b.link with
    control := c.link.control, offTransfer := c.link.offTransfer, offDelivery := c.link.offDelivery } := by rw [h]

end OnlyQueued

end Sys2Proof.Machine.Bus

namespace Sys2Proof.Machine.State

/-- Of the bus side, only what events and placed frames change may differ. -/
abbrev OnlyQueued (s t : State) : Prop := Bus.OnlyQueued s.bus t.bus

theorem offerDelivery_queued (s : State) : OnlyQueued s s.offerDelivery := by
  unfold offerDelivery
  split
  · split <;> rfl
  · rfl

theorem resumeSuspended_queued (s : State) : OnlyQueued s s.resumeSuspended := by
  unfold resumeSuspended
  split
  · exact offerDelivery_queued _
  · rfl

theorem clearActive_queued (s : State) : OnlyQueued s s.clearActive := rfl

theorem offerFailed_queued (s : State) : OnlyQueued s s.offerFailed := by
  unfold offerFailed
  split
  · exact Bus.OnlyQueued.trans (c := s.clearActive.bus) rfl (resumeSuspended_queued _)
  · rfl

theorem offerLetter_queued (s : State) (i : LetterIx) (st : Station) : OnlyQueued s (s.offerLetter i st) := by
  unfold offerLetter
  split
  · rfl
  · dsimp only
    split
    · exact Bus.OnlyQueued.place _ s.bus
    · exact (Bus.OnlyQueued.place _ s.bus).trans (offerFailed_queued _)

theorem suspendNow_queued (s : State) : OnlyQueued s s.suspendNow := by
  unfold suspendNow
  split <;> rfl

theorem afterSuspend_queued (s : State) : OnlyQueued s s.afterSuspend := by
  unfold afterSuspend
  split
  · split
    · exact offerLetter_queued _ _ _
    · exact resumeSuspended_queued _
  · exact resumeSuspended_queued _

theorem look_queued (s : State) : OnlyQueued s s.look := by
  unfold look
  split
  · rfl
  · split
    · split
      · exact offerLetter_queued _ _ _
      · exact resumeSuspended_queued _
    · split
      · dsimp only
        split
        · split
          · rfl
          · exact (suspendNow_queued (State.withdrawDelivery (s.onActive fun a =>
              { a with suspendPending := true }))).trans (afterSuspend_queued _)
        · rfl
      · rfl

theorem afterEnd_queued (s : State) : OnlyQueued s s.afterEnd := by
  unfold afterEnd when
  split
  · exact (resumeSuspended_queued s).trans (look_queued _)
  · exact look_queued s

/-! ### What the delivery engine's work leaves -/

namespace OnlyDeliv

variable {s t : State}

theorem sameLines (h : OnlyDeliv s t) : SameLines s t := by
  rw [h]
  exact ⟨rfl, rfl, rfl, rfl⟩

theorem seg (h : OnlyDeliv s t) : t.seg = s.seg := by rw [h]
theorem peers (h : OnlyDeliv s t) : t.peers = s.peers := by rw [h]
theorem nums (h : OnlyDeliv s t) : t.nums = s.nums := by rw [h]
theorem xfer (h : OnlyDeliv s t) : t.xfer = s.xfer := by rw [h]
theorem pending (h : OnlyDeliv s t) : t.pending = s.pending := by rw [h]

end OnlyDeliv

end Sys2Proof.Machine.State
end

section
/-! Steps, station reset and the end of LISTEN (R190 to R192). -/

namespace Sys2Proof.Machine.State

/-! ### Steps (logs 1, 2) -/

theorem step_front {s : State} {c : Instr} {rest : List Instr} (h : s.pending = c :: rest) :
    step s = exec c { s with pending := rest } := by simp only [step, h]

theorem step_report {s : State} {r : Instr} {rest : List Instr} (hp : s.pending = []) (hr : s.reports = r :: rest) :
    step s = exec r s := by simp only [step, hp, hr]

theorem step_tick {s : State} {t : Tick} {rest : List Tick} (hp : s.pending = []) (hr : s.reports = [])
    (ht : s.ticks = t :: rest) : step s = .next (s.tick t rest) := by simp only [step, hp, hr, ht]

theorem step_idle {s : State} (hp : s.pending = []) (hr : s.reports = []) (ht : s.ticks = []) :
    step s = .next s := by simp only [step, hp, hr, ht]

/-- Every command answers a next state. -/
theorem exec_next (c : Instr) (s : State) : ∃ t, exec c s = .next t := by
  cases c <;> exact ⟨_, rfl⟩

/-- Settles O1: a step with a command in front is that command on the queue's rest. -/
theorem stepRunsFrontCommand : Obligations.StepRunsFrontCommand := by
  unfold Obligations.StepRunsFrontCommand
  intro c rest s h
  exact step_front h

/-- Settles O2: by the front of the queue, the oldest report and the first tick. -/
theorem stepAnswersNext : Obligations.StepAnswersNext := by
  unfold Obligations.StepAnswersNext
  intro s
  refine ⟨?answers, fun hp => ⟨fun r rest hr => step_report hp hr, fun t rest hr ht => step_tick hp hr ht,
    fun hr ht => step_idle hp hr ht⟩⟩
  case answers =>
    rcases hp : s.pending with _ | ⟨c, rest⟩
    case cons =>
      rw [step_front hp]
      exact exec_next c _
    case nil =>
      rcases hr : s.reports with _ | ⟨r, rest⟩
      case cons =>
        rw [step_report hp hr]
        exact exec_next r s
      case nil =>
        rcases ht : s.ticks with _ | ⟨t, rest⟩
        case cons => exact ⟨_, step_tick hp hr ht⟩
        case nil => exact ⟨_, step_idle hp hr ht⟩

/-! ### Station reset (R190, R191) -/

theorem strapsGood_iff (stn rate : Nat) : strapsGood stn rate = true ↔ stn ≠ 0 ∧ stn ≠ 63 ∧ rate ≠ 3 := by
  simp [strapsGood, and_assoc]

theorem ctlReset_good {stn rate : Nat} (h : strapsGood stn rate = true) :
    (StationCtl.reset stn rate).number = some stn ∧ (StationCtl.reset stn rate).state = .listen ∧
      (StationCtl.reset stn rate).listen = some 2000 := ⟨if_pos h, if_pos h, if_pos h⟩

theorem ctlReset_bad {stn rate : Nat} (h : ¬ strapsGood stn rate = true) :
    (StationCtl.reset stn rate).number = none ∧ (StationCtl.reset stn rate).state = .unnumbered ∧
      (StationCtl.reset stn rate).listen = none := ⟨if_neg h, if_neg h, if_neg h⟩

theorem ofStrap_eq (rate : Fin 4) : BitRate.ofStrap rate.val =
    if rate.val = 0 then some .mbit2_5 else if rate.val = 1 then some .mbit5
      else if rate.val = 2 then some .mbit10 else none := by
  revert rate
  decide

theorem afresh_ports (s : State) (stn rate : Nat) (l : LineNo) : (s.afresh stn rate).ports[l] =
    { Port.reset with active := s.ports[l].active, activeRun := s.ports[l].activeRun } :=
  Vector.getElem_map _ l.isLt

/-- Settles O3: the straps decide number, rate and station state; the rest is the reset state, around what waits
outside. -/
theorem resetByStraps : Obligations.ResetByStraps := by
  unfold Obligations.ResetByStraps
  intro stn rate s
  refine ⟨s.afresh stn.val rate.val, rfl, ?unnumbered, ?numbered, ofStrap_eq rate, rfl, rfl, rfl, rfl, rfl, rfl, rfl,
    ?lines, ?letters, rfl, rfl, rfl, rfl, rfl, rfl, rfl, rfl, rfl, rfl, rfl, ?ports⟩
  case unnumbered =>
    intro h
    refine ctlReset_bad fun hgood => ?_
    obtain ⟨hzero, hall, hrate⟩ := (strapsGood_iff _ _).mp hgood
    exact h.elim hzero fun h => h.elim hall hrate
  case numbered => exact fun hzero hall hrate => ctlReset_good ((strapsGood_iff _ _).mpr ⟨hzero, hall, hrate⟩)
  case lines =>
    intro l
    exact ⟨Vector.getElem_replicate l.isLt, Vector.getElem_replicate l.isLt, Vector.getElem_replicate l.isLt⟩
  case letters => exact fun i => Vector.getElem_replicate i.isLt
  case ports =>
    intro l
    rw [afresh_ports]
    exact ⟨rfl, rfl⟩

theorem reset_allRecords : State.reset.allRecords = [] := by
  simp [allRecords, State.reset, State.resetWith]

/-- Settles O4: after reset the memory, the table, the queue and the lists are empty, and every line has its full
credit. -/
theorem resetKeepsInvariants : Obligations.ResetKeepsInvariants := by
  unfold Obligations.ResetKeepsInvariants
  refine ⟨rfl, Nat.zero_le _, Nat.zero_le _, ⟨Nat.zero_le _, Nat.zero_le _⟩, fun _ => rfl, ⟨.nil, nofun⟩, ⟨nofun, ?_⟩,
    ?pool, ?credits⟩
  · rw [reset_allRecords]
    exact nofun
  case pool =>
    rw [PoolRight, reset_allRecords]
    rfl
  case credits =>
    refine ⟨by decide, fun l => ?_⟩
    rw [show State.reset.seg.credits[l] = Config.lineCredit from Vector.getElem_replicate l.isLt]

/-! ### The end of LISTEN (R192, R142, R134) -/

/-- Line `l` and its Tone Unit stand in `t` as in `s`. -/
def SameLine (l : LineNo) (s t : State) : Prop := t.lines[l] = s.lines[l] ∧ t.tones[l] = s.tones[l]

theorem riseLine_only (s : State) (l : LineNo) : OnlyLine l s (s.riseLine l) := by
  unfold riseLine
  split
  · exact ((OnlyLine.refl s).onLine _).prompt _
  · exact .refl s

/-- The line is taken as risen: it is IDLE, enabled, and its input is high. -/
def rises (s : State) (l : LineNo) : Prop :=
  s.ports[l].active = true ∧ s.bus.ctl.settings.enables l = true ∧ s.LineIn l .idle

/-- Only lines, Tone Units, ports and the steps owed may differ. -/
def OnlyLines (s t : State) : Prop :=
  t = { s with lines := t.lines, tones := t.tones, ports := t.ports, reports := t.reports }

theorem OnlyLines.trans {s t u : State} (h : OnlyLines s t) (k : OnlyLines t u) : OnlyLines s u := by
  unfold OnlyLines at *
  rw [k, h]

namespace OnlyLines

variable {s t : State}

theorem bus (h : OnlyLines s t) : t.bus = s.bus := by rw [h]
theorem seg (h : OnlyLines s t) : t.seg = s.seg := by rw [h]
theorem peers (h : OnlyLines s t) : t.peers = s.peers := by rw [h]
theorem nums (h : OnlyLines s t) : t.nums = s.nums := by rw [h]
theorem pending (h : OnlyLines s t) : t.pending = s.pending := by rw [h]

end OnlyLines

theorem riseHigh_only (ls : List LineNo) (s : State) : OnlyLines s (riseHigh ls s) := by
  induction ls generalizing s with
  | nil => rfl
  | cons l ls ih =>
    refine OnlyLines.trans ?_ (ih _)
    unfold when
    split
    · exact (riseLine_only s l).rest
    · rfl

theorem riseHigh_of_notMem {ls : List LineNo} {l : LineNo} (h : l ∉ ls) (s : State) :
    SameLine l s (riseHigh ls s) := by
  induction ls generalizing s with
  | nil => exact ⟨rfl, rfl⟩
  | cons m ls ih =>
    obtain ⟨hm, hls⟩ := List.ne_and_not_mem_of_not_mem_cons h
    have hfirst : SameLine l s (when s.ports[m].active (·.riseLine m) s) := by
      unfold when
      split
      · obtain ⟨hline, htone, -⟩ := (riseLine_only s m).others l hm
        exact ⟨hline, htone⟩
      · exact ⟨rfl, rfl⟩
    obtain ⟨hline, htone⟩ := ih hls (when s.ports[m].active (·.riseLine m) s)
    exact ⟨hline.trans hfirst.1, htone.trans hfirst.2⟩

theorem riseLine_of_not {s : State} {l : LineNo} (h : ¬ (s.bus.ctl.settings.enables l = true ∧ s.LineIn l .idle)) :
    s.riseLine l = s := if_neg fun ⟨_, hen, hidle⟩ => h ⟨hen, hidle⟩

/-- A line among those looked at is taken as risen where it can rise. -/
theorem riseHigh_of_mem {ls : List LineNo} (hnodup : ls.Nodup) {l : LineNo} (hmem : l ∈ ls) {s : State} (hact : s.Active) :
    (s.rises l → (riseHigh ls s).LineIn l .author ∧ (riseHigh ls s).Sounds l .ready) ∧
      (¬ s.rises l → SameLine l s (riseHigh ls s)) := by
  induction ls generalizing s with
  | nil => cases hmem
  | cons m ls ih =>
    obtain ⟨hm, hls⟩ := List.nodup_cons.mp hnodup
    by_cases hlm : l = m
    case pos =>
      subst hlm
      obtain ⟨hline, htone⟩ := riseHigh_of_notMem hm (when s.ports[l].active (·.riseLine l) s)
      refine ⟨fun ⟨hhigh, hen, hidle⟩ => ?_, fun hnot => ?_⟩
      · have hstep : when s.ports[l].active (·.riseLine l) s =
            (s.onLine l fun c => { c with state := .author, entry := [] }).prompt l .ready := by
          rw [when, if_pos hhigh]
          exact riseLine_of_idle hact hen hidle
        rw [hstep] at hline htone
        refine ⟨?_, ?_⟩
        · rw [LineIn, riseHigh, hstep, hline]
          simp
        · rw [Sounds, riseHigh, hstep, htone]
          simp
      · have hstep : when s.ports[l].active (·.riseLine l) s = s := by
          unfold when
          split
          case isTrue hhigh => exact riseLine_of_not fun ⟨hen, hidle⟩ => hnot ⟨hhigh, hen, hidle⟩
          case isFalse => rfl
        rw [hstep] at hline htone
        rw [SameLine, riseHigh, hstep]
        exact ⟨hline, htone⟩
    case neg =>
      have hfirst : OnlyLine m s (when s.ports[m].active (·.riseLine m) s) := by
        unfold when
        split
        · exact riseLine_only s m
        · exact .refl s
      have hbus : (when s.ports[m].active (·.riseLine m) s).bus = s.bus := hfirst.sameUnits.1
      obtain ⟨hline, htone, hport⟩ := hfirst.others l hlm
      have hrest := ih hls ((List.mem_cons.mp hmem).resolve_left hlm) (s := when s.ports[m].active (·.riseLine m) s)
        (by rw [Active, hbus]; exact hact)
      simp only [rises, SameLine, LineIn, hline, htone, hport, hbus] at hrest
      exact hrest

theorem mem_allLines (l : LineNo) : l ∈ allLines := by
  revert l
  decide

theorem allLines_nodup : allLines.Nodup := by decide

/-- Settles O5: the station is ACTIVE with its Beacon placed; the high lines rise, and what the engine then looks
for touches neither. -/
theorem listenEnds : Obligations.ListenEnds := by
  unfold Obligations.ListenEnds
  intro s hlisten
  have hmem := fun l => riseHigh_of_mem allLines_nodup (mem_allLines l)
    (s := (s.taken .listenTimerExpiry).becomeActive.placeBeacon) rfl
  have hrise := riseHigh_only allLines (s.taken .listenTimerExpiry).becomeActive.placeBeacon
  have hexec : exec .listenTimerExpiry s =
      .next (riseHigh allLines (s.taken .listenTimerExpiry).becomeActive.placeBeacon).look :=
    congrArg Host.Outcome.next (if_pos hlisten)
  generalize riseHigh allLines (s.taken .listenTimerExpiry).becomeActive.placeBeacon = v at hmem hrise hexec
  have honly := look_only v
  have hqueued := look_queued v
  obtain ⟨hlines, -, htones, -⟩ := honly.sameLines
  refine ⟨_, hexec, ?active, ?listen, ?nums, ?beacon, ?risen, ?still, ?bytes, ?peers, ?pending⟩
  case active => rw [Active, hqueued.state, hrise.bus]; rfl
  case listen => rw [hqueued.ctl, hrise.bus]; rfl
  case nums => rw [honly.nums, hrise.nums]; rfl
  case beacon =>
    refine ⟨(s.taken .listenTimerExpiry).becomeActive.beaconBody, ?_, rfl, rfl, rfl, rfl, rfl⟩
    rw [hqueued.link, hrise.bus]
    rfl
  case risen =>
    intro l hhigh hen hidle
    rw [LineIn, Sounds, hlines, htones]
    exact (hmem l).1 ⟨hhigh, hen, hidle⟩
  case still =>
    intro l hnot
    rw [hlines, htones]
    refine (hmem l).2 fun ⟨hhigh, hen, hidle⟩ => ?_
    obtain hlow | hdis | hbusy := hnot
    · exact absurd (hhigh.symm.trans hlow) (by decide)
    · exact absurd (hen.symm.trans hdis) (by decide)
    · exact hbusy hidle
  case bytes => intro a; rw [honly.seg, hrise.seg]; rfl
  case peers => rw [honly.peers, hrise.peers]; rfl
  case pending => rw [honly.pending, hrise.pending]; rfl

end Sys2Proof.Machine.State
end

section
/-! Settings frames and Queries (R193 to R197, R201). -/

namespace Sys2Proof.Machine.State

/-! ### A frame placed where there is room (R129) -/

theorem onBus_place_of_room {s : State} (h : s.HasRoom) (q : QFrame) :
    (s.onBus (Bus.place q)).bus = s.bus.push q := Bus.place_room s.bus q h

theorem place_bus_of_room {s : State} (h : s.HasRoom) (d : Station) (m : Msg) :
    (s.place d m).bus = s.bus.push ⟨d, m, 0⟩ := onBus_place_of_room h _

theorem placed_of_room {s : State} (h : s.HasRoom) (d : Station) (m : Msg) : Placed d m s (s.place d m) :=
  place_bus_of_room h d m

theorem sameWork_refl (s : State) : SameWork s s := ⟨⟨rfl, rfl, rfl, rfl⟩, rfl, rfl, rfl, rfl⟩

/-! ### A Settings frame (R193 to R195) -/

/-- Only lines, Coders, Tone Units, ports and the steps owed may differ. -/
def OnlyBenches (s t : State) : Prop :=
  t = { s with lines := t.lines, coders := t.coders, tones := t.tones, ports := t.ports, reports := t.reports }

namespace OnlyBenches

variable {s t u : State}

theorem trans (h : OnlyBenches s t) (k : OnlyBenches t u) : OnlyBenches s u := by
  unfold OnlyBenches at *
  rw [k, h]

theorem sameUnits (h : OnlyBenches s t) : SameUnits s t := by
  rw [h]
  exact ⟨rfl, rfl, rfl, rfl, rfl, rfl⟩

theorem letters (h : OnlyBenches s t) : t.letters = s.letters := by rw [h]

end OnlyBenches

/-- What clearing a line does once its pass has ended and its letter is held (R89). -/
def wipeLine (s : State) (l : LineNo) : State :=
  (((s.onLine l fun _ => .reset).onCoder l fun c => { c with coding := .zero }).onTone l fun t =>
    { t with prompt := none }).cutOff l

theorem clearLine_of_not_recording {s : State} {l : LineNo} (h : ¬ s.LineIn l .recording) :
    s.clearLine l = (s.holdAttached l).wipeLine l := by
  rw [clearLine, if_neg h]
  rfl

theorem holdAttached_of_none {s : State} {l : LineNo} (h : s.lines[l].attached = none) : s.holdAttached l = s := by
  rw [holdAttached, h]

/-- Every line is IDLE with no letter. -/
def AllIdle (s : State) : Prop := ∀ l : LineNo, s.LineIn l .idle ∧ s.lines[l].attached = none

@[simp] theorem wipeLine_lines (s : State) (l : LineNo) : (s.wipeLine l).lines = s.lines.set l .reset := rfl

theorem wipeLine_only (s : State) (l : LineNo) : OnlyBenches s (s.wipeLine l) := rfl

theorem AllIdle.wipeLine {s : State} (h : AllIdle s) (l : LineNo) : AllIdle (s.wipeLine l) := by
  intro m
  by_cases hm : m = l
  · subst hm
    simp [LineIn, Line.reset]
  · have hline : (s.wipeLine l).lines[m] = s.lines[m] := by simp [Fin.val_inj, Ne.symm hm]
    rw [LineIn, hline]
    exact h m

theorem AllIdle.clearLine {s : State} (h : AllIdle s) (l : LineNo) : s.clearLine l = s.wipeLine l := by
  obtain ⟨hidle, hnone⟩ := h l
  rw [clearLine_of_not_recording (by rw [LineIn, hidle]; decide), holdAttached_of_none hnone]

/-- Clearing IDLE lines touches no letter. -/
theorem clearDisabled_of_allIdle (ls : List LineNo) {s : State} (h : AllIdle s) : OnlyBenches s (clearDisabled ls s) := by
  induction ls generalizing s with
  | nil => rfl
  | cons l ls ih =>
    rw [clearDisabled]
    unfold when
    split
    · dsimp only
      rw [h.clearLine l]
      exact (wipeLine_only s l).trans (ih (h.wipeLine l))
    · exact ih h

theorem tier_ofBody (b : SettingsBody) :
    (Settings.ofBody b).tier = if b.tier = 1 then .b else if b.tier = 2 then .c else .a := by
  simp only [Settings.ofBody]
  rcases b.tier with _ | _ | _ | n <;> simp [Tier.ofCode]

theorem settings_of_number {s : State} {sender dest : Station} {b : SettingsBody}
    (h : s.bus.ctl.number = some dest) : exec (.settings sender dest b) s = .next
      (match s.bus.ctl.state with
      | .listen => if s.bus.ctl.accepted then (s.taken (.settings sender dest b)).place sender
          (.settingsRefused .alreadySet) else (s.taken (.settings sender dest b)).acceptSettings b
      | .active => (s.taken (.settings sender dest b)).place sender (.settingsRefused .active)
      | .unnumbered => s.taken (.settings sender dest b)) := by
  refine congrArg Host.Outcome.next ((if_pos h).trans ?_)
  rfl

/-- Settles O8: by the station's state. -/
theorem settingsFrames : Obligations.SettingsFrames := by
  unfold Obligations.SettingsFrames
  refine ⟨?accepted, fun s sender dest b => ⟨?again, ?active, ?other, fun kind => rfl, fun body => rfl⟩⟩
  case accepted =>
    intro s sender dest b hlisten hfirst hnumber hidle
    have hexec : exec (.settings sender dest b) s =
        .next ((s.taken (.settings sender dest b)).acceptSettings b) := by
      rw [settings_of_number hnumber, hlisten, hfirst]
      rfl
    have honly := clearDisabled_of_allIdle allLines (s := (s.taken (.settings sender dest b)).onBus fun c =>
      { c with ctl := { c.ctl with settings := .ofBody b, accepted := true } }) hidle
    have hletters := honly.letters
    obtain ⟨hbus, hseg, hpeers, hnums, hxfer, hdeliv⟩ := honly.sameUnits
    refine ⟨_, hexec, ?_⟩
    simp only [acceptSettings, hbus, hseg, hpeers, hnums, hxfer, hdeliv, hletters, onBus_bus, tier_ofBody]
    simp only [Settings.ofBody, inRange]
    simp
  case again =>
    intro hnumber hroom hlisten hsecond
    refine ⟨(s.taken (.settings sender dest b)).place sender (.settingsRefused .alreadySet), ?_,
      placed_of_room hroom _ _, sameWork_refl s, rfl, rfl⟩
    rw [settings_of_number hnumber, hlisten, hsecond]
    rfl
  case active =>
    intro hnumber hroom hactive
    refine ⟨(s.taken (.settings sender dest b)).place sender (.settingsRefused .active), ?_,
      placed_of_room hroom _ _, sameWork_refl s, rfl, rfl⟩
    rw [settings_of_number hnumber, hactive]
  case other => exact fun hnumber => congrArg Host.Outcome.next (if_neg hnumber)

end Sys2Proof.Machine.State
end

section
/-! The bytes of the Query Answers (R196, R197, R201). -/

namespace Sys2Proof

open Machine

/-- A word's four bytes, the highest first. -/
theorem be32_toNat (v : Word32) : be32 v.toNat =
    [v.extractLsb' 24 8, v.extractLsb' 16 8, v.extractLsb' 8 8, v.extractLsb' 0 8] := by
  simp [be32, BitVec.extractLsb', Nat.shiftRight_eq_div_pow]

theorem be24_eq (n : Nat) : be24 n =
    BitVec.ofNat 8 (n / 65536) :: [BitVec.ofNat 8 (n / 256), BitVec.ofNat 8 n] := rfl

theorem flatMap_be8 (ns : List Nat) : ns.flatMap be8 = ns.map (BitVec.ofNat 8) := by
  induction ns with
  | nil => rfl
  | cons n ns ih => rw [List.flatMap_cons, ih]; rfl

theorem errorsByte_eq (ks : List ErrKind) : errorsByte ks = (ks.map fun k => match k with
    | .insertion => 1
    | .form => 2
    | .check => 4
    | .acknowledge => 8
    | .bit => 16
    | .stuck => 32).sum := by
  unfold errorsByte
  congr 2
  funext k
  cases k <;> rfl

end Sys2Proof

namespace Sys2Proof.Machine.State

variable {s : State}

theorem countIn_singleton (s : State) (x : LetterState) :
    s.countIn [x] = s.letters.toList.countP fun y => y.any fun z => z.state == x := by
  refine List.countP_congr fun y _ => ?_
  cases y <;> simp

theorem freeCount_eq (s : State) : s.letters.toList.countP (·.isNone) = s.letters.toList.countP fun y => y == none :=
  List.countP_congr fun y _ => by cases y <;> simp

theorem tierByte_eq (t : Tier) : be8 t.code = [match t with
    | .a => 0#8
    | .b => 1#8
    | .c => 2#8] := by
  cases t <;> rfl

theorem lineStateByte_eq (x : LineState) : be8 x.code = [match x with
    | .idle => 0#8
    | .author => 1#8
    | .select => 2#8
    | .seek => 3#8
    | .locate => 4#8
    | .fetch => 5#8
    | .ready => 6#8
    | .recording => 7#8
    | .playing => 8#8
    | .winding => 9#8] := by
  cases x <;> rfl

theorem lineFlags_eq (a b c : Bool) : flagBit a 7 + flagBit b 6 + flagBit c 5 =
    (if a = true then 128 else 0) + (if b = true then 64 else 0) + (if c = true then 32 else 0) := rfl

theorem getD_eq_match {α : Type} (x : Option α) (d : α) : x.getD d = match x with
    | some a => a
    | none => d := by
  cases x <;> rfl

theorem getD_map_eq_match {α β : Type} (f : α → β) (x : Option α) (d : β) : (x.map f).getD d = match x with
    | some a => f a
    | none => d := by
  cases x <;> rfl

/-- The letter a line has attached, without its entry. -/
theorem lineLetter_map_snd (s : State) (l : LineNo) :
    (s.lineLetter l).map (·.2) = s.lines[l].attached.bind fun i => s.letters[i] := by
  unfold lineLetter
  cases s.lines[l].attached with
  | none => rfl
  | some i => cases s.letters[i] <;> simp

theorem errModeByte_eq (m : ErrMode) : be8 m.code = [if m = .allErrors then 1#8 else 0#8] := by
  cases m <;> rfl

/-- A Query that is taken is answered. -/
theorem takesQuery_iff (s : State) (dest : Station) :
    s.takesQuery dest = true ↔ s.Active ∧ (s.bus.ctl.number = some dest ∨ dest = 63) := by
  simp [takesQuery, isActive, addressed, Config.allStations]

/-- Settles O9: each kind's content, byte by byte. -/
theorem queriesAnswered : Obligations.QueriesAnswered := by
  unfold Obligations.QueriesAnswered
  intro s sender dest hactive hroom hdest
  have htakes : s.takesQuery dest = true := (takesQuery_iff s dest).mpr ⟨hactive, hdest⟩
  have hanswer : ∀ (c : Instr) (k u : Nat) (bytes : List Byte),
      Placed sender (.queryAnswer k u bytes) s ((s.taken c).answer sender k u bytes) :=
    fun c k u bytes => placed_of_room hroom _ _
  dsimp only
  refine ⟨?counters, ?errors, ?summary, ?lines, ?unknown, ?clears, ?refuses⟩
  case counters =>
    refine ⟨_, congrArg Host.Outcome.next (if_pos htakes), ?_, sameWork_refl s⟩
    convert hanswer _ 0 0 _ using 2
    simp [counterBytes, be32_toNat]
  case errors =>
    have hroom' : ((s.taken (.queryErrorRecord sender dest)).onBus
        (Bus.onLink fun k => { k with errors := [] })).HasRoom := hroom
    refine ⟨_, congrArg Host.Outcome.next (if_pos htakes), sameWork_refl s, (place_bus_of_room hroom' _ _).trans ?_⟩
    rw [errorsByte_eq, errModeByte_eq]
    rfl
  case summary =>
    refine ⟨_, congrArg Host.Outcome.next (if_pos htakes), ?_, sameWork_refl s⟩
    convert hanswer _ 2 0 _ using 2
    simp only [summaryBytes, freeCount_eq, tierByte_eq, flatMap_be8]
    simp only [summaryStates, List.flatMap_cons, List.flatMap_nil, countIn_singleton]
    rfl
  case lines =>
    have hplaced : Placed sender (.queryAnswer 3 0 (allLines.flatMap s.lineBytes)) s
        (State.answer { s.taken (.queryLineStates sender dest) with freeIdx := s.freeIdx + 1 } sender 3 0
          (allLines.flatMap s.lineBytes)) := placed_of_room hroom _ _
    refine ⟨_, congrArg Host.Outcome.next (if_pos htakes), ?_, sameWork_refl s⟩
    convert hplaced using 2
    · refine congrArg (allLines.flatMap ·) (funext fun l => ?_)
      rw [lineBytes, lineStateByte_eq, getD_eq_match, getD_map_eq_match, getD_map_eq_match, lineLetter_map_snd,
        lineFlags_eq]
      generalize s.lines[l].author = author
      generalize (s.lines[l].attached.bind fun i => s.letters[i]) = letter
      cases author <;> cases letter <;> rfl
    · rfl
    · rfl
  case unknown =>
    intro kind
    exact ⟨_, congrArg Host.Outcome.next (if_pos htakes), hanswer _ kind 3 [], sameWork_refl s⟩
  case clears =>
    intro hclear
    have hroom' : ((s.taken (.queryClearCounters sender dest)).count fun _ => .zero).HasRoom := hroom
    have hplaced := placed_of_room hroom' sender (.queryAnswer 4 1 [])
    refine ⟨_, congrArg Host.Outcome.next ((if_pos htakes).trans (if_pos hclear)), ?_⟩
    rw [answer, hplaced]
    exact ⟨rfl, rfl, rfl, sameWork_refl s⟩
  case refuses =>
    intro hclear
    refine ⟨_, congrArg Host.Outcome.next ((if_pos htakes).trans (if_neg ?_)), hanswer _ 4 2 [], sameWork_refl s⟩
    exact fun hmay => absurd (hmay.symm.trans hclear) (by decide)

end Sys2Proof.Machine.State
end

section
/-! Events raised one after another, and what the block operations and a pass can change. -/

namespace Sys2Proof.Machine.Bus

/-- The bus side after at most `n` events more. -/
def Raises (n : Nat) (b c : Bus) : Prop := ∃ es : List Event, es.length ≤ n ∧ c = es.foldl (fun b e => b.raise e) b

namespace Raises

variable {n m : Nat} {b c d : Bus}

theorem refl (b : Bus) : Raises 0 b b := ⟨[], Nat.le_refl _, rfl⟩

theorem raise (b : Bus) (e : Event) : Raises 1 b (b.raise e) := ⟨[e], Nat.le_refl _, rfl⟩

theorem mono (h : Raises n b c) (hle : n ≤ m) : Raises m b c := by
  obtain ⟨es, hlen, heq⟩ := h
  exact ⟨es, hlen.trans hle, heq⟩

theorem trans (h : Raises n b c) (k : Raises m c d) : Raises (n + m) b d := by
  obtain ⟨es, hlen, rfl⟩ := h
  obtain ⟨fs, klen, rfl⟩ := k
  exact ⟨es ++ fs, by rw [List.length_append]; omega, by rw [List.foldl_append]⟩

end Raises

/-- An event changes the event sequence, the count of lost events and the Control Queue alone. -/
theorem raise_parts (b : Bus) (e : Event) : b.raise e =
    { ctl := { b.ctl with eventSeq := (b.raise e).ctl.eventSeq }
      counters := { b.counters with eventsLost := (b.raise e).counters.eventsLost }
      link := { b.link with control := (b.raise e).link.control } } := by
  unfold Bus.raise
  dsimp only
  split
  · rfl
  · split <;> rfl

/-- An event adds an Event frame to the Control Queue, or nothing. -/
theorem raise_control (b : Bus) (e : Event) : ∃ qs : List QFrame, qs.length ≤ 1 ∧
    (∀ q ∈ qs, q.msg.isEvent = true) ∧ (b.raise e).link.control = b.link.control ++ qs := by
  unfold Bus.raise
  dsimp only
  split
  · exact ⟨[], by simp, by simp, (List.append_nil _).symm⟩
  · split
    · exact ⟨[_], by simp, by simp [Msg.isEvent], rfl⟩
    · exact ⟨[], by simp, by simp, (List.append_nil _).symm⟩

/-- With room in the queue and a destination, the event stands in the queue (R198). -/
theorem raise_told {b : Bus} {d : Station} (hroom : b.link.control.length < Config.controlFrames)
    (hdest : b.ctl.eventDest = some d) (e : Event) :
    (⟨d, .event e.code (b.ctl.eventSeq + 1) b.ctl.seconds e.details, 0⟩ : QFrame) ∈ (b.raise e).link.control := by
  unfold Bus.raise
  dsimp only
  rw [hdest]
  dsimp only
  rw [if_pos hroom]
  simp

namespace Raises

variable {n : Nat} {b c : Bus}

theorem parts (h : Raises n b c) : c =
    { ctl := { b.ctl with eventSeq := c.ctl.eventSeq }
      counters := { b.counters with eventsLost := c.counters.eventsLost }
      link := { b.link with control := c.link.control } } := by
  obtain ⟨es, -, rfl⟩ := h
  induction es generalizing b with
  | nil => rfl
  | cons e es ih =>
    rw [List.foldl_cons, ih]
    rw [raise_parts b e]

theorem control (h : Raises n b c) : ∃ qs : List QFrame, qs.length ≤ n ∧ (∀ q ∈ qs, q.msg.isEvent = true) ∧
    c.link.control = b.link.control ++ qs := by
  obtain ⟨es, hlen, rfl⟩ := h
  induction es generalizing b n with
  | nil => exact ⟨[], Nat.zero_le _, by simp, (List.append_nil _).symm⟩
  | cons e es ih =>
    obtain ⟨n, rfl⟩ : ∃ m, n = m + 1 := ⟨n - 1, by simp only [List.length_cons] at hlen; omega⟩
    obtain ⟨ps, plen, pevent, pcontrol⟩ := raise_control b e
    obtain ⟨qs, qlen, qevent, qcontrol⟩ := ih (b := b.raise e) (n := n)
      (by simp only [List.length_cons] at hlen; omega)
    refine ⟨ps ++ qs, by rw [List.length_append]; omega, ?_, ?_⟩
    · intro q hq
      exact (List.mem_append.mp hq).elim (pevent q) (qevent q)
    · rw [List.foldl_cons, qcontrol, pcontrol, List.append_assoc]

theorem queued (h : Raises n b c) : OnlyQueued b c := by
  rw [h.parts]
  rfl

theorem control_length (h : Raises n b c) : c.link.control.length ≤ b.link.control.length + n := by
  obtain ⟨qs, hlen, -, hcontrol⟩ := h.control
  rw [hcontrol, List.length_append]
  omega

theorem mem_control (h : Raises n b c) {q : QFrame} (hq : q ∈ b.link.control) : q ∈ c.link.control := by
  obtain ⟨qs, -, -, hcontrol⟩ := h.control
  rw [hcontrol]
  exact List.mem_append_left _ hq

end Raises

end Sys2Proof.Machine.Bus

namespace Sys2Proof.Machine.State

/-- Only segment memory may differ, and the bus side by at most `n` events. -/
structure BlockWork (n : Nat) (s t : State) : Prop where
  only : OnlySeg s t
  bus : Bus.Raises n s.bus t.bus

namespace BlockWork

variable {n m : Nat} {s t u : State}

theorem refl (s : State) : BlockWork 0 s s := ⟨rfl, .refl _⟩

theorem mono (h : BlockWork n s t) (hle : n ≤ m) : BlockWork m s t := ⟨h.only, h.bus.mono hle⟩

theorem trans (h : BlockWork n s t) (k : BlockWork m t u) : BlockWork (n + m) s u :=
  ⟨h.only.trans k.only, h.bus.trans k.bus⟩

theorem onSeg (s : State) (f : Segment → Segment) : BlockWork 0 s (s.onSeg f) := ⟨rfl, .refl _⟩

/-! What such work leaves. -/

theorem lines (h : BlockWork n s t) : t.lines = s.lines := by rw [h.only]
theorem coders (h : BlockWork n s t) : t.coders = s.coders := by rw [h.only]
theorem tones (h : BlockWork n s t) : t.tones = s.tones := by rw [h.only]
theorem ports (h : BlockWork n s t) : t.ports = s.ports := by rw [h.only]
theorem letters (h : BlockWork n s t) : t.letters = s.letters := by rw [h.only]
theorem peers (h : BlockWork n s t) : t.peers = s.peers := by rw [h.only]
theorem nums (h : BlockWork n s t) : t.nums = s.nums := by rw [h.only]
theorem xfer (h : BlockWork n s t) : t.xfer = s.xfer := by rw [h.only]
theorem deliv (h : BlockWork n s t) : t.deliv = s.deliv := by rw [h.only]
theorem reports (h : BlockWork n s t) : t.reports = s.reports := by rw [h.only]

theorem sameOutside (h : BlockWork n s t) : SameOutside s t := by
  rw [h.only]
  exact ⟨rfl, rfl, rfl, rfl, rfl, rfl, rfl, rfl, rfl⟩

theorem discarded (h : BlockWork n s t) : t.bus.counters.discardedTone = s.bus.counters.discardedTone := by
  rw [h.bus.parts]

end BlockWork

variable (s : State)

theorem evalPressure_work : BlockWork 1 s s.evalPressure := by
  refine ⟨evalPressure_only s, ?_⟩
  simp only [evalPressure]
  split
  · exact (Bus.Raises.refl _).mono (Nat.zero_le _)
  · exact .raise _ _

theorem freeBlock_work (b : Nat) : BlockWork 1 s (s.freeBlock b) := by
  unfold freeBlock
  split
  · exact (BlockWork.onSeg s _).trans (evalPressure_work _)
  · exact (BlockWork.refl s).mono (Nat.zero_le _)

theorem incRef_work (b : Nat) : BlockWork 0 s (s.incRef b) := .onSeg s _

theorem decRef_work (b : Nat) : BlockWork 1 s (s.decRef b) := by
  simp only [decRef]
  unfold when
  split
  · exact (BlockWork.onSeg s _).trans (freeBlock_work _ b)
  · exact (BlockWork.onSeg s _).mono (Nat.zero_le _)

theorem sealBlock_work (b : Nat) : BlockWork 1 s (s.sealBlock b) := by
  unfold sealBlock
  split
  · exact (BlockWork.refl s).mono (Nat.zero_le _)
  · split
    · unfold when
      split
      · exact (BlockWork.onSeg s _).trans (freeBlock_work _ b)
      · exact (BlockWork.onSeg s _).mono (Nat.zero_le _)
    · exact (BlockWork.refl s).mono (Nat.zero_le _)

theorem giveBlock_work (o : LetterIx) (f : Filler) (p q : Nat) : BlockWork 1 s (s.giveBlock o f p q) :=
  (BlockWork.onSeg s _).trans (evalPressure_work _)

theorem dropRecords_work (c : List SegRec) : BlockWork c.length s (dropRecords c s) := by
  induction c generalizing s with
  | nil => exact .refl s
  | cons r c ih =>
    have hstep : BlockWork 1 s ((s.onSeg (Segment.returnRecords 1)).decRef r.block) :=
      (BlockWork.onSeg s _).trans (decRef_work _ _)
    exact (hstep.trans (ih _)).mono (by rw [List.length_cons]; omega)

theorem sealAll_work (bs : List Nat) : BlockWork bs.length s (sealAll bs s) := by
  induction bs generalizing s with
  | nil => exact .refl s
  | cons b bs ih => exact ((sealBlock_work s b).trans (ih _)).mono (by rw [List.length_cons]; omega)

theorem sealFilling_work (l : LineNo) : BlockWork 1 s (s.sealFilling l) := by
  unfold sealFilling
  cases s.lines[l].filling with
  | none => exact (BlockWork.refl s).mono (Nat.zero_le _)
  | some b => exact sealBlock_work s b

/-! ### The pool and the blocks sealed -/

theorem freeBlock_find (b : Nat) : (s.freeBlock b).seg.find b = none := by
  unfold freeBlock
  split
  · simp only [Segment.find, evalPressure, onSeg_seg]
    refine List.find?_eq_none.mpr fun x hx => ?_
    have := (List.mem_filter.mp hx).2
    simpa using this
  · next h => simpa using h

/-- A sealed block is FILLING no more (R40). -/
theorem sealBlock_filler {b : Nat} {e : Block} (h : (s.sealBlock b).seg.find b = some e) : e.filler = none := by
  unfold sealBlock at h
  split at h
  case h_1 hnone => rw [hnone] at h; cases h
  case h_2 x hx =>
    split at h
    case isFalse hfiller =>
      rw [hx] at h
      cases h
      simpa using hfiller
    case isTrue =>
      unfold when at h
      split at h
      · rw [freeBlock_find] at h
        cases h
      · obtain ⟨y, -, rfl⟩ := List.mem_map.mp (List.mem_of_find?_eq_some h)
        have hnum := List.find?_some h
        dsimp only at hnum ⊢
        split
        · rfl
        · next hne =>
          rw [if_neg hne] at hnum
          exact absurd (beq_iff_eq.mp hnum) hne

end Sys2Proof.Machine.State
end

section
/-! What the commits of a pass, its end, and the keys that end it can change (R12 to R18, R86, R87). -/

namespace Sys2Proof.Machine.State

/-- The work of a pass on line `l`: its block and its Coder's pass state, its letter's chain and cursor, segment
memory, and counters and events of the bus side. -/
structure PassWork (l : LineNo) (s t : State) : Prop where
  rest : t = { s with
    bus := t.bus, lines := t.lines, coders := t.coders, letters := t.letters, seg := t.seg }
  bus : Bus.OnlyQueued s.bus t.bus
  discarded : t.bus.counters.discardedTone = s.bus.counters.discardedTone
  line : t.lines[l] = { s.lines[l] with filling := t.lines[l].filling }
  coder : t.coders[l] = { s.coders[l] with exit := t.coders[l].exit, silence := t.coders[l].silence }
  others : ∀ m : LineNo, m ≠ l → t.lines[m] = s.lines[m] ∧ t.coders[m] = s.coders[m]
  letter : ∀ i x, s.lines[l].attached = some i → s.letters[i] = some x →
    ∃ y, t.letters[i] = some y ∧ y = { x with chain := y.chain, cursor := y.cursor }
  letters : ∀ j : LetterIx, s.lines[l].attached ≠ some j → t.letters[j] = s.letters[j]

namespace PassWork

variable {l : LineNo} {s t u : State}

theorem refl (l : LineNo) (s : State) : PassWork l s s :=
  ⟨rfl, .refl _, rfl, rfl, rfl, fun _ _ => ⟨rfl, rfl⟩, fun _ x _ hx => ⟨x, hx, rfl⟩, fun _ _ => rfl⟩

theorem attached (h : PassWork l s t) : t.lines[l].attached = s.lines[l].attached := by rw [h.line]

theorem trans (h : PassWork l s t) (k : PassWork l t u) : PassWork l s u where
  rest := by rw [k.rest, h.rest]
  bus := h.bus.trans k.bus
  discarded := k.discarded.trans h.discarded
  line := by rw [k.line, h.line]
  coder := by rw [k.coder, h.coder]
  others := by
    intro m hm
    obtain ⟨hline, hcoder⟩ := h.others m hm
    obtain ⟨kline, kcoder⟩ := k.others m hm
    exact ⟨kline.trans hline, kcoder.trans hcoder⟩
  letter := by
    intro i x hi hx
    obtain ⟨y, hy, heq⟩ := h.letter i x hi hx
    obtain ⟨z, hz, keq⟩ := k.letter i y (h.attached.trans hi) hy
    exact ⟨z, hz, by rw [keq, heq]⟩
  letters := by
    intro j hj
    rw [k.letters j (by rwa [h.attached]), h.letters j hj]

/-! The steps such work is made of. -/

theorem of_blocks {n : Nat} (h : BlockWork n s t) : PassWork l s t where
  rest := by rw [h.only]
  bus := h.bus.queued
  discarded := h.discarded
  line := by rw [h.lines]
  coder := by rw [h.coders]
  others := fun m _ => by rw [h.lines, h.coders]; exact ⟨rfl, rfl⟩
  letter := fun _ x _ hx => ⟨x, by rw [h.letters]; exact hx, rfl⟩
  letters := fun j _ => by rw [h.letters]

theorem onLine (s : State) {f : Line → Line} (hf : f s.lines[l] = { s.lines[l] with filling := (f s.lines[l]).filling }) :
    PassWork l s (s.onLine l f) where
  rest := rfl
  bus := .refl _
  discarded := rfl
  line := by rw [onLine_same]; exact hf
  coder := rfl
  others := fun m hm => ⟨onLine_other s hm f, rfl⟩
  letter := fun _ x _ hx => ⟨x, hx, rfl⟩
  letters := fun _ _ => rfl

theorem onCoder (s : State) {f : Coder → Coder}
    (hf : f s.coders[l] = { s.coders[l] with exit := (f s.coders[l]).exit, silence := (f s.coders[l]).silence }) :
    PassWork l s (s.onCoder l f) where
  rest := rfl
  bus := .refl _
  discarded := rfl
  line := rfl
  coder := by rw [onCoder_same]; exact hf
  others := fun m hm => ⟨rfl, onCoder_other s hm f⟩
  letter := fun _ x _ hx => ⟨x, hx, rfl⟩
  letters := fun _ _ => rfl

theorem count (s : State) {f : Counters → Counters} (hf : ∀ c, (f c).discardedTone = c.discardedTone) :
    PassWork l s (s.count f) where
  rest := rfl
  bus := .count f _
  discarded := hf _
  line := rfl
  coder := rfl
  others := fun _ _ => ⟨rfl, rfl⟩
  letter := fun _ x _ hx => ⟨x, hx, rfl⟩
  letters := fun _ _ => rfl

theorem onLetter {j : LetterIx} (hj : s.lines[l].attached = some j) {f : Letter → Letter}
    (hf : ∀ x, f x = { x with chain := (f x).chain, cursor := (f x).cursor }) : PassWork l s (s.onLetter j f) where
  rest := rfl
  bus := .refl _
  discarded := rfl
  line := rfl
  coder := rfl
  others := fun _ _ => ⟨rfl, rfl⟩
  letter := by
    intro i x hi hx
    obtain rfl : j = i := Option.some.inj (hj.symm.trans hi)
    exact ⟨f x, by rw [onLetter_same, hx]; rfl, hf x⟩
  letters := fun i hi => onLetter_other s (fun heq => hi (by rw [heq]; exact hj)) f

/-! What such work leaves. -/

theorem tones (h : PassWork l s t) : t.tones = s.tones := by rw [h.rest]
theorem ports (h : PassWork l s t) : t.ports = s.ports := by rw [h.rest]
theorem nums (h : PassWork l s t) : t.nums = s.nums := by rw [h.rest]
theorem xfer (h : PassWork l s t) : t.xfer = s.xfer := by rw [h.rest]
theorem deliv (h : PassWork l s t) : t.deliv = s.deliv := by rw [h.rest]
theorem peers (h : PassWork l s t) : t.peers = s.peers := by rw [h.rest]
theorem reports (h : PassWork l s t) : t.reports = s.reports := by rw [h.rest]

theorem sameOutside (h : PassWork l s t) : SameOutside s t := by
  rw [h.rest]
  exact ⟨rfl, rfl, rfl, rfl, rfl, rfl, rfl, rfl, rfl⟩

theorem otherLines (h : PassWork l s t) : OtherLines l s t := by
  intro m hm
  obtain ⟨hline, hcoder⟩ := h.others m hm
  exact ⟨hline, hcoder, by rw [h.tones], by rw [h.ports]⟩

end PassWork

variable (s : State) (l : LineNo)

/-! ### Commits -/

theorem takeFilling_work (i : LetterIx) (n : Nat) : PassWork l s (s.takeFilling l i n) := by
  have hgive : ∀ q, PassWork l s ((s.chargeLine l).giveBlock i (.line l) n q) := fun q =>
    .of_blocks ((BlockWork.onSeg s _).trans (giveBlock_work (s.chargeLine l) i (.line l) n q))
  simp only [takeFilling]
  split
  · exact ((hgive _).trans (.of_blocks (sealBlock_work _ _))).trans (.onLine _ rfl)
  · exact (hgive _).trans (.onLine _ rfl)

theorem writeSlice_work (b : Nat) (h : HoldSlice) : PassWork l s (s.writeSlice l b h) := by
  simp only [writeSlice]
  split
  · exact (PassWork.of_blocks (.onSeg s _)).trans (.onCoder _ rfl)
  · exact (PassWork.of_blocks (.onSeg s _)).trans (.onCoder _ rfl)

theorem foldl_incRef_work (bs : List Nat) : BlockWork 0 s (bs.foldl incRef s) := by
  induction bs generalizing s with
  | nil => exact .refl s
  | cons b bs ih => exact (incRef_work s b).trans (ih _)

variable {s l}

theorem takeChain_work {i : LetterIx} (hi : s.lines[l].attached = some i) (e : ChainEdit) :
    PassWork l s (s.takeChain i e) := .onLetter hi fun _ => rfl

theorem editChain_work {i : LetterIx} (hi : s.lines[l].attached = some i) (e : ChainEdit) (b : Nat) :
    PassWork l s (s.editChain i e b) := by
  have hnames : PassWork l s ((editNames e b).foldl incRef ((s.takeChain i e).onSeg (Segment.takeRecords e.taken))) :=
    (takeChain_work hi e).trans (.of_blocks ((BlockWork.onSeg _ _).trans (foldl_incRef_work _ _)))
  rw [editChain_eq]
  cases e.removed with
  | none => exact hnames
  | some n => exact hnames.trans (.of_blocks ((BlockWork.onSeg _ _).trans (decRef_work _ n)))

theorem commitPlace_work {i : LetterIx} (hi : s.lines[l].attached = some i) (x : Letter) (p : Pass) (h : HoldSlice) :
    PassWork l s (s.commitPlace l i x p h) := by
  have hland : PassWork l s (when (s.landing l h.coded).isNone (·.takeFilling l i p.number) s) := by
    unfold when
    split
    · exact takeFilling_work s l i p.number
    · exact .refl l s
  simp only [commitPlace]
  split
  · exact hland
  · next b _ =>
    have hwrite := hland.trans (writeSlice_work _ l b.num h)
    exact (hwrite.trans (editChain_work (hwrite.attached.trans hi) _ _)).trans (.count _ fun _ => rfl)

/-- A slice that leaves the Hold Buffer does the work of a pass, and a commit that fails does nothing. -/
theorem leaveHold_work (s : State) (l : LineNo) (h : HoldSlice) : PassWork l s (s.leaveHold l h).1 := by
  simp only [leaveHold]
  split
  · exact .refl l s
  · next i x p hpass =>
    obtain ⟨hi, -, -⟩ := passOf_spec hpass
    split
    · exact .count _ fun _ => rfl
    · split
      · exact .refl l s
      · have hplace := commitPlace_work hi x p h
        split
        · exact (hplace.trans (.onCoder _ rfl)).trans (.count _ fun _ => rfl)
        · exact hplace.trans (.onCoder (f := fun c => { c with silence := 0 }) _ rfl)

theorem flushHold_work (l : LineNo) (hs : List HoldSlice) (s : State) : PassWork l s (flushHold l hs s).1 := by
  induction hs generalizing s with
  | nil => exact .refl l s
  | cons h hs ih =>
    have hleave := leaveHold_work s l h
    unfold flushHold
    split
    · next heq => rw [heq] at hleave; exact hleave
    · next heq => rw [heq] at hleave; exact hleave.trans (ih _)

/-! ### The end of a pass -/

/-- The pass of line `l` on entry `i` has ended: its block is sealed, the Hold Buffer empty, the letter without a
pass (R15). At most `n` events were raised. -/
structure PassSealed (l : LineNo) (i : LetterIx) (n : Nat) (u t : State) : Prop where
  rest : t = { u with
    bus := t.bus, lines := t.lines, coders := t.coders, letters := t.letters, seg := t.seg }
  bus : Bus.Raises n u.bus t.bus
  line : t.lines[l] = { u.lines[l] with filling := none, hold := [] }
  coder : t.coders[l] = { u.coders[l] with exit := none, silence := 0 }
  others : ∀ m : LineNo, m ≠ l → t.lines[m] = u.lines[m] ∧ t.coders[m] = u.coders[m]
  letter : t.letters[i] = u.letters[i].map fun x => { x with pass := none }
  done : PassOver l i u t

theorem dropPass_of_attached {i : LetterIx} (hi : s.lines[l].attached = some i) :
    s.dropPass l = s.onLetter i fun x => { x with pass := none } := by
  rw [dropPass, hi]
  rfl

/-- End Pass on a line with a letter. -/
theorem endPass_of_attached {i : LetterIx} (hi : s.lines[l].attached = some i) : s.endPass l =
    (((s.sealFilling l).onLine l fun c => { c with filling := none, hold := [] }).onLetter i fun x =>
      { x with pass := none }).onCoder l fun c => { c with exit := none, silence := 0 } := by
  have hline : ((s.sealFilling l).onLine l fun c => { c with filling := none, hold := [] }).lines[l].attached =
      some i := by
    rw [onLine_same, (sealFilling_work s l).lines]
    exact hi
  rw [endPass_eq, dropPass_of_attached hline]

theorem sealFilling_filler {b : Nat} {e : Block} (hb : s.lines[l].filling = some b)
    (he : (s.sealFilling l).seg.find b = some e) : e.filler = none := by
  rw [sealFilling, hb] at he
  exact sealBlock_filler s he

theorem sealFilling_poolFree (s : State) (l : LineNo) : (s.sealFilling l).seg.poolFree = s.seg.poolFree := by
  unfold sealFilling
  cases s.lines[l].filling with
  | none => rfl
  | some b => exact sealBlock_poolFree s b

theorem sealFilling_mem (s : State) (l : LineNo) : (s.sealFilling l).seg.mem = s.seg.mem := by
  unfold sealFilling
  cases s.lines[l].filling with
  | none => rfl
  | some b => exact mem_sealBlock s b

theorem endPass_sealed {i : LetterIx} (hi : s.lines[l].attached = some i) : PassSealed l i 1 s (s.endPass l) := by
  have hseal := sealFilling_work s l
  have hmem := sealFilling_mem s l
  have hpool := sealFilling_poolFree s l
  have hfill : ∀ b e, s.lines[l].filling = some b → (s.sealFilling l).seg.find b = some e → e.filler = none :=
    fun b e => sealFilling_filler
  rw [endPass_of_attached hi]
  generalize s.sealFilling l = v at hseal hmem hpool hfill
  refine ⟨by rw [hseal.only]; rfl, hseal.bus, ?line, ?coder, ?others, ?letter, ?bytes, ?letters, hpool, hfill⟩
  case line => simp [hseal.lines]
  case coder => simp [hseal.coders]
  case others =>
    intro m hm
    simp [hseal.lines, hseal.coders, Fin.val_inj, hm.symm]
  case letter => simp [hseal.letters]
  case bytes =>
    intro a
    exact congrArg (Memory.read · a) hmem
  case letters =>
    intro j hj
    simp [hseal.letters, Fin.val_inj, hj.symm]

theorem PassSealed.raise {i : LetterIx} {n : Nat} {u t : State} (h : PassSealed l i n u t) (e : Event) :
    PassSealed l i (n + 1) u (t.raise e) := by
  obtain ⟨hrest, hbus, hline, hcoder, hothers, hletter, hdone⟩ := h
  exact ⟨by rw [hrest]; rfl, hbus.trans (.raise _ e), hline, hcoder, hothers, hletter, hdone⟩

theorem failPass_sealed {i : LetterIx} (hi : s.lines[l].attached = some i) (f : PassFail) :
    PassSealed l i 2 s (s.failPass l f) := (endPass_sealed hi).raise _

/-- The event of a failed commit stands in the queue where it has room for it and for the block freed before
(R16 to R18). -/
theorem failPass_told {i : LetterIx} (hi : s.lines[l].attached = some i) (f : PassFail) :
    FailTold f l s (s.failPass l f) := by
  intro hroom d hdest
  have hbus := (endPass_sealed hi).bus
  have hlen := hbus.control_length
  have hctl := hbus.queued.ctl
  refine ⟨(s.endPass l).bus.ctl.eventSeq + 1, ?_⟩
  have htold := Bus.raise_told (b := (s.endPass l).bus) (d := d) (Nat.lt_of_le_of_lt hlen (by
    change _ < 16
    omega)) (by rw [hctl]; exact hdest) (f.event l)
  rw [hctl] at htold
  cases f <;> exact htold

/-! ### The hold flushed and the pass ended -/

/-- The pass of line `l` on entry `i` has been finished: its Hold Buffer committed, which gave `u` and the failure
`f` if one failed, and the pass ended (R87). -/
structure PassFinished (l : LineNo) (i : LetterIx) (s u : State) (f : Option PassFail) (v : State) : Prop where
  work : PassWork l s u
  sealed : PassSealed l i 2 u v
  told : ∀ g, f = some g → FailTold g l u v

theorem finishPass_finished {i : LetterIx} {u : State} {f : Option PassFail} (hi : s.lines[l].attached = some i)
    (hflush : flushHold l s.lines[l].hold s = (u, f)) :
    (s.finishPass l).2 = f ∧ PassFinished l i s u f (s.finishPass l).1 := by
  have hwork := flushHold_work l s.lines[l].hold s
  rw [hflush] at hwork
  have hu := hwork.attached.trans hi
  unfold finishPass
  rw [hflush]
  cases f with
  | none =>
    obtain ⟨hrest, hbus, hline, hcoder, hothers, hletter, hdone⟩ := endPass_sealed hu
    exact ⟨rfl, hwork, ⟨hrest, hbus.mono (by omega), hline, hcoder, hothers, hletter, hdone⟩, nofun⟩
  | some g =>
    refine ⟨rfl, hwork, failPass_sealed hu g, ?_⟩
    rintro _ ⟨⟩
    exact failPass_told hu g

end Sys2Proof.Machine.State
end

section
/-! A pass closed by a key or by auto-pause (R82, R86 to R88). -/

namespace Sys2Proof.Machine.State

/-- The pass of line `l` on entry `i` has been closed: the Hold Buffer's commits gave `u` and the failure `f` if
one failed; the line is READY and sounds `q` if that is a prompt (R87, R88). -/
structure PassClosed (l : LineNo) (i : LetterIx) (s u : State) (f : Option PassFail) (q : Option Prompt)
    (v : State) : Prop where
  line : v.lines[l] = { s.lines[l] with state := .ready, hold := [], filling := none }
  coder : v.coders[l] = { s.coders[l] with exit := none, silence := 0 }
  tone : v.tones[l] = { s.tones[l] with prompt := q.elim s.tones[l].prompt fun p => some (.start p) }
  letter : v.letters[i] = u.letters[i].map fun x => { x with pass := none }
  done : PassOver l i u v
  told : ∀ g, f = some g → FailTold g l u v
  others : OtherLines l s v
  outside : SameOutside s v
  units : v.nums = s.nums ∧ v.xfer = s.xfer ∧ v.deliv = s.deliv ∧ v.peers = s.peers
  discarded : v.bus.counters.discardedTone = s.bus.counters.discardedTone
  ctl : v.bus.ctl = { s.bus.ctl with eventSeq := v.bus.ctl.eventSeq }

variable {s u : State} {l : LineNo} {i : LetterIx} {f : Option PassFail}

/-- What the end of the pass and the way to READY leave. -/
theorem PassFinished.closed {v : State} (h : PassFinished l i s u f v) :
    PassClosed l i s u f none (v.goto l .ready) := by
  obtain ⟨hwork, ⟨hrest, hbus, hline, hcoder, hothers, hletter, hbytes, hletters, hpool, hfill⟩, htold⟩ := h
  have htones : v.tones = s.tones := by rw [hrest, ← hwork.tones]
  have hports : v.ports = s.ports := by rw [hrest, ← hwork.ports]
  have hmy : (v.goto l .ready).lines[l] = { v.lines[l] with state := .ready } := onLine_same v l _
  refine ⟨?line, ?coder, ?tone, hletter, ⟨hbytes, hletters, hpool, hfill⟩, htold, ?others, ?outside, ?units, ?discarded,
    ?ctl⟩
  case line => rw [hmy, hline, hwork.line]
  case coder =>
    change v.coders[l] = _
    rw [hcoder, hwork.coder]
  case tone =>
    change v.tones[l] = _
    rw [htones]
    rfl
  case others =>
    intro m hm
    obtain ⟨hl, hc, ht, hp⟩ := hwork.otherLines m hm
    obtain ⟨kl, kc⟩ := hothers m hm
    have hother : (v.goto l .ready).lines[m] = v.lines[m] := onLine_other v hm _
    refine ⟨hother.trans (kl.trans hl), kc.trans hc, ?_, ?_⟩
    · exact congrArg (fun w => w[m]) htones
    · exact congrArg (fun w => w[m]) hports
  case outside =>
    have hu := hwork.sameOutside
    rw [hrest]
    exact hu
  case units =>
    rw [hrest]
    exact ⟨hwork.nums, hwork.xfer, hwork.deliv, hwork.peers⟩
  case discarded =>
    change v.bus.counters.discardedTone = _
    rw [hbus.parts]
    exact hwork.discarded
  case ctl =>
    change v.bus.ctl = { s.bus.ctl with eventSeq := v.bus.ctl.eventSeq }
    rw [(hwork.bus.trans hbus.queued).ctl]

/-- A prompt asked for when the pass is closed. -/
theorem PassClosed.prompt {v : State} (h : PassClosed l i s u f none v) (q : Prompt) :
    PassClosed l i s u f (some q) (v.prompt l q) := by
  obtain ⟨hline, hcoder, htone, hletter, hdone, htold, hothers, houtside, hunits, hdiscarded, hctl⟩ := h
  refine ⟨hline, hcoder, ?tone, hletter, hdone, htold, ?others, houtside, hunits, hdiscarded, hctl⟩
  case tone =>
    have hnew : (v.prompt l q).tones[l] = { v.tones[l] with prompt := some (.start q) } := by simp
    rw [hnew, htone]
    rfl
  case others =>
    intro m hm
    obtain ⟨hl, hc, ht, hp⟩ := hothers m hm
    obtain ⟨kl, kt, kp⟩ := ((OnlyLine.refl (l := l) v).prompt q).others m hm
    exact ⟨kl.trans hl, hc, kt.trans ht, kp.trans hp⟩

/-- The prompt that a closed pass sounds: that of a failed commit, else the one asked for (R87, R88). -/
def closingPrompt (f : Option PassFail) (p : Option Prompt) : Option Prompt := (f.map PassFail.prompt).or p

theorem closePass_closed (hi : s.lines[l].attached = some i) (hflush : flushHold l s.lines[l].hold s = (u, f))
    (p : Option Prompt) : PassClosed l i s u f (closingPrompt f p) (s.closePass l p) := by
  obtain ⟨hfail, hfinished⟩ := finishPass_finished hi hflush
  have hclosed := hfinished.closed
  simp only [closePass, hfail]
  rcases f with _ | g
  · rcases p with _ | q
    · exact hclosed
    · exact hclosed.prompt q
  · exact hclosed.prompt g.prompt

/-! ### A key that ends the pass (R82, R86) -/

@[simp] theorem dropTouched_lines (s : State) (l : LineNo) : (s.dropTouched l).lines =
    s.lines.set l { s.lines[l] with hold := s.lines[l].hold.filter (!·.toneTouched) } := rfl

@[simp] theorem dropTouched_tones (s : State) (l : LineNo) : (s.dropTouched l).tones = s.tones := rfl

/-- The station at a key of RECORDING once its tone-touched slices are dropped. -/
theorem dropTouched_flush {c : Instr} {k : Key} (hflush : s.flushAtKey l c k = (u, f)) :
    flushHold l ((s.pressed l c k).dropTouched l).lines[l].hold ((s.pressed l c k).dropTouched l) = (u, f) := by
  rw [← hflush, flushAtKey]
  simp

theorem prompt_code (g : PassFail) : g.prompt = if g = .memory then .memoryFull else .refused := by
  cases g <;> rfl

/-- The pass that a key has closed. -/
theorem passEnded_of_flush {c : Instr} {k : Key} (hi : s.lines[l].attached = some i)
    (hflush : s.flushAtKey l c k = (u, f)) :
    PassEnded l i k f s u (((s.pressed l c k).dropTouched l).closePass l none) := by
  have hi' : ((s.pressed l c k).dropTouched l).lines[l].attached = some i := by simpa using hi
  obtain ⟨hline, hcoder, htone, hletter, hdone, htold, hothers, houtside, ⟨hnums, hxfer, hdeliv, hpeers⟩, hdiscarded, -⟩ :=
    closePass_closed hi' (dropTouched_flush hflush) none
  generalize ((s.pressed l c k).dropTouched l).closePass l none = v at *
  have hpressed : OtherLines l s ((s.pressed l c k).dropTouched l) := by
    intro m hm
    simp [Fin.val_inj, hm.symm]
    exact ⟨rfl, rfl⟩
  have hrecognised : Recognised l k s v := by
    refine ⟨?_, ?_, fun m hm => ?_, houtside⟩
    · rw [htone]; simp
    · rw [hline]; simp
    · obtain ⟨hl, hc, ht, hp⟩ := hothers m hm
      obtain ⟨kl, kc, kt, kp⟩ := hpressed m hm
      exact ⟨hl.trans kl, hc.trans kc, ht.trans kt, hp.trans kp⟩
  refine ⟨?line, ?quiet, ?failed, ?letter, ?discarded, hcoder, hnums, hxfer, hdeliv, hpeers, hdone, hrecognised⟩
  case line => rw [hline]; simp
  case quiet =>
    rintro rfl
    rw [htone]
    simp [closingPrompt]
  case failed =>
    rintro g rfl
    refine ⟨?_, htold g rfl⟩
    rw [Sounds, htone, ← prompt_code]
    rfl
  case letter =>
    intro y hy
    rw [hletter, hy]
    rfl
  case discarded =>
    rw [hdiscarded]
    simp [dropTouched]
    rfl

/-- The letter of a line whose pass a key has closed is still in its entry. -/
theorem passEnded_letter {c : Instr} {k : Key} {x : Letter} (hi : s.lines[l].attached = some i)
    (hx : s.letters[i] = some x) (hflush : s.flushAtKey l c k = (u, f)) :
    ∃ y, (((s.pressed l c k).dropTouched l).closePass l none).letters[i] = some y ∧
      (((s.pressed l c k).dropTouched l).closePass l none).lineLetter l = some (i, y) := by
  have hi' : ((s.pressed l c k).dropTouched l).lines[l].attached = some i := by simpa using hi
  have hwork := flushHold_work l ((s.pressed l c k).dropTouched l).lines[l].hold ((s.pressed l c k).dropTouched l)
  rw [dropTouched_flush hflush] at hwork
  have hclosed := closePass_closed hi' (dropTouched_flush hflush) none
  obtain ⟨y, hy, -⟩ := hwork.letter i x hi' hx
  have hletter := hclosed.letter
  rw [hy] at hletter
  refine ⟨_, hletter, ?_⟩
  rw [lineLetter, hclosed.line]
  simp only [hi', Option.bind_some, hletter]
  rfl

end Sys2Proof.Machine.State
end

section
/-! Keys refused, key events and prompts that end (R71, R80 to R83, R97 to R105). -/

namespace Sys2Proof.Machine.State

variable {s : State} {l : LineNo}

/-! ### What a key does in each state -/

theorem keyActs_ready (k : Key) (h : s.LineIn l .ready) : s.keyActs l k = s.readyKey l k := by rw [keyActs, h]

theorem keyActs_playing (k : Key) (h : s.LineIn l .playing) : s.keyActs l k = s.playingKey l k := by rw [keyActs, h]

theorem keyActs_recording (k : Key) (h : s.LineIn l .recording) : s.keyActs l k = s.recordingKey l k := by
  rw [keyActs, h]

theorem keyActs_waiting (k : Key) (h : s.LineIn l .locate ∨ s.LineIn l .fetch) : s.keyActs l k = s.refuse l := by
  rw [keyActs]
  rcases h with h | h <;> rw [h]

theorem selectKey_refused {k : Key} (hA : k ≠ .kA) (hstar : k ≠ .star) : s.selectKey l k = s.refuse l := by
  unfold selectKey
  split
  · exact absurd rfl hA
  · exact absurd rfl hstar
  · rfl

theorem readyKey_refused {k : Key} (h : k = .k2 ∨ k = .kA ∨ k = .star ∨ k = .hash) :
    s.readyKey l k = s.refuse l := by
  unfold readyKey
  split
  · rfl
  · rcases h with rfl | rfl | rfl | rfl <;> rfl

theorem playingKey_refused {k : Key}
    (h : k = .k3 ∨ k = .k6 ∨ k = .k7 ∨ k = .k8 ∨ k = .kA ∨ k = .star ∨ k = .hash) :
    s.playingKey l k = s.refuse l := by
  rcases h with rfl | rfl | rfl | rfl | rfl | rfl | rfl <;> rfl

theorem recordingKey_refused {k : Key} (h : k = .k1 ∨ k = .kA ∨ k = .star ∨ k = .hash) :
    s.recordingKey l k = (s.dropTouched l).refuse l := by
  rcases h with rfl | rfl | rfl | rfl <;> rfl

/-- Settles O20: in each state the key is refused, in RECORDING after the touched slices are dropped. -/
theorem keysRefused : Obligations.KeysRefused := by
  unfold Obligations.KeysRefused
  intro s l k hfree
  refine ⟨fun hstates => ?quiet, fun hrecording hkey => ?recording⟩
  case quiet =>
    have hact : exec (.refusedKey l k) s = .next ((s.pressed l (.refusedKey l k) k).refuse l) := by
      rcases hstates with ⟨hst, hA, hstar⟩ | hst | hst | ⟨hst, hkey⟩ | ⟨hst, hkey⟩
      · rw [keyRow_acts (c := .refusedKey l k) rfl hfree hst (by decide),
          keyActs_select k (pressed_lineIn _ k hst), selectKey_refused hA hstar]
      · rw [keyRow_acts (c := .refusedKey l k) rfl hfree hst (by decide),
          keyActs_waiting k (.inl (pressed_lineIn _ k hst))]
      · rw [keyRow_acts (c := .refusedKey l k) rfl hfree hst (by decide),
          keyActs_waiting k (.inr (pressed_lineIn _ k hst))]
      · rw [keyRow_acts (c := .refusedKey l k) rfl hfree hst (by decide),
          keyActs_ready k (pressed_lineIn _ k hst), readyKey_refused hkey]
      · rw [keyRow_acts (c := .refusedKey l k) rfl hfree hst (by decide),
          keyActs_playing k (pressed_lineIn _ k hst), playingKey_refused hkey]
    obtain ⟨hsounds, hrecognised, hletters, hunits⟩ := (pressed_keyTaken s l (.refusedKey l k) k).prompted .refused
    exact ⟨_, hact, by simp [refuse], hsounds, by simp [refuse], hrecognised, hletters, rfl, hunits⟩
  case recording =>
    have hact : exec (.refusedKey l k) s =
        .next (((s.pressed l (.refusedKey l k) k).dropTouched l).refuse l) := by
      rw [keyRow_acts (c := .refusedKey l k) rfl hfree hrecording (by decide),
        keyActs_recording k (pressed_lineIn _ k hrecording), recordingKey_refused hkey]
    have hothers : OtherLines l s (((s.pressed l (.refusedKey l k) k).dropTouched l).refuse l) := by
      intro m hm
      simp [refuse, Fin.val_inj, hm.symm]
      exact ⟨rfl, rfl⟩
    refine ⟨_, hact, by simp [refuse], prompt_sounds _ l .refused, ⟨by simp [refuse], by simp [refuse], hothers, ?_⟩,
      rfl, rfl, ?_, rfl, rfl, rfl, rfl, rfl⟩
    · exact ⟨rfl, rfl, rfl, rfl, rfl, rfl, rfl, rfl, rfl⟩
    · simp [refuse, dropTouched, prompt, count]
      rfl

/-! ### Prompts that end (R105, R79) -/

theorem exec_promptEnded {r : PromptRun} (h : s.tones[l].prompt = some r) : exec (.promptEnded l) s =
    .next (if r.prompt = .wait then s.taken (.promptEnded l)
      else when (r.prompt == .refused && s.waitsSettling l) (·.prompt l .wait)
        ((s.taken (.promptEnded l)).onTone l fun t => { t with prompt := none })) := by
  have htaken : (s.taken (.promptEnded l)).tones[l].prompt = some r := h
  change Host.Outcome.next _ = _
  rw [htaken]
  rfl

/-- Settles O30: Wait stays, Refused over a SETTLING entry brings Wait back, any other is removed. -/
theorem promptEnds : Obligations.PromptEnds := by
  unfold Obligations.PromptEnds
  intro s l r hr
  have hexec := exec_promptEnded hr
  have hremoved : OnlyLine l s ((s.taken (.promptEnded l)).onTone l fun t => { t with prompt := none }) :=
    (OnlyLine.taken _).onTone _
  refine ⟨fun hwait hother => ?removed, fun hrefused hsettling => ?again, fun hwait => ?stays⟩
  case removed =>
    have hquiet : (r.prompt == .refused && s.waitsSettling l) = false := by
      rcases hother with h | h <;> simp [h]
    rw [if_neg hwait, hquiet] at hexec
    exact ⟨_, hexec, by simp [when], rfl, hremoved.otherLines, rfl, hremoved.sameUnits, hremoved.sameOutside⟩
  case again =>
    rw [if_neg (by rw [hrefused]; decide), hrefused, hsettling] at hexec
    have hagain := hremoved.prompt .wait
    exact ⟨_, hexec, prompt_sounds _ l .wait, rfl, hagain.otherLines, rfl, hagain.sameUnits, hagain.sameOutside⟩
  case stays => rwa [if_pos hwait] at hexec

end Sys2Proof.Machine.State
end

section
/-! Line timeouts, Record, Play and Stop (R11, R66, R74, R79, R80, R82, R83, R86 to R88). -/

namespace Sys2Proof.Machine.State

variable {s : State} {l : LineNo} {i : LetterIx} {x : Letter}

theorem lineLetter_of_attached (hi : s.lines[l].attached = some i) (hx : s.letters[i] = some x) :
    s.lineLetter l = some (i, x) := by
  rw [lineLetter, hi]
  exact congrArg (Option.map fun x => (i, x)) hx

theorem lineLetter_pressed (c : Instr) (k : Key) (hi : s.lines[l].attached = some i) (hx : s.letters[i] = some x) :
    (s.pressed l c k).lineLetter l = some (i, x) :=
  lineLetter_of_attached (by simpa using hi) hx

theorem exec_authorDigitTimeout_running (hst : s.LineIn l .author) (htimer : s.lines[l].digitTimer ≠ none) :
    exec (.authorDigitTimeout l) s = .next ((s.taken (.authorDigitTimeout l)).authorAgain l) :=
  congrArg Host.Outcome.next (if_pos ⟨hst, Option.isSome_iff_ne_none.mpr htimer⟩)

theorem exec_waitTimerExpiry_running (hst : s.LineIn l .fetch) (htimer : s.lines[l].waitTimer ≠ none) :
    exec (.waitTimerExpiry l) s = .next (((s.taken (.waitTimerExpiry l)).onLine l fun c =>
      { c with fetchRef := none, waitTimer := none }).backToSelect l) :=
  congrArg Host.Outcome.next (if_pos ⟨hst, Option.isSome_iff_ne_none.mpr htimer⟩)

theorem exec_autoPause_due (hst : s.LineIn l .recording)
    (hrun : s.bus.ctl.settings.autoPauseSlices ≤ s.lines[l].autoRun) :
    exec (.autoPause l) s = .next ((s.taken (.autoPause l)).closePass l (some .paused)) :=
  congrArg Host.Outcome.next (if_pos ⟨hst, hrun⟩)

/-- Settles O21: the timers by their rows; auto-pause closes the pass. -/
theorem lineTimeouts : Obligations.LineTimeouts := by
  unfold Obligations.LineTimeouts
  intro s l
  refine ⟨fun hst htimer => ?author, fun hst htimer => ?wait, fun i x hw hrun hempty => ?still,
    fun i x u f hw hrun hflush => ?closed⟩
  case author =>
    have honly := ((OnlyLine.taken (l := l) (s := s) (.authorDigitTimeout l)).onLine fun c =>
      { c with entry := [], digitTimer := none }).prompt .refused
    exact ⟨_, exec_authorDigitTimeout_running hst htimer, by simp [authorAgain_eq], prompt_sounds _ l .refused,
      honly.otherLines, honly.letters, honly.sameUnits, honly.sameOutside⟩
  case wait =>
    have honly := ((OnlyLine.taken (l := l) (s := s) (.waitTimerExpiry l)).onLine fun c =>
      { c with fetchRef := none, waitTimer := none }).backToSelect
    exact ⟨_, exec_waitTimerExpiry_running hst htimer, by simp, prompt_sounds _ l .refused,
      honly.otherLines, honly.letters, honly.sameUnits, honly.sameOutside⟩
  case still =>
    obtain ⟨hst, hi, hx⟩ := hw
    have hflush : flushHold l (s.taken (.autoPause l)).lines[l].hold (s.taken (.autoPause l)) =
        (s.taken (.autoPause l), none) := by
      rw [show (s.taken (.autoPause l)).lines[l].hold = [] from hempty]
      rfl
    obtain ⟨hline, hcoder, htone, hletter, ⟨hbytes, hletters, -, -⟩, -, hothers, houtside, -, -, -⟩ :=
      closePass_closed (s := s.taken (.autoPause l)) hi hflush (some .paused)
    have hx' : (s.taken (.autoPause l)).letters[i] = some x := hx
    refine ⟨_, exec_autoPause_due hst hrun, ?_, ?_, by rw [hletter, hx']; rfl, hcoder, hbytes, hothers, hletters,
      houtside⟩
    · rw [hline, ← hempty]
      rfl
    · rw [Sounds, htone]
      rfl
  case closed =>
    obtain ⟨hst, hi, hx⟩ := hw
    obtain ⟨hline, hcoder, htone, hletter, hdone, htold, hothers, houtside, ⟨hnums, hxfer, hdeliv, hpeers⟩, -, -⟩ :=
      closePass_closed (s := s.taken (.autoPause l)) hi hflush (some .paused)
    refine ⟨_, exec_autoPause_due hst hrun, hline, ?_, ?_, ?_, hcoder, hdone, hothers, hnums, hxfer, hdeliv, hpeers,
      houtside⟩
    · rintro rfl
      rw [Sounds, htone]
      rfl
    · rintro g rfl
      refine ⟨?_, htold g rfl⟩
      rw [Sounds, htone, ← prompt_code]
      rfl
    · intro y hy
      rw [hletter, hy]
      rfl

/-! ### Stop (R66, R82, R83) -/

theorem stopPlaying_taken {k : Key} {t : State} (h : KeyTaken l k s t) : KeyTaken l k s (t.stopPlaying l) where
  only := (h.only.onPort fun p => { p with outbound := none }).onLine fun c => { c with state := .ready }
  key := by
    rw [stopPlaying, goto, onLine_same]
    exact h.key
  keyDown := h.keyDown

/-- Settles O23: Stop leaves PLAYING, or closes the pass. -/
theorem stopStops : Obligations.StopStops := by
  unfold Obligations.StopStops
  intro s l i x hfree
  have hrow : ∀ st, s.LineIn l st → st ≠ .idle →
      exec (.stop l) s = .next ((s.pressed l (.stop l) .k2).keyActs l .k2) :=
    fun st hst hne => keyRow_acts (c := .stop l) rfl hfree hst hne
  have hclosing : s.LineIn l .recording →
      exec (.stop l) s = .next (((s.pressed l (.stop l) .k2).dropTouched l).closePass l none) := fun hst => by
    rw [hrow _ hst (by decide), keyActs_recording _ (pressed_lineIn _ _ hst)]
    rfl
  refine ⟨fun ⟨hst, hi, hx⟩ => ?playing, fun ⟨hst, hi, hx⟩ hempty => ?still, fun u f ⟨hst, hi, hx⟩ hflush => ?closed⟩
  case playing =>
    have hexec := hrow _ hst (by decide)
    rw [keyActs_playing _ (pressed_lineIn _ _ hst)] at hexec
    have htaken := stopPlaying_taken (pressed_keyTaken s l (.stop l) .k2)
    exact ⟨_, hexec, by simp [playingKey, stopPlaying, goto, cutOff], by simp [playingKey, stopPlaying, goto, cutOff],
      by simp [playingKey, stopPlaying, goto, cutOff], rfl, rfl, htaken.recognised, htaken.only.sameUnits⟩
  case still =>
    have hflush : s.flushAtKey l (.stop l) .k2 = ((s.pressed l (.stop l) .k2).dropTouched l, none) := by
      rw [flushAtKey, hempty]
      rfl
    obtain ⟨hline, hquiet, -, hletter, hdiscarded, hcoder, -, -, -, -, ⟨hbytes, hletters, -, -⟩, hrecognised⟩ :=
      passEnded_of_flush hi hflush
    have hall : (s.lines[l].hold.filter fun h => h.toneTouched) = s.lines[l].hold := by
      refine List.filter_eq_self.mpr fun h hh => ?_
      by_contra hnot
      have hmem : h ∈ s.lines[l].hold.filter fun h => !h.toneTouched := List.mem_filter.mpr ⟨hh, by simpa using hnot⟩
      rw [hempty] at hmem
      cases hmem
    rw [hall] at hdiscarded
    exact ⟨_, hclosing hst, hline, hletter x hx, hquiet rfl, hdiscarded, hcoder, hrecognised, hletters, hbytes⟩
  case closed =>
    obtain ⟨hline, hquiet, hfailed, hletter, hdiscarded, hcoder, -, -, -, -, hdone, hrecognised⟩ :=
      passEnded_of_flush hi hflush
    exact ⟨_, hclosing hst, hline, hquiet, hfailed, hletter, hdiscarded, hcoder, hdone, hrecognised⟩

end Sys2Proof.Machine.State
end

section
/-! Record, Play, the cursor keys and the mark keys (R11, R20, R22 to R24, R80 to R83). -/

namespace Sys2Proof.Machine.State

variable {s : State} {l : LineNo} {i : LetterIx} {x : Letter}

/-! ### Keys that work in READY and PLAYING alike -/

theorem playingKey_ready {k : Key} (h : k = .k1 ∨ k = .k4 ∨ k = .k5 ∨ k = .kB ∨ k = .k0 ∨ k = .kC) :
    s.playingKey l k = s.readyKey l k := by
  rcases h with rfl | rfl | rfl | rfl | rfl | rfl <;> rfl

/-- A key row of the key works as in READY, in READY and in PLAYING. -/
theorem keyRow_work {c : Instr} {k : Key} (hrow : exec c s = .next ((s.taken c).keyRecognised l k))
    (hfree : s.KeyFree l) (hw : s.Works l .ready i x ∨ s.Works l .playing i x)
    (hk : k = .k1 ∨ k = .k4 ∨ k = .k5 ∨ k = .kB ∨ k = .k0 ∨ k = .kC) :
    exec c s = .next ((s.pressed l c k).readyKey l k) ∧ (s.pressed l c k).lineLetter l = some (i, x) := by
  rcases hw with ⟨hst, hi, hx⟩ | ⟨hst, hi, hx⟩
  · rw [keyRow_acts hrow hfree hst (by decide), keyActs_ready k (pressed_lineIn _ k hst)]
    exact ⟨rfl, lineLetter_pressed c k hi hx⟩
  · rw [keyRow_acts hrow hfree hst (by decide), keyActs_playing k (pressed_lineIn _ k hst), playingKey_ready hk]
    exact ⟨rfl, lineLetter_pressed c k hi hx⟩

theorem works_letter (hw : s.Works l .ready i x ∨ s.Works l .playing i x) : s.letters[i] = some x := by
  rcases hw with ⟨-, -, hx⟩ | ⟨-, -, hx⟩ <;> exact hx

/-! A key in READY on the attached letter (R80). -/

section

variable (h : s.lineLetter l = some (i, x))

include h

theorem readyKey_k1 : s.readyKey l .k1 = s.record l i x := by rw [readyKey, h]

theorem readyKey_k3 : s.readyKey l .k3 = s.play l x := by rw [readyKey, h]

theorem readyKey_wind (w : Wind) : s.readyKey l (windKey w) = s := by
  rw [readyKey, h]
  cases w <;> rfl

theorem readyKey_mark {k : Key} (hk : k = .k6 ∨ k = .k7 ∨ k = .k8) : s.readyKey l k = s.markKey l i k := by
  rw [readyKey, h]
  rcases hk with rfl | rfl | rfl <;> rfl

theorem readyKey_k0 : s.readyKey l .k0 = s.moveCursor i fun _ _ => 0 := by rw [readyKey, h]

theorem readyKey_kB : s.readyKey l .kB = s.moveCursor i fun _ n => n := by rw [readyKey, h]

theorem readyKey_k9 : s.readyKey l .k9 = s.endLetter l i x := by rw [readyKey, h]

theorem readyKey_kC : s.readyKey l .kC = s.discard l i x := by rw [readyKey, h]

theorem readyKey_kD : s.readyKey l .kD = s.holdKey l i := by rw [readyKey, h]

end

/-- A key has been recognised since `s`, and since `v` only the line's own parts, its Coder and entry `i` may have
changed. -/
structure KeyWorked (l : LineNo) (k : Key) (i : LetterIx) (s v t : State) : Prop where
  recognised : Recognised l k s t
  letters : OtherLetters i v t
  units : SameUnits v t

theorem Recognised.worked {k : Key} {v : State} (h : Recognised l k s v) (i : LetterIx) : KeyWorked l k i s v v :=
  ⟨h, fun _ _ => rfl, ⟨rfl, rfl, rfl, rfl, rfl, rfl⟩⟩

theorem pressed_keyWorked (s : State) (l : LineNo) (c : Instr) (k : Key) (i : LetterIx) :
    KeyWorked l k i s s (s.pressed l c k) :=
  ⟨(pressed_keyTaken s l c k).recognised, fun _ _ => rfl, (pressed_keyTaken s l c k).only.sameUnits⟩

namespace KeyWorked

variable {k : Key} {v t : State}

theorem onLetter (h : KeyWorked l k i s v t) (f : Letter → Letter) : KeyWorked l k i s v (t.onLetter i f) where
  recognised := h.recognised
  letters := fun j hj => (onLetter_other t hj f).trans (h.letters j hj)
  units := h.units

theorem onCoder (h : KeyWorked l k i s v t) (f : Coder → Coder) : KeyWorked l k i s v (t.onCoder l f) where
  recognised := by
    obtain ⟨hdown, hkey, hothers, houtside⟩ := h.recognised
    refine ⟨hdown, hkey, fun m hm => ?_, houtside⟩
    obtain ⟨hl, hc, ht, hp⟩ := hothers m hm
    exact ⟨hl, (onCoder_other t hm f).trans hc, ht, hp⟩
  letters := h.letters
  units := h.units

theorem onLine (h : KeyWorked l k i s v t) (f : Line → Line) (hf : ∀ c, (f c).key = c.key) :
    KeyWorked l k i s v (t.onLine l f) where
  recognised := by
    obtain ⟨hdown, hkey, hothers, houtside⟩ := h.recognised
    refine ⟨hdown, by rw [onLine_same, hf, hkey], fun m hm => ?_, houtside⟩
    obtain ⟨hl, hc, ht, hp⟩ := hothers m hm
    exact ⟨(onLine_other t hm f).trans hl, hc, ht, hp⟩
  letters := h.letters
  units := h.units

theorem onPort (h : KeyWorked l k i s v t) (f : Port → Port) : KeyWorked l k i s v (t.onPort l f) where
  recognised := by
    obtain ⟨hdown, hkey, hothers, houtside⟩ := h.recognised
    refine ⟨hdown, hkey, fun m hm => ?_, houtside⟩
    obtain ⟨hl, hc, ht, hp⟩ := hothers m hm
    exact ⟨hl, hc, ht, (onPort_other t hm f).trans hp⟩
  letters := h.letters
  units := h.units

theorem prompt (h : KeyWorked l k i s v t) (p : Prompt) : KeyWorked l k i s v (t.prompt l p) where
  recognised := by
    obtain ⟨hdown, hkey, hothers, houtside⟩ := h.recognised
    refine ⟨by simpa using hdown, hkey, fun m hm => ?_, houtside⟩
    obtain ⟨hl, hc, ht, hp⟩ := hothers m hm
    obtain ⟨kl, kt, kp⟩ := ((OnlyLine.refl (l := l) t).prompt p).others m hm
    exact ⟨kl.trans hl, hc, kt.trans ht, kp.trans hp⟩
  letters := h.letters
  units := h.units

end KeyWorked

/-! ### Record and Play (R11, R66) -/

theorem record_of_lt (h : x.passCount < 255) : s.record l i x = (s.cutOff l).startPass l i :=
  if_neg (by rw [Config.lastPass]; omega)

theorem record_of_le (h : 255 ≤ x.passCount) : s.record l i x = s.refuse l := if_pos h

theorem play_of_lt (h : x.cursor < x.length) : s.play l x = s.goto l .playing := if_neg (by omega)

theorem play_of_le (h : x.length ≤ x.cursor) : s.play l x = s.endPlayback l := if_pos h

theorem line_withState {c : Line} {st : LineState} (h : c.state = st) : { c with state := st } = c := by
  subst h
  rfl

theorem passEnded_recognised {k : Key} {f : Option PassFail} {u v : State} (h : PassEnded l i k f s u v) :
    Recognised l k s v := by
  obtain ⟨-, -, -, -, -, -, -, -, -, -, -, hrecognised⟩ := h
  exact hrecognised

/-- Settles O22: Record starts a pass or is refused; Play starts, or ends at once, in RECORDING after the pass. -/
theorem recordAndPlayStart : Obligations.RecordAndPlayStart := by
  unfold Obligations.RecordAndPlayStart
  refine ⟨fun s l i x hfree hw => ⟨fun hcount => ?start, fun hcount => ?full⟩,
    fun s l i x hfree => ⟨fun ⟨hst, hi, hx⟩ hlt => ?plays, fun ⟨hst, hi, hx⟩ hle => ?ends,
      fun u f ⟨hst, hi, hx⟩ hflush => ?closes⟩⟩
  case start =>
    obtain ⟨hexec, hletter⟩ := keyRow_work (c := .record l) rfl hfree hw (by decide)
    rw [readyKey_k1 hletter, record_of_lt hcount] at hexec
    have hx' : s.letters[i.val] = some x := works_letter hw
    have hworked := (((pressed_keyWorked s l (.record l) .k1 i).onPort fun p => { p with outbound := none }).onLetter
      fun x => { x with
        passCount := x.passCount + 1
        pass := some ⟨x.passCount + 1, x.mode, if x.instrNext then .instruction else .dictation⟩
        instrNext := false })
    have hwork := (hworked.onLine (fun c => { c with state := .recording, hold := [], autoRun := 0 }) fun _ => rfl).onCoder
      fun _ => .reset
    refine ⟨_, hexec, ?_, ?_, ?_, ?_, ?_, hwork.recognised, hwork.letters, hwork.units⟩
    · simp [startPass, cutOff]
    · simp [startPass, cutOff, pressed, toneRecognised, taken, hx']
    · simp [startPass]
    · simp [startPass, cutOff]
    · simp [startPass, cutOff]
  case full =>
    obtain ⟨hexec, hletter⟩ := keyRow_work (c := .record l) rfl hfree hw (by decide)
    rw [readyKey_k1 hletter, record_of_le hcount] at hexec
    obtain ⟨hsounds, hrecognised, hletters, hunits⟩ := (pressed_keyTaken s l (.record l) .k1).prompted .refused
    exact ⟨_, hexec, by simp [refuse], hsounds, hletters, rfl, hrecognised, hunits⟩
  case plays =>
    have hexec := keyRow_acts (c := .play l) rfl hfree hst (by decide)
    rw [keyActs_ready _ (pressed_lineIn _ _ hst), readyKey_k3 (lineLetter_pressed _ _ hi hx), play_of_lt hlt] at hexec
    have htaken := (pressed_keyTaken s l (.play l) .k3).onLine (fun c => { c with state := .playing }) fun _ => rfl
    exact ⟨_, hexec, by simp [goto], by simp [goto], rfl, rfl, htaken.recognised, htaken.only.sameUnits⟩
  case ends =>
    have hexec := keyRow_acts (c := .play l) rfl hfree hst (by decide)
    rw [keyActs_ready _ (pressed_lineIn _ _ hst), readyKey_k3 (lineLetter_pressed _ _ hi hx), play_of_le hle] at hexec
    have htaken := (pressed_keyTaken s l (.play l) .k3).onLine (fun c => { c with state := .ready }) fun _ => rfl
    obtain ⟨hsounds, hrecognised, hletters, hunits⟩ := htaken.prompted .ending
    exact ⟨_, hexec, by simp [endPlayback, goto], hsounds, hletters, rfl, hrecognised, hunits⟩
  case closes =>
    have hended := passEnded_of_flush hi hflush
    obtain ⟨y, hy, hletter⟩ := passEnded_letter hi hx hflush
    have hexec := keyRow_acts (c := .play l) rfl hfree hst (by decide)
    rw [keyActs_recording _ (pressed_lineIn _ _ hst)] at hexec
    change _ = Host.Outcome.next ((((s.pressed l (.play l) .k3).dropTouched l).closePass l none).readyKey l .k3) at hexec
    generalize ((s.pressed l (.play l) .k3).dropTouched l).closePass l none = v at hended hy hletter hexec
    rw [readyKey_k3 hletter] at hexec
    have hready : v.lines[l].state = .ready := by
      obtain ⟨hline, -⟩ := hended
      rw [hline]
    have hworked := (passEnded_recognised hended).worked i
    by_cases hlt : y.cursor < y.length
    · rw [play_of_lt hlt] at hexec
      have hwork := hworked.onLine (fun c => { c with state := .playing }) fun _ => rfl
      exact ⟨_, v, y, hended, hy, hexec, fun _ => ⟨by simp [goto], rfl⟩, fun hle => absurd hlt (by omega), rfl, rfl,
        hwork.recognised, hwork.units⟩
    · rw [play_of_le (by omega)] at hexec
      have hwork := (hworked.onLine (fun c => { c with state := .ready }) fun _ => rfl).prompt .ending
      refine ⟨_, v, y, hended, hy, hexec, fun h => absurd h hlt, fun _ => ⟨?_, prompt_sounds _ l .ending⟩, rfl, rfl,
        hwork.recognised, hwork.units⟩
      have hline : (v.endPlayback l).lines[l] = { v.lines[l] with state := .ready } := by simp [endPlayback, goto]
      rw [hline, line_withState hready]

/-! ### The cursor (R20) -/

theorem moveCursor_letter (f : Nat → Nat → Nat) (hx : s.letters[i] = some x) :
    (s.moveCursor i f).letters[i] = some { x with cursor := f x.cursor x.length } := by
  rw [moveCursor, onLetter_same, hx]
  rfl

theorem KeyWorked.moveCursor {k : Key} {v t : State} (h : KeyWorked l k i s v t) (f : Nat → Nat → Nat) :
    KeyWorked l k i s v (t.moveCursor i f) := h.onLetter _

theorem keyWind_windKey (w : Wind) : keyWind (windKey w) = some w := by cases w <;> rfl

/-- A key that is down and was taken by the line is released. -/
theorem keyReleased_taken {k : Key} (hdown : s.tones[l].keyDown = some k) (hkey : s.lines[l].key = some k) :
    s.keyReleased l k = (keyWind k).elim ((s.toneReleased l).onLine l fun c => { c with key := none })
      (((s.toneReleased l).onLine l fun c => { c with key := none }).windReleased l · s.tones[l].heldMark) := by
  have hkey' : (s.toneReleased l).lines[l].key = some k := hkey
  simp only [keyReleased, if_pos hdown, if_pos hkey']
  cases keyWind k <;> rfl

/-- The state when a key has been released and the line has let it go. -/
def letKeyGo (s : State) (l : LineNo) : State := (s.toneReleased l).onLine l fun c => { c with key := none }

@[simp] theorem letKeyGo_lines (s : State) (l : LineNo) :
    (s.letKeyGo l).lines = s.lines.set l { s.lines[l] with key := none } := rfl

@[simp] theorem letKeyGo_tones (s : State) (l : LineNo) : (s.letKeyGo l).tones =
    s.tones.set l { s.tones[l] with keyDown := none, heldMark := false, downRun := 0, gapRun := 0 } := rfl

theorem letKeyGo_only {t : State} (h : OnlyLine l s t) : OnlyLine l s (t.letKeyGo l) :=
  (h.onTone fun t => { t with keyDown := none, heldMark := false, downRun := 0, gapRun := 0 }).onLine fun c =>
    { c with key := none }

/-- A wind key that is down and was taken by the line is released. -/
theorem keyReleased_wind {w : Wind} (hdown : s.tones[l].keyDown = some (windKey w))
    (hkey : s.lines[l].key = some (windKey w)) :
    s.keyReleased l (windKey w) = (s.letKeyGo l).windReleased l w s.tones[l].heldMark := by
  rw [keyReleased_taken hdown hkey, keyWind_windKey]
  rfl

/-- A short press of a wind key moves the cursor (R81). -/
theorem windReleased_short (w : Wind) (hst : s.LineIn l .ready ∨ s.LineIn l .playing)
    (hletter : s.lineLetter l = some (i, x)) :
    s.windReleased l w false = s.moveCursor i (windCursor w 100) := by
  unfold windReleased
  rcases hst with hst | hst <;> rw [hst] <;> dsimp only <;> rw [hletter] <;> rfl

/-- The cursor step of a wind key in WINDING (R20, R81). -/
theorem windStepNow_wind {w : Wind} (hkey : s.lines[l].key = some (windKey w)) (hletter : s.lineLetter l = some (i, x)) :
    s.windStepNow l = (s.onLine l fun c => { c with windTimer := some 20 }).moveCursor i (windCursor w 5) := by
  have hi : (s.onLine l fun c => { c with windTimer := some Config.windMs }).lineLetter l = some (i, x) := by
    rw [← hletter, lineLetter, lineLetter, onLine_same]
    rfl
  have hk : (s.onLine l fun c => { c with windTimer := some Config.windMs }).lines[l].key.bind keyWind = some w := by
    rw [onLine_same, ← keyWind_windKey w]
    exact congrArg (Option.bind · keyWind) hkey
  simp only [windStepNow, hi, hk]
  rfl

end Sys2Proof.Machine.State
end

section
/-! The cursor keys, winding and the mark keys, settled (R20, R22 to R24, R81, R82). -/

namespace Sys2Proof.Machine.State

variable {s : State} {l : LineNo} {i : LetterIx} {x : Letter}

/-- The Settings of a line whose pass a key has ended are the station's. -/
theorem keyRow_closes_settings {c : Instr} {k : Key} {u : State} {f : Option PassFail}
    (hrow : exec c s = .next ((s.taken c).keyRecognised l k))
    (hfree : s.KeyFree l) (hw : s.Works l .recording i x)
    (hk : k = .k3 ∨ k = .kB ∨ k = .k0 ∨ k = .k9 ∨ k = .kC ∨ k = .kD) (hflush : s.flushAtKey l c k = (u, f)) :
    ∃ v y, PassEnded l i k f s u v ∧ v.letters[i] = some y ∧ v.lineLetter l = some (i, y) ∧
      exec c s = .next (v.readyKey l k) ∧ v.bus.ctl.settings = s.bus.ctl.settings := by
  obtain ⟨hst, hi, hx⟩ := hw
  obtain ⟨y, hy, hletter⟩ := passEnded_letter hi hx hflush
  have hi' : ((s.pressed l c k).dropTouched l).lines[l].attached = some i := by simpa using hi
  have hctl := (closePass_closed hi' (dropTouched_flush hflush) none).ctl
  refine ⟨_, y, passEnded_of_flush hi hflush, hy, hletter, ?_, by rw [hctl]; rfl⟩
  rw [keyRow_acts hrow hfree hst (by decide), keyActs_recording _ (pressed_lineIn _ _ hst)]
  rcases hk with rfl | rfl | rfl | rfl | rfl | rfl <;> rfl

/-- A key of RECORDING that ends the pass and acts again in READY (R82). -/
theorem keyRow_closes {c : Instr} {k : Key} {u : State} {f : Option PassFail}
    (hrow : exec c s = .next ((s.taken c).keyRecognised l k)) (hfree : s.KeyFree l) (hw : s.Works l .recording i x)
    (hk : k = .k3 ∨ k = .kB ∨ k = .k0 ∨ k = .k9 ∨ k = .kC ∨ k = .kD) (hflush : s.flushAtKey l c k = (u, f)) :
    ∃ v y, PassEnded l i k f s u v ∧ v.letters[i] = some y ∧ v.lineLetter l = some (i, y) ∧
      exec c s = .next (v.readyKey l k) := by
  obtain ⟨v, y, hended, hy, hletter, hexec, -⟩ := keyRow_closes_settings hrow hfree hw hk hflush
  exact ⟨v, y, hended, hy, hletter, hexec⟩

/-- Settles O24: each key moves the cursor of the attached letter alone; in RECORDING the pass ends first. -/
theorem cursorMoves : Obligations.CursorMoves := by
  unfold Obligations.CursorMoves
  intro s l i x
  refine ⟨fun hw hfree => ⟨?start, ?toEnd⟩, fun w hw hdown hmark hkey => ?short, fun w ⟨hst, hi, hx⟩ hkey htimer => ?step,
    fun u f hw hfree => ⟨fun hflush => ?startClosing, fun hflush => ?endClosing⟩⟩
  case start =>
    obtain ⟨hexec, hletter⟩ := keyRow_work (c := .goToStart l) rfl hfree hw (by decide)
    rw [readyKey_k0 hletter] at hexec
    have hx := works_letter hw
    have hwork := (pressed_keyWorked s l (.goToStart l) .k0 i).moveCursor fun _ _ => 0
    exact ⟨_, hexec, moveCursor_letter _ hx, by simp [moveCursor], hwork.recognised, hwork.letters, rfl, rfl,
      hwork.units⟩
  case toEnd =>
    obtain ⟨hexec, hletter⟩ := keyRow_work (c := .goToEnd l) rfl hfree hw (by decide)
    rw [readyKey_kB hletter] at hexec
    have hx := works_letter hw
    have hwork := (pressed_keyWorked s l (.goToEnd l) .kB i).moveCursor fun _ n => n
    exact ⟨_, hexec, moveCursor_letter _ hx, by simp [moveCursor], hwork.recognised, hwork.letters, rfl, rfl,
      hwork.units⟩
  case short =>
    have hst : s.LineIn l .ready ∨ s.LineIn l .playing := hw.imp And.left And.left
    have hi : s.lines[l].attached = some i := by rcases hw with ⟨-, hi, -⟩ | ⟨-, hi, -⟩ <;> exact hi
    have hx := works_letter hw
    have hreleased := keyReleased_wind (s := s.taken (.windShortPress l w)) hdown hkey
    have hletter : ((s.taken (.windShortPress l w)).letKeyGo l).lineLetter l = some (i, x) :=
      lineLetter_of_attached (by simpa using hi) hx
    have hmark' : (s.taken (.windShortPress l w)).tones[l].heldMark = false := hmark
    have hst' : ((s.taken (.windShortPress l w)).letKeyGo l).LineIn l .ready ∨
        ((s.taken (.windShortPress l w)).letKeyGo l).LineIn l .playing := by
      refine hst.imp ?_ ?_ <;> intro h <;> simpa [LineIn] using h
    rw [hmark', windReleased_short w hst' hletter] at hreleased
    have honly := letKeyGo_only (OnlyLine.taken (l := l) (s := s) (.windShortPress l w))
    refine ⟨_, congrArg Host.Outcome.next hreleased, ?_, by simp [moveCursor], by simp [moveCursor],
      by simp [moveCursor], honly.otherLines, fun j hj => onLetter_other _ hj _, honly.sameUnits, honly.sameOutside⟩
    refine (moveCursor_letter _ hx).trans ?_
    cases w <;> rfl
  case step =>
    have hexec : exec (.windStep l) s = .next ((s.taken (.windStep l)).windStepNow l) :=
      congrArg Host.Outcome.next (if_pos ⟨hst, Option.isSome_iff_ne_none.mpr htimer⟩)
    rw [windStepNow_wind (s := s.taken (.windStep l)) hkey (lineLetter_of_attached hi hx)] at hexec
    have honly := (OnlyLine.taken (l := l) (s := s) (.windStep l)).onLine fun c => { c with windTimer := some 20 }
    refine ⟨_, hexec, ?_, by simp [moveCursor], honly.otherLines, fun j hj => onLetter_other _ hj _, rfl, rfl, rfl,
      honly.sameUnits, honly.sameOutside⟩
    refine (moveCursor_letter _ hx).trans ?_
    cases w <;> rfl
  case startClosing =>
    obtain ⟨v, y, hended, hy, hletter, hexec⟩ := keyRow_closes (c := .goToStart l) rfl hfree hw (by decide) hflush
    rw [readyKey_k0 hletter] at hexec
    have hwork := ((passEnded_recognised hended).worked i).moveCursor fun _ _ => 0
    obtain ⟨-, -, -, houtside⟩ := hwork.recognised
    exact ⟨_, v, y, hended, hy, hexec, moveCursor_letter _ hy, rfl, rfl, rfl, rfl, hwork.letters, hwork.units, houtside⟩
  case endClosing =>
    obtain ⟨v, y, hended, hy, hletter, hexec⟩ := keyRow_closes (c := .goToEnd l) rfl hfree hw (by decide) hflush
    rw [readyKey_kB hletter] at hexec
    have hwork := ((passEnded_recognised hended).worked i).moveCursor fun _ n => n
    obtain ⟨-, -, -, houtside⟩ := hwork.recognised
    exact ⟨_, v, y, hended, hy, hexec, moveCursor_letter _ hy, rfl, rfl, rfl, rfl, hwork.letters, hwork.units, houtside⟩

/-! ### Winding (R81) -/

theorem keyHeld_first {k : Key} (hdown : s.tones[l].keyDown = some k) (hmark : s.tones[l].heldMark = false) :
    s.keyHeld l k =
      if s.lines[l].key = some k ∧ (keyWind k).isSome = true then
        match s.lines[l].state with
        | .ready => (s.onTone l fun t => { t with heldMark := true, downRun := 4800 }).startWinding l .ready
        | .playing => (s.onTone l fun t => { t with heldMark := true, downRun := 4800 }).startWinding l .playing
        | _ => s.onTone l fun t => { t with heldMark := true, downRun := 4800 }
      else s.onTone l fun t => { t with heldMark := true, downRun := 4800 } := by
  unfold keyHeld
  rw [if_pos ⟨hdown, hmark⟩]
  rfl

/-- A wind key held starts winding from READY and from PLAYING. -/
theorem keyHeld_winds {w : Wind} {st : LineState} {r : ReturnState} (hdown : s.tones[l].keyDown = some (windKey w))
    (hmark : s.tones[l].heldMark = false) (hkey : s.lines[l].key = some (windKey w)) (hst : s.LineIn l st)
    (hr : (st = .ready ∧ r = .ready) ∨ (st = .playing ∧ r = .playing)) : s.keyHeld l (windKey w) =
      (s.onTone l fun t => { t with heldMark := true, downRun := 4800 }).startWinding l r := by
  rw [keyHeld_first hdown hmark, if_pos ⟨hkey, by rw [keyWind_windKey]; rfl⟩, hst]
  rcases hr with ⟨rfl, rfl⟩ | ⟨rfl, rfl⟩ <;> rfl

theorem startWinding_only {t : State} (h : OnlyLine l s t) (r : ReturnState) : OnlyLine l s (t.startWinding l r) :=
  ((h.cancel (.windStep l)).onLine fun c => { c with state := .winding, ret := some r, windTimer := some 20 }).onPort
    fun p => { p with outbound := none }

/-- Winding from a state a wind key acts in. -/
theorem windHeld_starts {w : Wind} {st : LineState} {r : ReturnState} (hdown : s.tones[l].keyDown = some (windKey w))
    (hmark : s.tones[l].heldMark = false) (hkey : s.lines[l].key = some (windKey w)) (hst : s.LineIn l st)
    (hr : (st = .ready ∧ r = .ready) ∨ (st = .playing ∧ r = .playing)) : ∃ t, exec (.windHeld l w) s = .next t ∧
      t.lines[l] = { s.lines[l] with state := .winding, ret := some r, windTimer := some 20 } ∧
      t.tones[l].heldMark = true ∧ t.ports[l].outbound = none ∧ t.letters = s.letters ∧ OtherLines l s t ∧
      SameUnits s t ∧ SameOutside s t := by
  have honly := startWinding_only ((OnlyLine.taken (l := l) (s := s) (.windHeld l w)).onTone fun t =>
    { t with heldMark := true, downRun := 4800 }) r
  exact ⟨_, congrArg Host.Outcome.next (keyHeld_winds (s := s.taken (.windHeld l w)) hdown hmark hkey hst hr),
    by simp [startWinding, cutOff, Config.windMs], by simp [startWinding, cutOff], by simp [startWinding, cutOff], rfl,
    honly.otherLines, honly.sameUnits, honly.sameOutside⟩

/-- The line leaves WINDING for its return state. -/
def unwind (s : State) (l : LineNo) (st : LineState) : State :=
  s.onLine l fun c => { c with state := st, ret := none, windTimer := none }

@[simp] theorem unwind_lines (s : State) (l : LineNo) (st : LineState) : (s.unwind l st).lines =
    s.lines.set l { s.lines[l] with state := st, ret := none, windTimer := none } := rfl

theorem endWinding_ready (h : s.lines[l].ret = some .ready) : s.endWinding l = s.unwind l .ready := by
  rw [endWinding, h]
  rfl

theorem endWinding_playing (h : s.lines[l].ret = some .playing) (hi : s.lines[l].attached = some i)
    (hx : s.letters[i] = some x) : s.endWinding l =
      if x.length ≤ x.cursor then (s.unwind l .playing).endPlayback l else s.unwind l .playing := by
  have hletter : (s.unwind l .playing).lineLetter l = some (i, x) := lineLetter_of_attached (by simpa using hi) hx
  rw [endWinding, h]
  change (if ((s.unwind l .playing).lineLetter l).any (fun p => p.2.length ≤ p.2.cursor) = true then
    (s.unwind l .playing).endPlayback l else s.unwind l .playing) = _
  rw [hletter]
  simp

/-- The release of a wind key in WINDING. -/
theorem exec_windRelease {w : Wind} (hdown : s.tones[l].keyDown = some (windKey w))
    (hkey : s.lines[l].key = some (windKey w)) (hst : s.LineIn l .winding) :
    exec (.windRelease l w) s = .next (((s.taken (.windRelease l w)).letKeyGo l).endWinding l) := by
  have hst' : ((s.taken (.windRelease l w)).letKeyGo l).lines[l].state = .winding := by simpa [LineIn] using hst
  refine congrArg Host.Outcome.next ((keyReleased_wind (s := s.taken (.windRelease l w)) hdown hkey).trans ?_)
  rw [windReleased, hst']

/-- Settles O25: the key held starts winding; its release returns, or ends playback at the length. -/
theorem winding : Obligations.Winding := by
  unfold Obligations.Winding
  intro s l i x w hdown hkey
  have hgone := letKeyGo_only (OnlyLine.taken (l := l) (s := s) (.windRelease l w))
  have hret : ∀ r, s.lines[l].ret = r → ((s.taken (.windRelease l w)).letKeyGo l).lines[l].ret = r := fun r h => by
    simpa using h
  have hattached : s.lines[l].attached = some i →
      ((s.taken (.windRelease l w)).letKeyGo l).lines[l].attached = some i := fun h => by simpa using h
  refine ⟨fun ⟨hst, hi, hx⟩ hmark => ?ready, fun ⟨hst, hi, hx⟩ hmark => ?playing, fun ⟨hst, hi, hx⟩ hr => ?back,
    fun ⟨hst, hi, hx⟩ hr hlt => ?on, fun ⟨hst, hi, hx⟩ hr hle => ?ends⟩
  case ready =>
    obtain ⟨t, hexec, hline, htone, -, hrest⟩ := windHeld_starts (r := .ready) hdown hmark hkey hst (.inl ⟨rfl, rfl⟩)
    exact ⟨t, hexec, hline, htone, hrest⟩
  case playing => exact windHeld_starts hdown hmark hkey hst (.inr ⟨rfl, rfl⟩)
  case back =>
    have hexec := exec_windRelease hdown hkey hst
    rw [endWinding_ready (hret _ hr)] at hexec
    have honly := hgone.onLine fun c => { c with state := .ready, ret := none, windTimer := none }
    exact ⟨_, hexec, by simp, by simp [unwind], by simp [unwind], rfl, honly.otherLines, honly.sameUnits,
      honly.sameOutside⟩
  case on =>
    have hexec := exec_windRelease hdown hkey hst
    rw [endWinding_playing (hret _ hr) (hattached hi) hx, if_neg (by omega)] at hexec
    have honly := hgone.onLine fun c => { c with state := .playing, ret := none, windTimer := none }
    exact ⟨_, hexec, by simp, by simp [unwind], by simp [unwind], rfl, honly.otherLines, honly.sameUnits,
      honly.sameOutside⟩
  case ends =>
    have hexec := exec_windRelease hdown hkey hst
    rw [endWinding_playing (hret _ hr) (hattached hi) hx, if_pos hle] at hexec
    have honly := ((hgone.onLine fun c => { c with state := .playing, ret := none, windTimer := none }).onLine
      fun c => { c with state := .ready }).prompt .ending
    exact ⟨_, hexec, by simp [endPlayback, goto], prompt_sounds _ l .ending, rfl, honly.otherLines, honly.sameUnits,
      honly.sameOutside⟩

/-! ### The mark keys (R22 to R24) -/

/-- With no tone-touched slice waiting a key of RECORDING discards none. -/
theorem dropTouched_of_untouched (h : (s.lines[l].hold.all fun h => !h.toneTouched) = true) : s.dropTouched l = s := by
  have hkeep : s.lines[l].hold.filter (!·.toneTouched) = s.lines[l].hold :=
    List.filter_eq_self.mpr fun x hx => List.all_eq_true.mp h x hx
  have hnone : s.lines[l].hold.filter (·.toneTouched) = [] :=
    List.filter_eq_nil_iff.mpr fun x hx => by simpa using List.all_eq_true.mp h x hx
  have hline : (s.onLine l fun c => { c with hold := c.hold.filter (!·.toneTouched) }) = s := by
    change { s with lines := s.lines.set l { s.lines[l] with hold := s.lines[l].hold.filter (!·.toneTouched) } } = s
    rw [hkeep]
    exact congrArg (fun v => { s with lines := v }) (Vector.set_getElem_self _)
  simp only [dropTouched, hline, hnone]
  simp [count, onBus, Bus.count]

theorem recordingKey_mark {k : Key} (huntouched : (s.lines[l].hold.all fun h => !h.toneTouched) = true)
    (hletter : s.lineLetter l = some (i, x)) (hk : k = .k6 ∨ k = .k7 ∨ k = .k8) :
    s.recordingKey l k = s.markKey l i k := by
  rcases hk with rfl | rfl | rfl <;>
    simp only [recordingKey, dropTouched_of_untouched huntouched, hletter]

/-- A mark key in READY, and in RECORDING with no tone-touched slice waiting. -/
theorem keyRow_mark {c : Instr} {k : Key} (hrow : exec c s = .next ((s.taken c).keyRecognised l k))
    (hfree : s.KeyFree l) (hk : k = .k6 ∨ k = .k7 ∨ k = .k8)
    (hw : s.Works l .ready i x ∨
      (s.Works l .recording i x ∧ (s.lines[l].hold.all fun h => !h.toneTouched) = true)) :
    s.letters[i] = some x ∧ exec c s = .next ((s.pressed l c k).markKey l i k) := by
  rcases hw with ⟨hst, hi, hx⟩ | ⟨⟨hst, hi, hx⟩, huntouched⟩
  · rw [keyRow_acts hrow hfree hst (by decide), keyActs_ready _ (pressed_lineIn _ _ hst),
      readyKey_mark (lineLetter_pressed c k hi hx) hk]
    exact ⟨hx, rfl⟩
  · rw [keyRow_acts hrow hfree hst (by decide), keyActs_recording _ (pressed_lineIn _ _ hst),
      recordingKey_mark (by simpa using huntouched) (lineLetter_pressed c k hi hx) hk]
    exact ⟨hx, rfl⟩

/-- What a mark key leaves: the letter changed, the Accepted prompt. -/
theorem mark_answers {c : Instr} {k : Key} (f : Letter → Letter)
    (hexec : exec c s = .next (((s.pressed l c k).onLetter i f).prompt l .accepted)) (hx : s.letters[i] = some x) :
    ∃ t, exec c s = .next t ∧ t.letters[i] = some (f x) ∧ t.lines[l] = { s.lines[l] with key := some k } ∧
      t.Sounds l .accepted ∧ Recognised l k s t ∧ OtherLetters i s t ∧ t.coders = s.coders ∧ t.seg = s.seg ∧
      t.nums = s.nums := by
  have hwork := ((pressed_keyWorked s l c k i).onLetter f).prompt .accepted
  refine ⟨_, hexec, ?_, by simp, prompt_sounds _ l .accepted, hwork.recognised, hwork.letters, rfl, rfl, rfl⟩
  refine (onLetter_same (s.pressed l c k) i f).trans ?_
  rw [show (s.pressed l c k).letters[i] = some x from hx]
  rfl

/-- Settles O26: each key changes its own part of the letter. -/
theorem markKeys : Obligations.MarkKeys := by
  unfold Obligations.MarkKeys
  intro s l i x hfree hw
  refine ⟨?toggle, ?instruction, ?priority⟩
  case toggle =>
    obtain ⟨hx, hexec⟩ := keyRow_mark (c := .insertOverwriteToggle l) (k := .k6) rfl hfree (by decide) hw
    exact mark_answers (fun y => { y with mode := if y.mode = .insert then .overwrite else .insert }) hexec hx
  case instruction =>
    obtain ⟨hx, hexec⟩ := keyRow_mark (c := .instructionMark l) (k := .k7) rfl hfree (by decide) hw
    exact mark_answers (fun y => { y with instrNext := true }) hexec hx
  case priority =>
    obtain ⟨hx, hexec⟩ := keyRow_mark (c := .priority l) (k := .k8) rfl hfree (by decide) hw
    exact mark_answers (fun y => { y with priority := if y.priority = .normal then .urgent else .normal }) hexec hx

end Sys2Proof.Machine.State
end

section
/-! Key events, and Discard pass (R19, R71, R81 to R83, R97 to R100). -/

namespace Sys2Proof.Machine.State

variable {s : State} {l : LineNo} {i : LetterIx} {x : Letter}

/-! ### Key events -/

theorem exec_keyReleased_plain {k : Key} (hdown : s.tones[l].keyDown = some k) (hwind : keyWind k = none)
    (hkey : s.lines[l].key = some k) :
    exec (.keyReleased l k) s = .next ((s.taken (.keyReleased l k)).letKeyGo l) := by
  refine congrArg Host.Outcome.next ((keyReleased_taken (s := s.taken (.keyReleased l k)) hdown hkey).trans ?_)
  rw [hwind]
  rfl

theorem exec_keyBecomeHeld_plain {k : Key} (hdown : s.tones[l].keyDown = some k)
    (hmark : s.tones[l].heldMark = false) (hwind : keyWind k = none) :
    exec (.keyBecomeHeld l k) s = .next ((s.taken (.keyBecomeHeld l k)).onTone l fun t =>
      { t with heldMark := true, downRun := 4800 }) := by
  refine congrArg Host.Outcome.next ((keyHeld_first (s := s.taken (.keyBecomeHeld l k)) hdown hmark).trans (if_neg ?_))
  rw [hwind]
  exact fun h => absurd h.2 (by decide)

theorem keyRecognised_free (k : Key) (hfree : s.KeyFree l) : s.keyRecognised l k =
    if (s.toneRecognised l k).lines[l].state = .idle then s.toneRecognised l k
    else ((s.toneRecognised l k).onLine l fun c => { c with key := some k }).keyActs l k := by
  have hsame : s.releaseOld l = s := by
    rw [releaseOld, hfree]
    rfl
  rw [keyRecognised_eq, hsame]

/-- A key event that the line acts on leaves the key as the release left it. -/
theorem windReleased_keyDown (w : Wind) (held : Bool) :
    (s.windReleased l w held).tones[l].keyDown = s.tones[l].keyDown := by
  unfold windReleased
  split
  · split
    · unfold when
      split <;> rfl
    · rfl
  · split
    · unfold when
      split <;> rfl
    · rfl
  · unfold endWinding
    split
    · dsimp only
      split
      · simp [endPlayback, goto]
      · rfl
    · rfl
  · rfl

/-- A key that was down is released (R98). -/
theorem keyReleased_free {k : Key} (hdown : s.tones[l].keyDown = some k) : (s.keyReleased l k).KeyFree l := by
  have htone : (s.toneReleased l).tones[l].keyDown = none := by simp [toneReleased]
  by_cases hkey : s.lines[l].key = some k
  · rw [keyReleased_taken hdown hkey, KeyFree]
    cases keyWind k with
    | none => exact htone
    | some w => exact (windReleased_keyDown w _).trans htone
  · have hkey' : ¬(s.toneReleased l).lines[l].key = some k := hkey
    simp only [keyReleased, if_pos hdown, if_neg hkey', KeyFree]
    exact htone

/-- Settles O29: releases, keys held, keys in IDLE, and the wind keys by the line's state. -/
theorem keyEvents : Obligations.KeyEvents := by
  unfold Obligations.KeyEvents
  intro s l k
  refine ⟨fun hdown hwind hkey => ?released, fun hdown hmark hwind => ?held, fun hfree hidle => ?ignored,
    fun w i x hfree hw => ?wind, fun old hdown => ?again, fun w i x u f hfree hw hflush => ?closes⟩
  case released =>
    have honly := letKeyGo_only (OnlyLine.taken (l := l) (s := s) (.keyReleased l k))
    exact ⟨_, exec_keyReleased_plain hdown hwind hkey, by simp, by simp, honly.otherLines, rfl, honly.sameUnits,
      honly.sameOutside⟩
  case held =>
    have honly := (OnlyLine.taken (l := l) (s := s) (.keyBecomeHeld l k)).onTone fun t =>
      { t with heldMark := true, downRun := 4800 }
    exact ⟨_, exec_keyBecomeHeld_plain hdown hmark hwind, rfl, by simp, honly.otherLines, rfl, honly.sameUnits,
      honly.sameOutside⟩
  case ignored =>
    have hexec : exec (.keyIgnoredInIdle l k) s = .next ((s.taken (.keyIgnoredInIdle l k)).toneRecognised l k) :=
      congrArg Host.Outcome.next ((keyRecognised_free (s := s.taken (.keyIgnoredInIdle l k)) k hfree).trans
        (if_pos hidle))
    have honly : OnlyLine l s ((s.taken (.keyIgnoredInIdle l k)).toneRecognised l k) := (OnlyLine.taken _).onTone _
    exact ⟨_, hexec, rfl, by simp [toneRecognised], by simp [toneRecognised], honly.otherLines, rfl, honly.sameUnits,
      honly.sameOutside⟩
  case wind =>
    have hk : windKey w = .k1 ∨ windKey w = .k4 ∨ windKey w = .k5 ∨ windKey w = .kB ∨ windKey w = .k0 ∨
        windKey w = .kC := by cases w <;> decide
    obtain ⟨hexec, hletter⟩ := keyRow_work (c := .windKeyRecognised l w) rfl hfree hw hk
    rw [readyKey_wind hletter] at hexec
    have htaken := pressed_keyTaken s l (.windKeyRecognised l w) (windKey w)
    exact ⟨_, hexec, by simp, by simp, htaken.recognised, rfl, rfl, rfl, htaken.only.sameUnits⟩
  case again =>
    have hfree := keyReleased_free hdown
    refine ⟨hfree, ?_⟩
    have hold : s.releaseOld l = s.keyReleased l old := by
      rw [releaseOld, hdown]
      rfl
    rw [keyRecognised_eq, hold, keyRecognised_free k hfree]
  case closes =>
    obtain ⟨hst, hi, hx⟩ := hw
    refine ⟨_, ?_, passEnded_of_flush hi hflush⟩
    rw [keyRow_acts (c := .windKeyRecognised l w) rfl hfree hst (by decide),
      keyActs_recording _ (pressed_lineIn _ _ hst)]
    cases w <;> rfl

/-! ### Discard pass (R19) -/

theorem decRef_poolFree (s : State) (b : Nat) : (s.decRef b).seg.poolFree = s.seg.poolFree := by
  simp only [decRef]
  unfold when
  split
  · rw [freeBlock_poolFree]
    rfl
  · rfl

theorem dropRecords_poolFree (c : List SegRec) (s : State) :
    (dropRecords c s).seg.poolFree = s.seg.poolFree + c.length := by
  induction c generalizing s with
  | nil => rfl
  | cons r c ih =>
    rw [dropRecords, ih, decRef_poolFree, List.length_cons]
    change s.seg.poolFree + 1 + c.length = _
    omega

theorem discard_empty (h : x.chain = []) : s.discard l i x = s.refuse l := if_pos (by rw [h]; rfl)

/-- Block work after a key's work keeps what the key's recognition says. -/
theorem KeyWorked.after_blocks {k : Key} {v t u : State} {n : Nat} (h : KeyWorked l k i s v t) (hb : BlockWork n t u) :
    Recognised l k s u := by
  obtain ⟨hdown, hkey, hothers, houtside⟩ := h.recognised
  refine ⟨by rw [hb.tones]; exact hdown, by rw [hb.lines]; exact hkey, fun m hm => ?_, ?_⟩
  · rw [hb.lines, hb.coders, hb.tones, hb.ports]
    exact hothers m hm
  · rw [hb.only]
    exact houtside

/-- The letter whose highest pass is discarded. -/
def withoutPass (x : Letter) : Letter :=
  { x with
    chain := x.chain.filter fun r => r.pass ≠ highestPass x.chain
    cursor := min (firstOfPass (highestPass x.chain) x.chain)
      (chainLength (x.chain.filter fun r => r.pass ≠ highestPass x.chain)) }

/-- What Discard pass leaves, from any state in which the key has been recognised. -/
theorem discard_answers {k : Key} {v : State} (hworked : KeyWorked l k i s v v) (hx : v.letters[i] = some x)
    (hne : x.chain ≠ []) :
    (v.discard l i x).letters[i] = some (withoutPass x) ∧
      (v.discard l i x).seg.poolFree =
        v.seg.poolFree + (x.chain.filter fun r => r.pass = highestPass x.chain).length ∧
      (v.discard l i x).lines = v.lines ∧ (v.discard l i x).coders = v.coders ∧ (v.discard l i x).Sounds l .accepted ∧
      Recognised l k s (v.discard l i x) ∧ OtherLetters i v (v.discard l i x) ∧ SameBytes v (v.discard l i x) := by
  have hdiscard : v.discard l i x =
      (dropRecords (x.chain.filter fun r => r.pass = highestPass x.chain) (v.onLetter i fun y =>
        { y with chain := (withoutPass x).chain, cursor := (withoutPass x).cursor })).prompt l .accepted :=
    if_neg (by simpa using hne)
  have hletter : (v.onLetter i fun y =>
      { y with chain := (withoutPass x).chain, cursor := (withoutPass x).cursor }).letters[i] = some (withoutPass x) := by
    rw [onLetter_same, hx]
    rfl
  have hedit := hworked.onLetter fun y =>
    { y with chain := (withoutPass x).chain, cursor := (withoutPass x).cursor }
  have hmem : (v.onLetter i fun y =>
      { y with chain := (withoutPass x).chain, cursor := (withoutPass x).cursor }).seg = v.seg := rfl
  have hlines : (v.onLetter i fun y =>
      { y with chain := (withoutPass x).chain, cursor := (withoutPass x).cursor }).lines = v.lines := rfl
  have hcoders : (v.onLetter i fun y =>
      { y with chain := (withoutPass x).chain, cursor := (withoutPass x).cursor }).coders = v.coders := rfl
  rw [hdiscard]
  generalize (v.onLetter i fun y =>
    { y with chain := (withoutPass x).chain, cursor := (withoutPass x).cursor }) = e at *
  have hblocks := dropRecords_work e (x.chain.filter fun r => r.pass = highestPass x.chain)
  have hpool := dropRecords_poolFree (x.chain.filter fun r => r.pass = highestPass x.chain) e
  have hbytes := mem_dropRecords (x.chain.filter fun r => r.pass = highestPass x.chain) e
  generalize dropRecords (x.chain.filter fun r => r.pass = highestPass x.chain) e = d at *
  refine ⟨?_, by rw [← hmem]; exact hpool, ?_, ?_, prompt_sounds d l .accepted, ?_, ?_, ?_⟩
  · exact (congrArg (fun w => w[i]) hblocks.letters).trans hletter
  · exact hblocks.lines.trans hlines
  · exact hblocks.coders.trans hcoders
  · exact (((hedit.after_blocks hblocks).worked i).prompt .accepted).recognised
  · intro j hj
    exact (congrArg (fun w => w[j]) hblocks.letters).trans (hedit.letters j hj)
  · intro a
    exact congrArg (Memory.read · a) (hbytes.trans (congrArg Segment.mem hmem))

/-- Settles O28: the highest pass leaves the chain; an empty chain is refused; in RECORDING the pass ends first. -/
theorem passDiscarded : Obligations.PassDiscarded := by
  unfold Obligations.PassDiscarded
  intro s l i x hfree
  refine ⟨fun hw => ⟨fun hne => ?drops, fun hempty => ?refused⟩, fun u f hw hflush => ?closes⟩
  case drops =>
    have hx := works_letter hw
    obtain ⟨hexec, hletter⟩ := keyRow_work (c := .discardPass l) rfl hfree hw (by decide)
    rw [readyKey_kC hletter] at hexec
    obtain ⟨hnew, hpool, hlines, -, hsounds, hrecognised, hletters, hbytes⟩ :=
      discard_answers ((pressed_keyTaken s l (.discardPass l) .kC).recognised.worked i) hx hne
    exact ⟨_, hexec, hnew, hpool, by rw [hlines]; simp, hsounds, hrecognised, hletters, hbytes⟩
  case refused =>
    obtain ⟨hexec, hletter⟩ := keyRow_work (c := .discardPass l) rfl hfree hw (by decide)
    rw [readyKey_kC hletter, discard_empty hempty] at hexec
    obtain ⟨hsounds, hrecognised, hletters, hunits⟩ := (pressed_keyTaken s l (.discardPass l) .kC).prompted .refused
    exact ⟨_, hexec, hletters, by simp [refuse], hsounds, hrecognised, hunits⟩
  case closes =>
    obtain ⟨v, y, hended, hy, hletter, hexec⟩ := keyRow_closes (c := .discardPass l) rfl hfree hw (by decide) hflush
    rw [readyKey_kC hletter] at hexec
    have hworked := (passEnded_recognised hended).worked i
    by_cases hne : y.chain = []
    · rw [discard_empty hne] at hexec
      have hwork := hworked.prompt .refused
      exact ⟨_, v, y, hended, hy, hexec, rfl, hwork.recognised, hwork.letters, fun _ => rfl, rfl,
        fun h => absurd hne h, fun _ => ⟨prompt_sounds v l .refused, rfl, hwork.units⟩⟩
    · obtain ⟨hnew, hpool, hlines, hcoders, hsounds, hrecognised, hletters, hbytes⟩ := discard_answers hworked hy hne
      exact ⟨_, v, y, hended, hy, hexec, hlines, hrecognised, hletters, hbytes, hcoders,
        fun _ => ⟨hsounds, hnew, hpool⟩, fun h => absurd h hne⟩

end Sys2Proof.Machine.State
end

section
/-! The Control Queue, claims, and the letters that wait for a number (R129, R144 to R151, R198). -/

namespace Sys2Proof.Machine.Bus

/-- Only what placed frames and raised events change may differ: the event sequence, the counts of lost events and of
abandoned frames, and the Control Queue. -/
def Queues (b c : Bus) : Prop := c =
  { ctl := { b.ctl with eventSeq := c.ctl.eventSeq }
    counters := { b.counters with
      eventsLost := c.counters.eventsLost, framesAbandoned := c.counters.framesAbandoned }
    link := { b.link with control := c.link.control } }

namespace Queues

variable {b c d : Bus}

theorem refl (b : Bus) : Queues b b := rfl

theorem trans (h : Queues b c) (k : Queues c d) : Queues b d := by
  unfold Queues at *
  rw [k, h]

theorem raise (b : Bus) (e : Event) : Queues b (b.raise e) := by
  rw [raise_parts b e]
  rfl

theorem raises {n : Nat} (h : Raises n b c) : Queues b c := by
  rw [h.parts]
  rfl

theorem place (q : QFrame) (b : Bus) : Queues b (b.place q) := by
  unfold Bus.place
  split
  · rfl
  · split
    · rfl
    · exact trans (c := b.count fun k => { k with framesAbandoned := k.framesAbandoned + 1 }) rfl (raise _ _)

/-! What such work leaves. -/

theorem queued (h : Queues b c) : OnlyQueued b c := by
  rw [h]
  rfl

theorem state (h : Queues b c) : c.ctl.state = b.ctl.state := by rw [h]

theorem settings (h : Queues b c) : c.ctl.settings = b.ctl.settings := by rw [h]

theorem lettersOpened (h : Queues b c) : c.counters.lettersOpened = b.counters.lettersOpened := by rw [h]

end Queues

end Sys2Proof.Machine.Bus

namespace Sys2Proof.Machine.State

variable {s t u : State} {l : LineNo} {i : LetterIx} {x : Letter}

/-! ### Claims (R144, R147, R149) -/

/-- Only the claim, its wait, the mark of the last number and what waits at the link may differ. -/
structure ClaimWork (s t : State) : Prop where
  rest : t = { s with
    bus := t.bus
    nums := { s.nums with
      link := t.nums.link, frame := t.nums.frame, run := t.nums.run, wait := t.nums.wait
      exhausted := t.nums.exhausted }
    reports := t.reports }
  bus : Bus.Queues s.bus t.bus

namespace ClaimWork

theorem refl (s : State) : ClaimWork s s := ⟨rfl, .refl _⟩

theorem trans (h : ClaimWork s t) (k : ClaimWork t u) : ClaimWork s u where
  rest := by
    have hrest := h.rest
    have krest := k.rest
    rw [krest, hrest]
  bus := h.bus.trans k.bus

theorem placed (s : State) (d : Station) (m : Msg) : ClaimWork s (s.place d m) := ⟨rfl, .place _ _⟩

theorem raised (s : State) (e : Event) : ClaimWork s (s.raise e) := ⟨rfl, .raise _ _⟩

/-! What a claim's work leaves. -/

theorem sameLines (h : ClaimWork s t) : SameLines s t := by
  rw [h.rest]
  exact ⟨rfl, rfl, rfl, rfl⟩

theorem letters (h : ClaimWork s t) : t.letters = s.letters := by rw [h.rest]
theorem seg (h : ClaimWork s t) : t.seg = s.seg := by rw [h.rest]
theorem peers (h : ClaimWork s t) : t.peers = s.peers := by rw [h.rest]
theorem xfer (h : ClaimWork s t) : t.xfer = s.xfer := by rw [h.rest]
theorem deliv (h : ClaimWork s t) : t.deliv = s.deliv := by rw [h.rest]
theorem next (h : ClaimWork s t) : t.nums.next = s.nums.next := by rw [h.rest]
theorem waiting (h : ClaimWork s t) : t.nums.waiting = s.nums.waiting := by rw [h.rest]
theorem window (h : ClaimWork s t) : t.nums.window = s.nums.window := by rw [h.rest]

theorem sameWork (h : ClaimWork s t) : SameWork s t := ⟨h.sameLines, h.letters, h.seg, h.xfer, h.deliv⟩

theorem sameOutside (h : ClaimWork s t) : SameOutside s t := by
  rw [h.rest]
  exact ⟨rfl, rfl, rfl, rfl, rfl, rfl, rfl, rfl, rfl⟩

end ClaimWork

theorem placeClaim_work (s : State) : ClaimWork s s.placeClaim := by
  have hplaced : ClaimWork s ((s.onNums fun x => { x with link := some (s.nums.next, true), frame := .queued }).place
      Config.allStations (.numberClaim s.nums.next)) := ⟨rfl, .place _ _⟩
  unfold placeClaim
  dsimp only
  split
  · exact hplaced
  · exact hplaced.trans ⟨rfl, .refl _⟩

theorem exhaust_work (s : State) : ClaimWork s s.exhaust := by
  unfold exhaust
  split
  · exact .refl s
  · exact ⟨rfl, .raise _ _⟩

theorem makeClaim_work (s : State) : ClaimWork s s.makeClaim := by
  unfold makeClaim
  split
  · split
    · exact placeClaim_work s
    · exact exhaust_work s
  · exact .refl s

theorem makeClaim_of_empty (h : s.nums.waiting = []) : s.makeClaim = s := by
  rw [makeClaim, claimDue, h]
  simp

/-- What a claim for the Next Number leaves where the Control Queue has room (R144). -/
def claimed (s : State) : State :=
  (s.onNums fun x => { x with link := some (s.nums.next, true), frame := .queued }).place
    Config.allStations (.numberClaim s.nums.next)

theorem makeClaim_of_room (hact : s.Active) (hwaiting : s.nums.waiting ≠ []) (hlink : s.nums.link = none)
    (hwait : s.nums.wait = none) (hnext : s.nums.next < 16777215) (hroom : s.HasRoom) : s.makeClaim = s.claimed := by
  have hdue : s.claimDue = true := by
    simp [claimDue, isActive, hact, hwaiting, hlink, hwait]
  have hok : s.bus.accepts = true := by simp [Bus.accepts, hroom]
  rw [makeClaim, if_pos hdue, if_pos (show s.nums.next < Config.lastNumber from hnext), placeClaim, if_pos hok]
  rfl

theorem claimed_placed (hroom : s.HasRoom) : Placed 63 (.numberClaim s.nums.next) s s.claimed :=
  placed_of_room (s := s.onNums fun x => { x with link := some (s.nums.next, true), frame := .queued }) hroom
    Config.allStations _

/-! ### Key A in SELECT (R74, R75) -/

/-- A new letter stands in an entry, and its line has it open; it waits for a number. -/
def letterOpened (s : State) (l : LineNo) (i : LetterIx) : State :=
  ((((s.setLetter i (some (.new 0 (s.lines[l].author.getD 0) .open (some l) none))).onLine l fun c =>
    { c with attached := some i, state := .ready }).onNums fun n => { n with waiting := n.waiting ++ [i] }).count
      fun c => { c with lettersOpened := c.lettersOpened + 1 }).prompt l .ready

@[simp] theorem letterOpened_lines (s : State) (l : LineNo) (i : LetterIx) : (s.letterOpened l i).lines =
    s.lines.set l { s.lines[l] with attached := some i, state := .ready } := rfl

@[simp] theorem letterOpened_tones (s : State) (l : LineNo) (i : LetterIx) :
    (s.letterOpened l i).tones = (s.prompt l .ready).tones := rfl

@[simp] theorem letterOpened_ports (s : State) (l : LineNo) (i : LetterIx) :
    (s.letterOpened l i).ports = (s.prompt l .ready).ports := rfl

@[simp] theorem letterOpened_letters (s : State) (l : LineNo) (i : LetterIx) : (s.letterOpened l i).letters =
    s.letters.set i (some (.new 0 (s.lines[l].author.getD 0) .open (some l) none)) := rfl

theorem newLetter_of_some (h : s.freeEntry = some i) : s.newLetter l = (s.letterOpened l i).makeClaim := by
  rw [newLetter, h]
  rfl

theorem newLetter_of_none (h : s.freeEntry = none) : s.newLetter l = s.refuse l := by rw [newLetter, h]

theorem KeyTaken.letterOpened {k : Key} (h : KeyTaken l k s t) (i : LetterIx) : Recognised l k s (t.letterOpened l i) := by
  obtain ⟨hdown, hkey, hothers, houtside⟩ := h.recognised
  refine ⟨by simpa using hdown, by simpa using hkey, fun m hm => ?_, houtside⟩
  obtain ⟨hline, hcoder, htone, hport⟩ := hothers m hm
  refine ⟨?_, hcoder, ?_, ?_⟩
  · rw [← hline]
    simp [Fin.val_inj, hm.symm]
  · rw [← htone]
    simp [Fin.val_inj, hm.symm]
  · rw [← hport]
    simp [Fin.val_inj, hm.symm]

/-- Settles O18: the new letter stands in the lowest free entry before the claim; without one the key is refused. -/
theorem newLetterOpens : Obligations.NewLetterOpens := by
  unfold Obligations.NewLetterOpens
  intro s l a hst hfree hauthor
  have hexec : exec (.newLetter l) s = .next ((s.pressed l (.newLetter l) .kA).newLetter l) := by
    rw [keyRow_acts (c := .newLetter l) rfl hfree hst (by decide), keyActs_select _ (pressed_lineIn _ _ hst)]
    rfl
  have htaken := pressed_keyTaken s l (.newLetter l) .kA
  refine ⟨fun i hi => ?opens, fun hnone => ?refused⟩
  case opens =>
    have hentry : (s.pressed l (.newLetter l) .kA).freeEntry = some i := hi
    rw [newLetter_of_some hentry] at hexec
    have hclaim := makeClaim_work ((s.pressed l (.newLetter l) .kA).letterOpened l i)
    obtain ⟨hdown, hkey, hothers, houtside⟩ := htaken.letterOpened i
    obtain ⟨hlines, hcoders, htones, hports⟩ := hclaim.sameLines
    have hletters := hclaim.letters
    refine ⟨_, hexec, ?_, ?_, ?_, ?_, ?_, ?_, ?_, ⟨?_, ?_, ?_, ?_⟩, hclaim.seg, hclaim.peers, hclaim.xfer, hclaim.deliv⟩
    · rw [hletters]
      have hline : s.lines[l.val].author = some a := hauthor
      simp [hline]
    · intro j hj
      rw [hletters]
      simp [Fin.val_inj, hj.symm]
      rfl
    · rw [hlines]
      simp
    · rw [Sounds, htones]
      exact prompt_sounds _ l .ready
    · rw [hclaim.waiting]
      rfl
    · rw [hclaim.next]
      rfl
    · rw [hclaim.bus.lettersOpened]
      rfl
    · rw [htones]
      exact hdown
    · rw [hlines]
      exact hkey
    · intro m hm
      rw [hlines, hcoders, htones, hports]
      exact hothers m hm
    · obtain ⟨h1, h2, h3, h4, h5, h6, h7, h8, h9⟩ := houtside
      obtain ⟨k1, k2, k3, k4, k5, k6, k7, k8, k9⟩ := hclaim.sameOutside
      exact ⟨k1.trans h1, k2.trans h2, k3.trans h3, k4.trans h4, k5.trans h5, k6.trans h6, k7.trans h7, k8.trans h8,
        k9.trans h9⟩
  case refused =>
    have hentry : (s.pressed l (.newLetter l) .kA).freeEntry = none := hnone
    rw [newLetter_of_none hentry] at hexec
    obtain ⟨hsounds, hrecognised, hletters, hunits⟩ := htaken.prompted .refused
    exact ⟨_, hexec, by simp [refuse], hsounds, hrecognised, hletters, hunits⟩

/-! ### Beacons placed, and the claim's timers -/

/-- Settles O31: the timer starts again, and the slot holds a Beacon made of the moment's figures. -/
theorem beaconPlaced : Obligations.BeaconPlaced := by
  unfold Obligations.BeaconPlaced
  intro s hbeacon
  have hsome : (s.taken .beaconTimerExpiry).nums.beacon.isSome = true := Option.isSome_iff_ne_none.mpr hbeacon
  have hexec : exec .beaconTimerExpiry s = .next
      (((s.taken .beaconTimerExpiry).onNums fun n => { n with beacon := some Config.beaconMs }).placeBeacon) :=
    congrArg Host.Outcome.next (if_pos hsome)
  refine ⟨_, ((s.taken .beaconTimerExpiry).onNums fun n => { n with beacon := some Config.beaconMs }).beaconBody, hexec,
    rfl, rfl, rfl, rfl, rfl, rfl, rfl, rfl, rfl, ?_, ?_, ⟨⟨rfl, rfl, rfl, rfl⟩, rfl, rfl, rfl, rfl⟩, rfl⟩
  · intro h
    change (match s.bus.link.state with | .normal => false | .caution | .muted => true | .detached => _) = false
    rw [h]
  · intro h
    change (match s.bus.link.state with | .normal => false | .caution | .muted => true | .detached => _) = true
    rcases h with h | h <;> rw [h]

theorem consultClaim_of_empty (h : s.nums.waiting = []) : s.consultClaim = (s.endClaim, false) := by
  rw [consultClaim, if_pos (by rw [h]; rfl)]

theorem consultClaim_of_valid {n : Nat} (hwaiting : s.nums.waiting ≠ []) (hlink : s.nums.link = some (n, true)) :
    s.consultClaim = (s.onNums fun x => { x with run := 0, frame := .current }, true) := by
  rw [consultClaim, if_neg (by simpa using hwaiting), if_pos (by rw [hlink]; rfl)]

/-- A withdrawn claim: the run of withdrawals rises (R145). -/
def withdrawn (s : State) : State := s.endClaim.onNums fun n => { n with run := n.run + 1 }

theorem consultClaim_withdraws {n : Nat} (hwaiting : s.nums.waiting ≠ []) (hlink : s.nums.link = some (n, false))
    (hrun : s.nums.run < 7) : s.consultClaim = (s.withdrawn.makeClaim, false) := by
  rw [consultClaim, if_neg (by simpa using hwaiting), if_neg (by rw [hlink]; simp), if_pos (by omega)]
  rfl

theorem consultClaim_abandons {n : Nat} (hwaiting : s.nums.waiting ≠ []) (hlink : s.nums.link = some (n, false))
    (hrun : 7 ≤ s.nums.run) : s.consultClaim = (s.claimAbandoned, false) := by
  rw [consultClaim, if_neg (by simpa using hwaiting), if_neg (by rw [hlink]; simp), if_neg (by omega)]

theorem exec_claimWaitTimerExpiry (h : s.nums.wait ≠ none) : exec .claimWaitTimerExpiry s = .next
    ((s.taken .claimWaitTimerExpiry).onNums fun n => { n with wait := none }).makeClaim :=
  congrArg Host.Outcome.next (if_pos (Option.isSome_iff_ne_none.mpr h))

/-- Settles O36: the wait's end makes a claim, the window's end drops its entry, and R145's four answers. -/
theorem claimTimers : Obligations.ClaimTimers := by
  unfold Obligations.ClaimTimers
  intro s
  refine ⟨fun hwait hact hwaiting hlink hnext hroom => ?claims, fun hwait hwaiting => ?quiet, fun n => ?window,
    fun n valid hlink => ⟨fun hwaiting => ?none, fun hwaiting hvalid => ?ahead,
      fun hwaiting hvalid hrun hact hwait hnext hroom => ?again, fun hwaiting hvalid hrun => ?abandoned⟩⟩
  case claims =>
    have hexec := exec_claimWaitTimerExpiry hwait
    have hmade := makeClaim_of_room
      (s := (s.taken .claimWaitTimerExpiry).onNums fun n => { n with wait := none }) hact hwaiting hlink rfl hnext hroom
    rw [hmade] at hexec
    exact ⟨_, hexec, rfl,
      claimed_placed (s := (s.taken .claimWaitTimerExpiry).onNums fun n => { n with wait := none }) hroom,
      ⟨rfl, rfl, rfl, rfl⟩, rfl, rfl, rfl, rfl⟩
  case quiet =>
    have hexec := exec_claimWaitTimerExpiry hwait
    have hmade := makeClaim_of_empty
      (s := (s.taken .claimWaitTimerExpiry).onNums fun n => { n with wait := none }) hwaiting
    rw [hmade] at hexec
    exact ⟨_, hexec, rfl, rfl, ⟨rfl, rfl, rfl, rfl⟩, rfl, rfl, rfl, rfl⟩
  case window => exact ⟨_, rfl, rfl, rfl, ⟨⟨rfl, rfl, rfl, rfl⟩, rfl, rfl, rfl, rfl⟩, rfl⟩
  case none =>
    rw [consultClaim_of_empty hwaiting]
    exact ⟨rfl, rfl, rfl, rfl⟩
  case ahead =>
    subst hvalid
    rw [consultClaim_of_valid hwaiting hlink]
    exact ⟨rfl, rfl, rfl, rfl⟩
  case again =>
    subst hvalid
    have hmade := makeClaim_of_room (s := s.withdrawn) hact hwaiting rfl hwait hnext hroom
    rw [consultClaim_withdraws hwaiting hlink hrun, hmade]
    exact ⟨rfl, rfl, rfl, claimed_placed (s := s.withdrawn) hroom⟩
  case abandoned =>
    subst hvalid
    rw [consultClaim_abandons hwaiting hlink hrun]
    exact ⟨rfl, rfl, rfl, rfl, rfl⟩

end Sys2Proof.Machine.State
end

section
/-! Bits and bytes, and the Coder's codes read back (R56 to R60, R64, R202). -/

namespace Sys2Proof

open Machine

/-! ### Numbers as bits -/

@[simp] theorem length_bitsOf (n v : Nat) : (bitsOf n v).length = n := by
  induction n with
  | zero => rfl
  | succ n ih => rw [bitsOf, List.length_cons, ih]

theorem foldl_bits (bits : List Bool) (k : Nat) :
    bits.foldl (fun v b => 2 * v + b.toNat) k = k * 2 ^ bits.length + numOf bits := by
  induction bits generalizing k with
  | nil => simp [numOf]
  | cons b bits ih =>
    rw [numOf, List.foldl_cons, List.foldl_cons, ih, ih, List.length_cons, pow_succ]
    ring

theorem numOf_cons (b : Bool) (bits : List Bool) : numOf (b :: bits) = b.toNat * 2 ^ bits.length + numOf bits := by
  rw [numOf, List.foldl_cons, foldl_bits]
  simp

theorem numOf_lt (bits : List Bool) : numOf bits < 2 ^ bits.length := by
  induction bits with
  | nil => decide
  | cons b bits ih =>
    rw [numOf_cons, List.length_cons, pow_succ]
    have hb : b.toNat ≤ 1 := Bool.toNat_le b
    nlinarith

/-- The low bits of a number spell its remainder. -/
theorem numOf_bitsOf (n v : Nat) : numOf (bitsOf n v) = v % 2 ^ n := by
  induction n with
  | zero => rw [pow_zero, Nat.mod_one]; rfl
  | succ n ih =>
    rw [bitsOf, numOf_cons, ih, length_bitsOf, Nat.toNat_testBit, Nat.mod_pow_succ]
    ring

theorem numOf_bitsOf_of_lt {n v : Nat} (h : v < 2 ^ n) : numOf (bitsOf n v) = v := by
  rw [numOf_bitsOf, Nat.mod_eq_of_lt h]

/-- Bits are told by their number and the number that they spell. -/
theorem numOf_injective {as bs : List Bool} (hlength : as.length = bs.length) (hnum : numOf as = numOf bs) : as = bs := by
  induction as generalizing bs with
  | nil => exact (List.length_eq_zero_iff.mp hlength.symm).symm
  | cons a as ih =>
    obtain ⟨b, bs, rfl⟩ := List.exists_cons_of_length_eq_add_one hlength.symm
    have hlen : as.length = bs.length := Nat.succ.inj hlength
    rw [numOf_cons, numOf_cons, hlen] at hnum
    have ha := numOf_lt as
    have hb := numOf_lt bs
    rw [hlen] at ha
    have hhead : a = b := by
      cases a <;> cases b <;> simp at hnum ⊢ <;> omega
    subst hhead
    rw [ih hlen (by omega)]

theorem bitsOf_numOf (bits : List Bool) : bitsOf bits.length (numOf bits) = bits :=
  numOf_injective (length_bitsOf _ _) (numOf_bitsOf_of_lt (numOf_lt bits))

/-! ### Bytes as bits -/

theorem byteBits_cons (b : Byte) (bytes : List Byte) : byteBits (b :: bytes) = bitsOf 8 b.toNat ++ byteBits bytes :=
  List.flatMap_cons

@[simp] theorem length_byteBits (bytes : List Byte) : (byteBits bytes).length = 8 * bytes.length := by
  induction bytes with
  | nil => rfl
  | cons b bytes ih => rw [byteBits_cons, List.length_append, ih, length_bitsOf, List.length_cons]; ring

/-- Eight bits in front of others fill one byte. -/
theorem packBits_append {bits : List Bool} (h : bits.length = 8) (rest : List Bool) :
    packBits (bits ++ rest) = BitVec.ofNat 8 (numOf bits) :: packBits rest := by
  match bits, h with
  | [_, _, _, _, _, _, _, _], _ => rfl

theorem packBits_byteBits (bytes : List Byte) : packBits (byteBits bytes) = bytes := by
  induction bytes with
  | nil => rfl
  | cons b bytes ih =>
    rw [byteBits_cons, packBits_append (length_bitsOf 8 _), ih, numOf_bitsOf_of_lt b.isLt, BitVec.ofNat_toNat,
      BitVec.setWidth_eq]

/-- Whole bytes of bits come back from the bytes. -/
theorem byteBits_packBits (n : Nat) {bits : List Bool} (h : bits.length = 8 * n) :
    byteBits (packBits bits) = bits ∧ (packBits bits).length = n := by
  induction n generalizing bits with
  | zero =>
    rw [List.length_eq_zero_iff.mp h]
    exact ⟨rfl, rfl⟩
  | succ n ih =>
    have hfront : (bits.take 8).length = 8 := by rw [List.length_take]; omega
    obtain ⟨hrest, hcount⟩ := ih (bits := bits.drop 8) (by rw [List.length_drop]; omega)
    have hnum : (BitVec.ofNat 8 (numOf (bits.take 8))).toNat = numOf (bits.take 8) := by
      rw [BitVec.toNat_ofNat, Nat.mod_eq_of_lt]
      have := numOf_lt (bits.take 8)
      rwa [hfront] at this
    have hback := bitsOf_numOf (bits.take 8)
    rw [hfront] at hback
    rw [← List.take_append_drop 8 bits, packBits_append hfront, byteBits_cons, hrest, hnum, hback, List.length_cons, hcount]
    exact ⟨rfl, rfl⟩

/-! ### Fields of several bytes (R199) -/

theorem toNat_ofNat8 (n : Nat) : (BitVec.ofNat 8 n).toNat = n % 256 := BitVec.toNat_ofNat n 8

theorem rd16_be16 {n : Nat} (h : n < 65536) : rd16 (BitVec.ofNat 8 (n / 256)) (BitVec.ofNat 8 n) = n := by
  rw [rd16, toNat_ofNat8, toNat_ofNat8]
  omega

theorem rd24_be24 {n : Nat} (h : n < 16777216) :
    rd24 (BitVec.ofNat 8 (n / 65536)) (BitVec.ofNat 8 (n / 256)) (BitVec.ofNat 8 n) = n := by
  rw [rd24, toNat_ofNat8, toNat_ofNat8, toNat_ofNat8]
  omega

theorem rd32_be32 {n : Nat} (h : n < 4294967296) : rd32 (BitVec.ofNat 8 (n / 16777216)) (BitVec.ofNat 8 (n / 65536))
    (BitVec.ofNat 8 (n / 256)) (BitVec.ofNat 8 n) = n := by
  rw [rd32, toNat_ofNat8, toNat_ofNat8, toNat_ofNat8, toNat_ofNat8]
  omega

/-! ### The Coder (R57 to R60, R64) -/

theorem sampleCode_lt (tier : Tier) (c : Coding) (x : Int) : (sampleCode tier c x).2 < 2 ^ (tier.width - 1) := by
  have h : (sampleCode tier c x).2 ≤ tier.magnitude := Nat.min_le_left _ _
  cases tier <;> exact Nat.lt_of_le_of_lt h (by decide)

theorem length_codeBits (tier : Tier) (code : Bool × Nat) : (codeBits tier code).length = tier.width := by
  rw [codeBits, List.length_cons, length_bitsOf]
  cases tier <;> rfl

theorem length_codeSamples (tier : Tier) (c : Coding) (xs : List Int) :
    (codeSamples tier c xs).1.length = tier.width * xs.length := by
  induction xs generalizing c with
  | nil => rfl
  | cons x xs ih => rw [codeSamples, List.length_append, ih, length_codeBits, List.length_cons]; ring

/-- One code read back gives the sign and the magnitude. -/
theorem decodeBits_code (tier : Tier) (n : Nat) (c : Coding) (x : Int) (rest : List Bool) :
    decodeBits tier (n + 1) c (codeBits tier (sampleCode tier c x) ++ rest) =
      (let c' := reconstruct tier c (sampleCode tier c x).1 (sampleCode tier c x).2
       BitVec.ofInt 16 c'.predictor :: decodeBits tier n c' rest) := by
  have hlen := length_codeBits tier (sampleCode tier c x)
  have htake : (codeBits tier (sampleCode tier c x) ++ rest).take tier.width = codeBits tier (sampleCode tier c x) :=
    List.take_left' hlen
  have hdrop : (codeBits tier (sampleCode tier c x) ++ rest).drop tier.width = rest := List.drop_left' hlen
  have hmagnitude : numOf (codeBits tier (sampleCode tier c x)).tail = (sampleCode tier c x).2 :=
    numOf_bitsOf_of_lt (sampleCode_lt tier c x)
  rw [decodeBits, htake, hdrop, hmagnitude]
  rfl

/-- The decoder follows the coder from the same entry state. -/
theorem decodeBits_codeSamples (tier : Tier) (c : Coding) (xs : List Int) :
    decodeBits tier xs.length c (codeSamples tier c xs).1 =
      (List.range xs.length).map fun n => BitVec.ofInt 16 (codeSamples tier c (xs.take (n + 1))).2.predictor := by
  induction xs generalizing c with
  | nil => rfl
  | cons x xs ih =>
    rw [codeSamples, List.length_cons, decodeBits_code]
    dsimp only
    rw [ih, List.range_succ_eq_map, List.map_cons, List.map_map]
    rfl

theorem headTier_voicedHead (tier : Tier) (mark : Bool) : headTier (voicedHead tier mark false) = some tier := by
  cases tier <;> cases mark <;> rfl

theorem int16_roundTrip {x : Int} (hlow : -32768 ≤ x) (hhigh : x ≤ 32767) :
    (BitVec.ofNat 16 (rd16 (BitVec.ofNat 8 ((BitVec.ofInt 16 x).toNat / 256))
      (BitVec.ofNat 8 (BitVec.ofInt 16 x).toNat))).toInt = x := by
  rw [rd16_be16 (BitVec.ofInt 16 x).isLt, BitVec.ofNat_toNat, BitVec.setWidth_eq, BitVec.toInt_ofInt]
  exact Int.bmod_eq_of_le (by omega) (by omega)

/-- Settles O55: the codes pack into whole bytes, and the decoder reads each of them as it was coded. -/
theorem coderAgrees : Obligations.CoderAgrees := by
  unfold Obligations.CoderAgrees
  intro tier mark entry xs hlength hindex hlow hhigh
  have hbits := length_codeSamples tier entry xs
  rw [hlength] at hbits
  obtain ⟨hback, hcount⟩ := byteBits_packBits (20 * tier.width) (bits := (codeSamples tier entry xs).1)
    (by rw [hbits]; ring)
  refine ⟨?_, ?_⟩
  · simp only [voicedRecord, int16Bytes, be16, List.length_cons, List.length_append, List.length_nil, hcount]
    cases tier <;> rfl
  · have hentry : (⟨(BitVec.ofNat 16 (rd16 (BitVec.ofNat 8 ((BitVec.ofInt 16 entry.predictor).toNat / 256))
        (BitVec.ofNat 8 (BitVec.ofInt 16 entry.predictor).toNat))).toInt,
        (BitVec.ofNat 8 entry.index).toNat⟩ : Coding) = entry := by
      rw [int16_roundTrip hlow hhigh, toNat_ofNat8, Nat.mod_eq_of_lt (by omega)]
    have hdecoded := decodeBits_codeSamples tier entry xs
    rw [hlength] at hdecoded
    change decodeBits ((headTier (voicedHead tier mark false)).getD .c) Config.sliceSamples _
      (byteBits (packBits (codeSamples tier entry xs).1)) = _
    rw [hentry, headTier_voicedHead, hback]
    exact hdecoded

end Sys2Proof
end

section
/-! Messages read back from their frames (R200, R201, R204, R205). -/

namespace Sys2Proof

open Machine

/-! ### Fields and codes -/

theorem okNumber_be24 {n : Nat} (h : numberOk n = true) :
    okNumber (rd24 (BitVec.ofNat 8 (n / 65536)) (BitVec.ofNat 8 (n / 256)) (BitVec.ofNat 8 n)) = some n := by
  obtain ⟨hlow, hlast⟩ : 1 ≤ n ∧ n ≤ Config.lastNumber := by simpa [numberOk] using h
  have hhigh : n ≤ 16777215 := hlast
  rw [rd24_be24 (by omega), okNumber, if_neg (by omega)]

theorem okAuthor_be16 {n : Nat} (h : authorOk n = true) :
    okAuthor (rd16 (BitVec.ofNat 8 (n / 256)) (BitVec.ofNat 8 n)) = some n := by
  have hhigh : n ≤ 9999 := by simpa [authorOk] using h
  rw [rd16_be16 (by omega), okAuthor, if_pos hhigh]

theorem toNat_be8 {n : Nat} (h : n ≤ 255) : (BitVec.ofNat 8 n).toNat = n := by
  rw [toNat_ofNat8, Nat.mod_eq_of_lt (by omega)]

theorem okTag_be8 {n : Nat} (h : tagOk n = true) : okTag (BitVec.ofNat 8 n).toNat = some n := by
  have hhigh : n ≤ 3 := by simpa [tagOk] using h
  rw [toNat_be8 (by omega), okTag, if_pos hhigh]

theorem readNumber_be24 {n : Nat} (h : numberOk n = true) : readNumber (be24 n) = some n := okNumber_be24 h

theorem readNumberByte_be24 {n : Nat} (h : numberOk n = true) (b : Byte) :
    readNumberByte (be24 n ++ [b]) = some (n, b.toNat) := congrArg (Option.map (·, b.toNat)) (okNumber_be24 h)

theorem readNumbers_be24 {ns : List Nat} (h : ns.all numberOk = true) : readNumbers (ns.flatMap be24) = some ns := by
  induction ns with
  | nil => rfl
  | cons n ns ih =>
    obtain ⟨hn, hns⟩ : numberOk n = true ∧ ns.all numberOk = true := by simpa using h
    change (okNumber _).bind (fun k => (readNumbers (ns.flatMap be24)).map (k :: ·)) = _
    rw [okNumber_be24 hn, ih hns]
    rfl

theorem length_numbers (ns : List Nat) : (ns.flatMap be24).length = 3 * ns.length := by
  induction ns with
  | nil => rfl
  | cons n ns ih =>
    rw [List.flatMap_cons, List.length_append, ih, List.length_cons]
    simp only [be24, List.length_cons, List.length_nil]
    ring

theorem cancelReason_back (r : CancelReason) : CancelReason.ofCode (BitVec.ofNat 8 r.code).toNat = some r := by
  cases r <;> rfl

theorem refuseReason_back (r : RefuseReason) : RefuseReason.ofCode (BitVec.ofNat 8 r.code).toNat = some r := by
  cases r <;> rfl

theorem checkReply_back (r : CheckReply) : CheckReply.ofCode (BitVec.ofNat 8 r.code).toNat = some r := by
  cases r <;> rfl

theorem settingsReason_back (r : SettingsReason) : SettingsReason.ofCode (BitVec.ofNat 8 r.code).toNat = some r := by
  cases r <;> rfl

theorem stationClass_back (c : StationClass) : StationClass.ofCode (BitVec.ofNat 8 c.code).toNat = some c := by
  cases c <;> rfl

theorem priority_ofClass (p : Priority) : Priority.ofClass p.streamClass = some p := by
  cases p <;> rfl

/-! ### Flag bytes -/

theorem flagBit_zero (a : Bool) : (BitVec.ofNat 8 (flagBit a 0)).getLsbD 0 = a := by cases a <;> rfl

/-- The three flags of a snapshot, read back. -/
theorem snapshotFlags_back (a b c : Bool) :
    (BitVec.ofNat 8 (flagBit a 7 + flagBit b 6 + flagBit c 5)).getLsbD 7 = a ∧
    (BitVec.ofNat 8 (flagBit a 7 + flagBit b 6 + flagBit c 5)).getLsbD 6 = b ∧
    (BitVec.ofNat 8 (flagBit a 7 + flagBit b 6 + flagBit c 5)).getLsbD 5 = c := by
  revert a b c
  decide

/-- The two flags of an Offer, read back. -/
theorem offerFlags_back (a b : Bool) :
    (BitVec.ofNat 8 (flagBit a 7 + flagBit b 6)).getLsbD 7 = a ∧
    (BitVec.ofNat 8 (flagBit a 7 + flagBit b 6)).getLsbD 6 = b := by
  revert a b
  decide

/-- The resume flag and the tag of a Letter Data frame, read back. -/
theorem letterFlags_back (a : Bool) {t : Nat} (h : tagOk t = true) :
    (BitVec.ofNat 8 (flagBit a 7 + t)).getLsbD 7 = a ∧ (BitVec.ofNat 8 (flagBit a 7 + t)).toNat % 4 = t := by
  have hhigh : t ≤ 3 := by simpa [tagOk] using h
  interval_cases t <;> cases a <;> decide

theorem priority_back (p : Priority) : (if (p == .urgent) = true then Priority.urgent else .normal) = p := by
  cases p <;> rfl

theorem mode_back (m : RecMode) : (if (m == .overwrite) = true then RecMode.overwrite else .insert) = m := by
  cases m <;> rfl

/-! ### Payloads -/

theorem readLocate_payload {a k : Nat} {t : Byte} (h : (Msg.locate a k t).wf = true) :
    readLocate (Msg.locate a k t).payload = some (.locate a k t) := by
  obtain ⟨⟨ha, hlow⟩, hhigh⟩ : (authorOk a = true ∧ 1 ≤ k) ∧ k ≤ 9 := by simpa [Msg.wf] using h
  change (okAuthor _).bind _ = _
  rw [okAuthor_be16 ha, toNat_be8 (by omega)]
  exact if_pos ⟨hlow, hhigh⟩

theorem readLocateAnswer_payload {t : Byte} {a : Nat} {ns : List Nat} (h : (Msg.locateAnswer t a ns).wf = true) :
    readLocateAnswer (Msg.locateAnswer t a ns).payload = some (.locateAnswer t a ns) := by
  obtain ⟨⟨⟨ha, hlow⟩, hhigh⟩, hns⟩ :
      ((authorOk a = true ∧ 1 ≤ ns.length) ∧ ns.length ≤ 8) ∧ ns.all numberOk = true := by
    simpa [Msg.wf] using h
  simp only [readLocateAnswer, Msg.payload, be8, be16, List.cons_append, List.nil_append]
  rw [okAuthor_be16 ha, toNat_be8 (by omega), Option.bind_some, if_pos ⟨hlow, hhigh, length_numbers ns⟩, readNumbers_be24 hns]
  rfl

theorem readFetch_payload {n a : Nat} (h : (Msg.fetch n a).wf = true) :
    readFetch (Msg.fetch n a).payload = some (.fetch n a) := by
  obtain ⟨hn, ha⟩ : numberOk n = true ∧ authorOk a = true := by simpa [Msg.wf] using h
  simp only [readFetch, Msg.payload, be16, be24, List.cons_append, List.nil_append]
  rw [okNumber_be24 hn, okAuthor_be16 ha]
  rfl

theorem readFetchAccept_payload {p : Snapshot} (h : p.wf = true) :
    readFetchAccept (Msg.fetchAccept p).payload = some (.fetchAccept p) := by
  obtain ⟨⟨⟨⟨⟨⟨⟨hn, ha⟩, hlen⟩, hcursor⟩, hpass⟩, hrecords⟩, hbytes⟩, hblocks⟩ :
      ((((((numberOk p.number = true ∧ authorOk p.author = true) ∧ p.length ≤ Config.lengthLimit) ∧
        p.cursor ≤ p.length) ∧ p.passCount ≤ 255) ∧ p.records ≤ Config.chainLimit) ∧ p.bytes ≤ 16777215) ∧
        p.blocks ≤ 65535 := by
    simpa [Snapshot.wf] using h
  have hlen' : p.length ≤ 45000 := hlen
  have hrecords' : p.records ≤ 8192 := hrecords
  obtain ⟨hseven, hsix, hfive⟩ := snapshotFlags_back (p.priority == .urgent) (p.mode == .overwrite) p.instrNext
  simp only [readFetchAccept, Msg.payload, Snapshot.payload, be8, be16, be24, List.cons_append, List.nil_append]
  rw [okNumber_be24 hn, okAuthor_be16 ha, rd16_be16 (n := p.length) (by omega), rd16_be16 (n := p.cursor) (by omega),
    rd16_be16 (n := p.records) (by omega), rd24_be24 (n := p.bytes) (by omega), rd16_be16 (n := p.blocks) (by omega),
    toNat_be8 hpass, hseven, hsix, hfive, priority_back, mode_back]
  exact if_pos ⟨hlen, hcursor, hrecords⟩

theorem readOffer_payload {o : OfferBody} (h : o.wf = true) : readOffer (Msg.offer o).payload = some (.offer o) := by
  obtain ⟨⟨⟨⟨hn, ha⟩, hlen⟩, hrecords⟩, hbytes⟩ :
      (((numberOk o.number = true ∧ authorOk o.author = true) ∧ o.length ≤ 65535) ∧ o.records ≤ 65535) ∧
        o.bytes ≤ 16777215 := by
    simpa [OfferBody.wf] using h
  obtain ⟨hseven, hsix⟩ := offerFlags_back (o.priority == .urgent) o.unfinished
  simp only [readOffer, Msg.payload, OfferBody.payload, be8, be16, be24, List.cons_append, List.nil_append]
  rw [okNumber_be24 hn, okAuthor_be16 ha, rd16_be16 (n := o.length) (by omega), rd16_be16 (n := o.records) (by omega),
    rd24_be24 (n := o.bytes) (by omega), hseven, hsix, priority_back]
  rfl

theorem readDeliveryRejected_payload {n t r : Nat} (h : (Msg.deliveryRejected n t r).wf = true) :
    readDeliveryRejected (Msg.deliveryRejected n t r).payload = some (.deliveryRejected n t r) := by
  obtain ⟨⟨hn, ht⟩, hr⟩ : (numberOk n = true ∧ tagOk t = true) ∧ r ≤ 255 := by simpa [Msg.wf] using h
  simp only [readDeliveryRejected, Msg.payload, be8, be24, List.cons_append, List.nil_append]
  rw [okNumber_be24 hn, okTag_be8 ht, toNat_be8 hr]
  rfl

theorem readBeacon_payload {b : BeaconBody} (h : b.wf = true) : readBeacon (Msg.beacon b).payload = some (.beacon b) := by
  obtain ⟨⟨⟨⟨⟨hstate, hnext⟩, hcapacity⟩, hheld⟩, hclosed⟩, hseconds⟩ :
      ((((b.state ≤ 255 ∧ b.next ≤ Config.lastNumber) ∧ b.capacity ≤ 65535) ∧ b.held ≤ 255) ∧ b.closed ≤ 255) ∧
        b.seconds ≤ 4294967295 := by
    simpa [BeaconBody.wf] using h
  have hnext' : b.next ≤ 16777215 := hnext
  change (StationClass.ofCode _).map (fun cls => Msg.beacon _) = _
  rw [stationClass_back, toNat_be8 hstate, flagBit_zero, rd24_be24 (by omega), rd16_be16 (by omega), toNat_be8 hheld,
    toNat_be8 hclosed, rd32_be32 (by omega)]
  rfl

/-- The fields of a data frame's body in their ranges. -/
theorem dataBody_ranges {d : DataBody} (h : d.wf = true) : numberOk d.number = true ∧ d.record < 65536 ∧ d.slice ≤ 255 ∧
    d.items ≤ 255 ∧ d.bytes.length ≤ 241 := by
  obtain ⟨⟨⟨⟨hn, hrecord⟩, hslice⟩, hitems⟩, hbytes⟩ :
      (((numberOk d.number = true ∧ d.record ≤ 65535) ∧ d.slice ≤ 255) ∧ d.items ≤ 255) ∧ d.bytes.length ≤ 241 := by
    simpa [DataBody.wf] using h
  exact ⟨hn, by omega, hslice, hitems, hbytes⟩

theorem readTransferData_payload {d : DataBody} (h : d.wf = true) :
    readTransferData (Msg.transferData d).payload = some (.transferData d) := by
  obtain ⟨hn, hrecord, hslice, hitems, hbytes⟩ := dataBody_ranges h
  simp only [readTransferData, Msg.payload, be8, be16, be24, List.cons_append, List.nil_append]
  rw [okNumber_be24 hn, rd16_be16 hrecord, toNat_be8 hslice, toNat_be8 hitems, Option.bind_some, if_pos hbytes]

theorem readTransferEnd_payload {n : Nat} (h : numberOk n = true) (c : Word32) :
    readTransferEnd (Msg.transferEnd n c).payload = some (.transferEnd n c) := by
  change (okNumber _).map (fun n => Msg.transferEnd n _) = _
  rw [okNumber_be24 h, rd32_be32 c.isLt, BitVec.ofNat_toNat, BitVec.setWidth_eq]
  rfl

theorem readLetterData_payload {p : Priority} {r : Bool} {t : Nat} {d : DataBody}
    (h : (Msg.letterData p r t d).wf = true) :
    readLetterData p (Msg.letterData p r t d).payload = some (.letterData p r t d) := by
  obtain ⟨⟨ht, hd⟩, hlen⟩ : (tagOk t = true ∧ d.wf = true) ∧ d.bytes.length ≤ 240 := by simpa [Msg.wf] using h
  obtain ⟨hn, hrecord, hslice, hitems, -⟩ := dataBody_ranges hd
  obtain ⟨hseven, htag⟩ := letterFlags_back r ht
  simp only [readLetterData, Msg.payload, be8, be16, be24, List.cons_append, List.nil_append]
  rw [okNumber_be24 hn, hseven, htag, rd16_be16 hrecord, toNat_be8 hslice, toNat_be8 hitems, Option.bind_some,
    if_pos hlen]

theorem readLetterEnd_payload {p : Priority} {n t : Nat} {c : Word32} (h : (Msg.letterEnd p n t c).wf = true) :
    readLetterEnd p (Msg.letterEnd p n t c).payload = some (.letterEnd p n t c) := by
  obtain ⟨hn, ht⟩ : numberOk n = true ∧ tagOk t = true := by simpa [Msg.wf] using h
  change (okNumber _).bind (fun n => (okTag _).map (fun t => Msg.letterEnd p n t _)) = _
  rw [okNumber_be24 hn, okTag_be8 ht, rd32_be32 c.isLt, BitVec.ofNat_toNat, BitVec.setWidth_eq]
  rfl

theorem readSettings_payload {b : SettingsBody} (h : b.wf = true) :
    readSettings (Msg.settings b).payload = some (.settings b) := by
  obtain ⟨⟨⟨⟨⟨⟨⟨⟨htier, herr⟩, hcap⟩, hauto⟩, hhold⟩, hgap⟩, hmask⟩, hfloor⟩, hpref⟩ :
      (((((((b.tier ≤ 3 ∧ b.errMode ≤ 3) ∧ b.pauseCap ≤ 255) ∧ b.autoPause ≤ 255) ∧ b.holdLimit ≤ 255) ∧
        b.pacingGap ≤ 255) ∧ b.lineMask ≤ 255) ∧ b.floor ≤ 16777215) ∧ b.preferred ≤ 63 := by
    simpa [SettingsBody.wf] using h
  have hfirst : (b.tier * 64 + b.errMode) / 64 = b.tier ∧ (b.tier * 64 + b.errMode) % 4 = b.errMode := by omega
  have hpref' : b.preferred % 64 = b.preferred := by omega
  change some (Msg.settings _) = _
  rw [toNat_be8 (n := b.tier * 64 + b.errMode) (by omega), hfirst.1, hfirst.2, toNat_be8 hcap, toNat_be8 hauto,
    toNat_be8 hhold, toNat_be8 hgap, toNat_be8 hmask, rd24_be24 (by omega), toNat_be8 (n := b.preferred) (by omega), hpref']

theorem readQueryAnswer_payload {k st : Nat} {content : List Byte} (h : (Msg.queryAnswer k st content).wf = true) :
    readQueryAnswer (Msg.queryAnswer k st content).payload = some (.queryAnswer k st content) := by
  obtain ⟨⟨hk, hst⟩, -⟩ : (k ≤ 255 ∧ st ≤ 255) ∧ content.length ≤ 246 := by simpa [Msg.wf] using h
  change some (Msg.queryAnswer _ _ content) = _
  rw [toNat_be8 hk, toNat_be8 hst]

theorem readEvent_payload {k : Nat} {q : BitVec 16} {t : Word32} {details : List Byte}
    (h : (Msg.event k q t details).wf = true) :
    readEvent (Msg.event k q t details).payload = some (.event k q t details) := by
  obtain ⟨hk, -⟩ : k ≤ 255 ∧ details.length ≤ 241 := by simpa [Msg.wf] using h
  change some (Msg.event _ _ _ details) = _
  rw [toNat_be8 hk, rd16_be16 q.isLt, rd32_be32 t.isLt, BitVec.ofNat_toNat, BitVec.setWidth_eq, BitVec.ofNat_toNat,
    BitVec.setWidth_eq]

/-- Every message is read back from its payload (R201, R205). -/
theorem readMsg_payload {m : Msg} (h : m.wf = true) : readMsg m.cls m.kind m.payload = some m := by
  cases m with
  | claimObjection n c =>
    obtain ⟨hn, hc⟩ : numberOk n = true ∧ c ≤ 255 := by simpa [Msg.wf] using h
    change (readNumberByte (be24 n ++ [BitVec.ofNat 8 c])).map (fun x => Msg.claimObjection x.1 x.2) = _
    rw [readNumberByte_be24 hn, toNat_be8 hc]
    rfl
  | fetchCancel n r =>
    change (readNumberByte (be24 n ++ [BitVec.ofNat 8 r.code])).bind
      (fun x => (CancelReason.ofCode x.2).map (Msg.fetchCancel x.1 ·)) = _
    rw [readNumberByte_be24 h, Option.bind_some, cancelReason_back]
    rfl
  | transferCheck n => exact congrArg (Option.map Msg.transferCheck) (readNumber_be24 h)
  | checkAnswer n r =>
    change (readNumberByte (be24 n ++ [BitVec.ofNat 8 r.code])).bind
      (fun x => (CheckReply.ofCode x.2).map (Msg.checkAnswer x.1 ·)) = _
    rw [readNumberByte_be24 h, Option.bind_some, checkReply_back]
    rfl
  | numberClaim n => exact congrArg (Option.map Msg.numberClaim) (readNumber_be24 h)
  | locate a k t => exact readLocate_payload h
  | locateAnswer t a ns => exact readLocateAnswer_payload h
  | fetch n a => exact readFetch_payload h
  | fetchAccept p => exact readFetchAccept_payload h
  | fetchRefuse n r =>
    change (readNumberByte (be24 n ++ [BitVec.ofNat 8 r.code])).bind
      (fun x => (RefuseReason.ofCode x.2).map (Msg.fetchRefuse x.1 ·)) = _
    rw [readNumberByte_be24 h, Option.bind_some, refuseReason_back]
    rfl
  | take n => exact congrArg (Option.map Msg.take) (readNumber_be24 h)
  | released n => exact congrArg (Option.map Msg.released) (readNumber_be24 h)
  | takeUnknown n => exact congrArg (Option.map Msg.takeUnknown) (readNumber_be24 h)
  | offer o => exact readOffer_payload h
  | offerAccept n t =>
    obtain ⟨hn, ht⟩ : numberOk n = true ∧ tagOk t = true := by simpa [Msg.wf] using h
    change (readNumberByte (be24 n ++ [BitVec.ofNat 8 t])).bind
      (fun x => (okTag x.2).map (Msg.offerAccept x.1 ·)) = _
    rw [readNumberByte_be24 hn, Option.bind_some, okTag_be8 ht]
    rfl
  | offerRefuse n r =>
    obtain ⟨hn, hr⟩ : numberOk n = true ∧ r ≤ 255 := by simpa [Msg.wf] using h
    change (readNumberByte (be24 n ++ [BitVec.ofNat 8 r])).map (fun x => Msg.offerRefuse x.1 x.2) = _
    rw [readNumberByte_be24 hn, toNat_be8 hr]
    rfl
  | filed n t =>
    obtain ⟨hn, ht⟩ : numberOk n = true ∧ tagOk t = true := by simpa [Msg.wf] using h
    change (readNumberByte (be24 n ++ [BitVec.ofNat 8 t])).bind (fun x => (okTag x.2).map (Msg.filed x.1 ·)) = _
    rw [readNumberByte_be24 hn, Option.bind_some, okTag_be8 ht]
    rfl
  | deliveryRejected n t r => exact readDeliveryRejected_payload h
  | beacon b => exact readBeacon_payload h
  | transferData d => exact readTransferData_payload h
  | transferEnd n c => exact readTransferEnd_payload h c
  | letterData p r t d =>
    change (Priority.ofClass p.streamClass).bind (fun pr => readLetterData pr (Msg.letterData p r t d).payload) = _
    rw [priority_ofClass]
    exact readLetterData_payload h
  | letterEnd p n t c =>
    change (Priority.ofClass p.streamClass).bind (fun pr => readLetterEnd pr (Msg.letterEnd p n t c).payload) = _
    rw [priority_ofClass]
    exact readLetterEnd_payload h
  | settings b => exact readSettings_payload h
  | settingsRefused r => exact congrArg (Option.map Msg.settingsRefused) (settingsReason_back r)
  | query k =>
    have hk : k ≤ 255 := by simpa [Msg.wf] using h
    exact congrArg (fun n => some (Msg.query n)) (toNat_be8 hk)
  | queryAnswer k st content => exact readQueryAnswer_payload h
  | event k q t details => exact readEvent_payload h

/-! ### Frames -/

theorem cls_lt (m : Msg) : m.cls < 8 := by
  cases m with
  | letterData p => cases p <;> exact Nat.le_of_ble_eq_true rfl
  | letterEnd p => cases p <;> exact Nat.le_of_ble_eq_true rfl
  | _ => exact Nat.le_of_ble_eq_true rfl

theorem kind_lt (m : Msg) : m.kind < 32 := by
  cases m <;> exact Nat.le_of_ble_eq_true rfl

/-- No payload is longer than a frame can carry. -/
theorem length_payload_le {m : Msg} (h : m.wf = true) : m.payload.length ≤ 248 := by
  cases m with
  | locateAnswer t a ns =>
    obtain ⟨⟨-, hhigh⟩, -⟩ : ((authorOk a = true ∧ 1 ≤ ns.length) ∧ ns.length ≤ 8) ∧ ns.all numberOk = true := by
      simpa [Msg.wf] using h
    have hlen := length_numbers ns
    simp only [Msg.payload, List.length_append, hlen, be8, be16, List.length_cons, List.length_nil]
    omega
  | transferData d =>
    obtain ⟨-, -, -, -, hbytes⟩ := dataBody_ranges h
    simp only [Msg.payload, List.length_append, be8, be16, be24, List.length_cons, List.length_nil]
    omega
  | letterData p r t d =>
    obtain ⟨-, hlen⟩ : (tagOk t = true ∧ d.wf = true) ∧ d.bytes.length ≤ 240 := by simpa [Msg.wf] using h
    simp only [Msg.payload, List.length_append, be8, be16, be24, List.length_cons, List.length_nil]
    omega
  | queryAnswer k st content =>
    obtain ⟨-, hlen⟩ : (k ≤ 255 ∧ st ≤ 255) ∧ content.length ≤ 246 := by simpa [Msg.wf] using h
    simp only [Msg.payload, List.length_append, be8, List.length_cons, List.length_nil]
    omega
  | event k q t details =>
    obtain ⟨-, hlen⟩ : k ≤ 255 ∧ details.length ≤ 241 := by simpa [Msg.wf] using h
    simp only [Msg.payload, List.length_append, be8, be16, be32, List.length_cons, List.length_nil]
    omega
  | _ =>
    exact Nat.le_of_ble_eq_true rfl

theorem station_back {n : Nat} (h : n ≤ 63) : (BitVec.ofNat 6 n).toNat = n := by
  rw [BitVec.toNat_ofNat, Nat.mod_eq_of_lt (by omega)]

/-- Settles O56: the header's fields are in range, and the payload is read back by its kind. -/
theorem framesRoundTrip : Obligations.FramesRoundTrip := by
  unfold Obligations.FramesRoundTrip
  intro m sender dest hwf hsender hdest
  obtain ⟨slow, shigh⟩ : 1 ≤ sender ∧ sender ≤ 62 := by simpa [Station.isSender] using hsender
  obtain ⟨dlow, dhigh⟩ : 1 ≤ dest ∧ dest ≤ 63 := by simpa [Station.isDest] using hdest
  have hs : (BitVec.ofNat 6 sender).toNat = sender := station_back (Nat.le_succ_of_le shigh)
  have hd : (BitVec.ofNat 6 dest).toNat = dest := station_back dhigh
  have hcls : (BitVec.ofNat 3 m.cls).toNat = m.cls := by
    rw [BitVec.toNat_ofNat, Nat.mod_eq_of_lt (cls_lt m)]
  have hkind : (BitVec.ofNat 5 m.kind).toNat = m.kind := by
    rw [BitVec.toNat_ofNat, Nat.mod_eq_of_lt (kind_lt m)]
  have hlen := length_payload_le hwf
  change (if (BitVec.ofNat 6 sender).toNat = 0 ∨ (BitVec.ofNat 6 sender).toNat = 63 ∨
      (BitVec.ofNat 6 dest).toNat = 0 ∨ 248 < m.payload.length then none
    else (readMsg (BitVec.ofNat 3 m.cls).toNat (BitVec.ofNat 5 m.kind).toNat m.payload).bind fun k =>
      if k.cls = (BitVec.ofNat 3 m.cls).toNat then some k else none) = some m
  have hheader : ¬(sender = 0 ∨ sender = 63 ∨ dest = 0 ∨ 248 < m.payload.length) :=
    not_or.mpr ⟨Nat.ne_of_gt slow, not_or.mpr ⟨Nat.ne_of_lt (Nat.lt_succ_of_le shigh),
      not_or.mpr ⟨Nat.ne_of_gt dlow, Nat.not_lt_of_le hlen⟩⟩⟩
  rw [hs, hd, hcls, hkind, if_neg hheader, readMsg_payload hwf]
  exact if_pos rfl

end Sys2Proof
end

section
/-! A frame's bits scanned back as the frame (R112 to R114, R116). -/

namespace Sys2Proof

open Machine

variable {f : Frame}

/-! ### The parts of a frame's bits -/

theorem length_covered (f : Frame) : f.covered.length = 28 + 8 * f.payload.length := by
  simp only [Frame.covered, List.length_append, length_bitsOf, length_byteBits]

theorem length_bits (f : Frame) : f.bits.length = 45 + 8 * f.payload.length := by
  rw [Frame.bits, List.length_cons, List.length_append, length_covered, length_bitsOf]
  omega

theorem drop_one_bits (f : Frame) : f.bits.drop 1 = f.covered ++ bitsOf 16 (crc16 f.covered).toNat := rfl

/-- The length field stands at the 21st bit. -/
theorem lengthField_bits (f : Frame) : (f.bits.drop 21).take 8 = bitsOf 8 f.payload.length := rfl

theorem drop_header_bits (f : Frame) :
    f.bits.drop 29 = byteBits f.payload ++ bitsOf 16 (crc16 f.covered).toNat := rfl

/-! ### Scans of a frame's first bits -/

/-- The scan of a frame of which some bits have come in. -/
def Machine.Scan.of (bits : List Bool) (run : Nat) (level : Bool) : Scan := ⟨bits, run, level, run == 7, 0⟩

/-- Once the length field is in, the scan knows the frame's payload length (R112). -/
theorem payloadLength_of_prefix (hwf : f.wf = true) {c : Scan} {rest : List Bool} (hdata : c.data ++ rest = f.bits)
    (hlen : 29 ≤ c.data.length) : c.payloadLength = some f.payload.length := by
  have hpayload : f.payload.length ≤ 248 := by simpa [Frame.wf] using hwf
  have hfield : (c.data.drop 21).take 8 = bitsOf 8 f.payload.length := by
    rw [← lengthField_bits, ← hdata, List.drop_append_of_le_length (by omega), List.take_append_of_le_length]
    rw [List.length_drop]
    omega
  rw [Scan.payloadLength, if_pos hlen, hfield, numOf_bitsOf_of_lt (by omega)]

theorem payloadLength_of_short {c : Scan} (hlen : c.data.length < 29) : c.payloadLength = none :=
  if_neg (by omega)

/-- The check of a whole frame passes (R113). -/
theorem checkPasses_of_bits (hwf : f.wf = true) {c : Scan} (hdata : c.data = f.bits) : c.checkPasses = true := by
  have hlength := payloadLength_of_prefix hwf (rest := []) (by rw [hdata, List.append_nil])
    (by rw [hdata, length_bits]; omega)
  have hcovered := length_covered f
  simp only [Scan.checkPasses, hlength, Option.getD_some, hdata, drop_one_bits]
  rw [List.take_left' hcovered, List.drop_left' hcovered, List.take_of_length_le (by rw [length_bitsOf]),
    numOf_bitsOf_of_lt (crc16 f.covered).isLt]
  exact beq_self_eq_true _

/-- While frame bits are missing, the next bit is one of them. -/
theorem inBody_of_prefix (hwf : f.wf = true) {c : Scan} {b : Bool} {rest : List Bool}
    (hdata : c.data ++ b :: rest = f.bits) : c.inBody = true := by
  have htotal := length_bits f
  rw [← hdata, List.length_append, List.length_cons] at htotal
  by_cases hlen : 29 ≤ c.data.length
  · have hlength := payloadLength_of_prefix hwf hdata hlen
    have hlt : c.data.length < 45 + 8 * f.payload.length := by omega
    simp [Scan.inBody, Scan.total, hlength, hlt]
  · simp [Scan.inBody, Scan.total, payloadLength_of_short (Nat.lt_of_not_le hlen)]

/-- A whole frame expects no frame bit more. -/
theorem not_inBody_of_bits (hwf : f.wf = true) {c : Scan} (hdata : c.data = f.bits) (hinserted : c.inserted = false) :
    c.inBody = false := by
  have hlen := length_bits f
  have hlength := payloadLength_of_prefix hwf (rest := []) (by rw [hdata, List.append_nil])
    (by rw [hdata, length_bits]; omega)
  simp [Scan.inBody, Scan.total, hinserted, hlength, hdata, hlen]

/-- A frame bit joins the scan (R112, R114). -/
theorem push_bit (hwf : f.wf = true) {bits rest : List Bool} {b level : Bool} {run : Nat}
    (hdata : bits ++ b :: rest = f.bits) (hrun : run ≠ 7) :
    (Scan.of bits run level).push b = .going (.of (bits ++ [b]) (if b = level then run + 1 else 1) b) := by
  have hinserted : (Scan.of bits run level).inserted = false := by simpa [Scan.of] using hrun
  have hbody := inBody_of_prefix hwf (c := .of bits run level) hdata
  have hnext : (if b = (Scan.of bits run level).level ∧ (Scan.of bits run level).run ≠ 0 then
      (Scan.of bits run level).run + 1 else 1) = if b = level then run + 1 else 1 := by
    simp only [Scan.of]
    by_cases hb : b = level <;> by_cases hzero : run = 0 <;> simp [hb, hzero]
  have hprefix : (Scan.of (bits ++ [b]) (if b = level then run + 1 else 1) b).data ++ rest = f.bits := by
    rw [← hdata]
    simp [Scan.of]
  have hpayload : f.payload.length ≤ 248 := by simpa [Frame.wf] using hwf
  rw [Scan.push, if_neg (by rw [hinserted]; decide), if_pos hbody]
  simp only [hnext]
  change (if _ then _ else if _ then _ else Seen.going (.of (bits ++ [b]) (if b = level then run + 1 else 1) b)) = _
  rw [if_neg, if_neg]
  · rintro ⟨htotal, hfails⟩
    change (Scan.of (bits ++ [b]) (if b = level then run + 1 else 1) b).total =
      some (Scan.of (bits ++ [b]) (if b = level then run + 1 else 1) b).data.length at htotal
    change (Scan.of (bits ++ [b]) (if b = level then run + 1 else 1) b).checkPasses = false at hfails
    generalize Scan.of (bits ++ [b]) (if b = level then run + 1 else 1) b = c at *
    by_cases hlen : 29 ≤ c.data.length
    · rw [Scan.total, payloadLength_of_prefix hwf hprefix hlen] at htotal
      have hall : 45 + 8 * f.payload.length = c.data.length := by simpa using htotal
      have hcount := length_bits f
      rw [← hprefix, List.length_append] at hcount
      have hrest : rest = [] := List.length_eq_zero_iff.mp (by omega)
      rw [hrest, List.append_nil] at hprefix
      rw [checkPasses_of_bits hwf hprefix] at hfails
      cases hfails
    · rw [Scan.total, payloadLength_of_short (Nat.lt_of_not_le hlen)] at htotal
      cases htotal
  · rintro ⟨hlen, hlong⟩
    change (Scan.of (bits ++ [b]) (if b = level then run + 1 else 1) b).data.length = 29 at hlen
    change 248 < (Scan.of (bits ++ [b]) (if b = level then run + 1 else 1) b).payloadLength.getD 0 at hlong
    rw [payloadLength_of_prefix hwf hprefix (Nat.le_of_eq hlen.symm), Option.getD_some] at hlong
    omega

/-- An inserted bit is taken out (R114). -/
theorem push_inserted (bits : List Bool) (level : Bool) :
    (Scan.of bits 7 level).push (!level) = .going (.of bits 1 (!level)) := by
  cases level <;> rfl

theorem feed_going {c d : Scan} {b : Bool} (h : c.push b = .going d) (rest : List Bool) : c.feed (b :: rest) = d.feed rest := by
  rw [Scan.feed, h]

/-- The bits a sender drives are scanned as the frame's bits, whatever follows them (R114). -/
theorem feed_insertBits (hwf : f.wf = true) (tail rest : List Bool) {bits : List Bool} (run : Nat) (level : Bool)
    (hdata : bits ++ rest = f.bits) : ∃ r l, r ≠ 7 ∧
      (Scan.of bits run level).feed (insertBits run level rest ++ tail) = (Scan.of f.bits r l).feed tail := by
  induction rest generalizing bits run level with
  | nil =>
    rw [List.append_nil] at hdata
    subst hdata
    by_cases hrun : run = 7
    · subst hrun
      exact ⟨1, !level, by decide, feed_going (push_inserted _ level) tail⟩
    · rw [insertBits, if_neg hrun]
      exact ⟨run, level, hrun, rfl⟩
  | cons b rest ih =>
    have hprefix : (bits ++ [b]) ++ rest = f.bits := by rw [← hdata]; simp
    by_cases hrun : run = 7
    · subst hrun
      obtain ⟨r, l, hr, hfeed⟩ := ih (if b = !level then 2 else 1) b hprefix
      refine ⟨r, l, hr, ?_⟩
      rw [insertBits, if_pos rfl, List.cons_append, List.cons_append, feed_going (push_inserted _ level),
        feed_going (push_bit hwf hdata (by decide))]
      exact hfeed
    · obtain ⟨r, l, hr, hfeed⟩ := ih (if b = level then run + 1 else 1) b hprefix
      refine ⟨r, l, hr, ?_⟩
      rw [insertBits, if_neg hrun, List.cons_append, feed_going (push_bit hwf hdata hrun)]
      exact hfeed

/-! ### The acknowledge slot and the end bits -/

/-- The acknowledge slot may have either level (R116). -/
theorem push_acknowledge {c : Scan} (hbody : c.inBody = false) (hinserted : c.inserted = false) (htail : c.tail = 0)
    (b : Bool) : c.push b = .going { c with tail := 1 } := by
  simp [Scan.push, hbody, hinserted, htail]

/-- A recessive end bit counts; the ninth completes the frame (R116). -/
theorem push_end {c : Scan} (hbody : c.inBody = false) (hinserted : c.inserted = false) (htail : c.tail ≠ 0) :
    c.push true = if c.tail = 9 then .complete { c with tail := c.tail + 1 } else .going { c with tail := c.tail + 1 } := by
  simp [Scan.push, hbody, hinserted, htail]

theorem feed_ends {c : Scan} (hbody : ∀ n, { c with tail := n }.inBody = false) (hinserted : c.inserted = false) (n : Nat)
    (htail : c.tail + n = 9) (hpos : c.tail ≠ 0) :
    c.feed (List.replicate (n + 1) true) = .complete { c with tail := 10 } := by
  induction n generalizing c with
  | zero =>
    have hnine : c.tail = 9 := htail
    have hlast := push_end (hbody c.tail) hinserted hpos
    rw [if_pos hnine] at hlast
    rw [List.replicate_succ, Scan.feed, hlast, hnine]
    rfl
  | succ n ih =>
    have hmore := push_end (hbody c.tail) hinserted hpos
    rw [if_neg (show ¬c.tail = 9 by omega)] at hmore
    rw [List.replicate_succ, feed_going hmore]
    exact ih (c := { c with tail := c.tail + 1 }) hbody hinserted (by dsimp only; omega) (Nat.succ_ne_zero _)

/-- The frame of a whole scan. -/
theorem frame_of_bits (hwf : f.wf = true) {c : Scan} (hdata : c.data = f.bits) : c.frame = f := by
  have hlength := payloadLength_of_prefix hwf (rest := []) (by rw [hdata, List.append_nil])
    (by rw [hdata, length_bits]; omega)
  have hcls : (f.bits.drop 1).take 3 = bitsOf 3 f.cls.toNat := rfl
  have hkind : (f.bits.drop 4).take 5 = bitsOf 5 f.kind.toNat := rfl
  have hsender : (f.bits.drop 9).take 6 = bitsOf 6 f.sender.toNat := rfl
  have hdest : (f.bits.drop 15).take 6 = bitsOf 6 f.dest.toNat := rfl
  have hpayload : (f.bits.drop 29).take (8 * f.payload.length) = byteBits f.payload := by
    rw [drop_header_bits, List.take_left' (length_byteBits _)]
  simp only [Scan.frame, hlength, Option.getD_some, hdata, hcls, hkind, hsender, hdest, hpayload, packBits_byteBits,
    numOf_bitsOf_of_lt f.cls.isLt, numOf_bitsOf_of_lt f.kind.isLt, numOf_bitsOf_of_lt f.sender.isLt,
    numOf_bitsOf_of_lt f.dest.isLt, BitVec.ofNat_toNat, BitVec.setWidth_eq]

/-- Settles O57: the frame's bits come out of the bit insertion one by one, and the end bits complete the scan. -/
theorem bitsRoundTrip : Obligations.BitsRoundTrip := by
  unfold Obligations.BitsRoundTrip
  intro f acknowledge hwf
  obtain ⟨r, l, hr, hfeed⟩ := feed_insertBits hwf (acknowledge :: List.replicate 9 true) f.bits (bits := []) 0 true rfl
  have hinserted : (Scan.of f.bits r l).inserted = false := by simpa [Scan.of] using hr
  have hbody : ∀ n, { Scan.of f.bits r l with tail := n }.inBody = false := fun n =>
    not_inBody_of_bits hwf rfl hinserted
  refine ⟨{ Scan.of f.bits r l with tail := 10 }, ?_, frame_of_bits hwf rfl⟩
  calc Scan.empty.feed (f.wire ++ acknowledge :: List.replicate 9 true)
      = (Scan.of f.bits r l).feed (acknowledge :: List.replicate 9 true) := hfeed
    _ = { Scan.of f.bits r l with tail := 1 }.feed (List.replicate 9 true) :=
        feed_going (c := .of f.bits r l) (push_acknowledge (not_inBody_of_bits hwf rfl hinserted) hinserted rfl acknowledge) _
    _ = .complete { Scan.of f.bits r l with tail := 10 } :=
        feed_ends (c := { Scan.of f.bits r l with tail := 1 }) hbody hinserted 8 rfl Nat.one_ne_zero

end Sys2Proof
end

section
/-! The end of a slice period (R52, R54, R66, R67, R84, R85, R88, R102). -/

namespace Sys2Proof.Machine.State

variable {s t u v : State} {l : LineNo} {i : LetterIx} {x : Letter} {y : InSlice} {h : HoldSlice}

/-! ### Frames one after the other -/

theorem OtherLines.trans (h : OtherLines l s t) (k : OtherLines l t u) : OtherLines l s u := by
  intro m hm
  obtain ⟨hline, hcoder, htone, hport⟩ := h m hm
  obtain ⟨kline, kcoder, ktone, kport⟩ := k m hm
  exact ⟨kline.trans hline, kcoder.trans hcoder, ktone.trans htone, kport.trans hport⟩

theorem OtherLetters.trans (h : OtherLetters i s t) (k : OtherLetters i t u) : OtherLetters i s u :=
  fun j hj => (k j hj).trans (h j hj)

theorem SameOutside.trans (h : SameOutside s t) (k : SameOutside t u) : SameOutside s u := by
  obtain ⟨h1, h2, h3, h4, h5, h6, h7, h8, h9⟩ := h
  obtain ⟨k1, k2, k3, k4, k5, k6, k7, k8, k9⟩ := k
  exact ⟨k1.trans h1, k2.trans h2, k3.trans h3, k4.trans h4, k5.trans h5, k6.trans h6, k7.trans h7, k8.trans h8,
    k9.trans h9⟩

theorem SameLines.trans (h : SameLines s t) (k : SameLines t u) : SameLines s u := by
  obtain ⟨h1, h2, h3, h4⟩ := h
  obtain ⟨k1, k2, k3, k4⟩ := k
  exact ⟨k1.trans h1, k2.trans h2, k3.trans h3, k4.trans h4⟩

theorem SameUnits.trans (h : SameUnits s t) (k : SameUnits t u) : SameUnits s u := by
  obtain ⟨h1, h2, h3, h4, h5, h6⟩ := h
  obtain ⟨k1, k2, k3, k4, k5, k6⟩ := k
  exact ⟨k1.trans h1, k2.trans h2, k3.trans h3, k4.trans h4, k5.trans h5, k6.trans h6⟩

theorem SameBytes.trans (h : SameBytes s t) (k : SameBytes t u) : SameBytes s u := fun a => (k a).trans (h a)

/-! ### What a line's period can change -/

/-- What the end of a period on line `l` leaves: the other lines, all of the line's Tone Unit but its prompt, and what
stands outside. -/
structure LinePeriod (l : LineNo) (s t : State) : Prop where
  others : OtherLines l s t
  tone : t.tones[l] = { s.tones[l] with prompt := t.tones[l].prompt }
  outside : SameOutside s t

namespace LinePeriod

theorem refl (l : LineNo) (s : State) : LinePeriod l s s :=
  ⟨fun _ _ => ⟨rfl, rfl, rfl, rfl⟩, rfl, rfl, rfl, rfl, rfl, rfl, rfl, rfl, rfl, rfl⟩

theorem trans (h : LinePeriod l s t) (k : LinePeriod l t u) : LinePeriod l s u where
  others := State.OtherLines.trans h.others k.others
  tone := by rw [k.tone, h.tone]
  outside := State.SameOutside.trans h.outside k.outside

theorem of_only (h : OnlyLine l s t) (htone : t.tones[l] = { s.tones[l] with prompt := t.tones[l].prompt }) :
    LinePeriod l s t := ⟨h.otherLines, htone, h.sameOutside⟩

theorem onLine (s : State) (f : Line → Line) : LinePeriod l s (s.onLine l f) :=
  of_only ((OnlyLine.refl s).onLine f) rfl

theorem onPort (s : State) (f : Port → Port) : LinePeriod l s (s.onPort l f) :=
  of_only ((OnlyLine.refl s).onPort f) rfl

theorem prompt (s : State) (p : Prompt) : LinePeriod l s (s.prompt l p) :=
  of_only ((OnlyLine.refl s).prompt p) (by simp)

theorem onCoder (s : State) (f : Coder → Coder) : LinePeriod l s (s.onCoder l f) :=
  ⟨fun _ hm => ⟨rfl, onCoder_other s hm f, rfl, rfl⟩, rfl, rfl, rfl, rfl, rfl, rfl, rfl, rfl, rfl, rfl⟩

theorem count (s : State) (f : Counters → Counters) : LinePeriod l s (s.count f) :=
  ⟨fun _ _ => ⟨rfl, rfl, rfl, rfl⟩, rfl, rfl, rfl, rfl, rfl, rfl, rfl, rfl, rfl, rfl⟩

theorem report (s : State) (c : Instr) : LinePeriod l s (s.report c) :=
  ⟨fun _ _ => ⟨rfl, rfl, rfl, rfl⟩, rfl, rfl, rfl, rfl, rfl, rfl, rfl, rfl, rfl, rfl⟩

theorem onLetter (s : State) (i : LetterIx) (f : Letter → Letter) : LinePeriod l s (s.onLetter i f) :=
  ⟨fun _ _ => ⟨rfl, rfl, rfl, rfl⟩, rfl, rfl, rfl, rfl, rfl, rfl, rfl, rfl, rfl, rfl⟩

theorem of_pass (h : PassWork l s t) : LinePeriod l s t := by
  refine ⟨h.otherLines, ?_, h.sameOutside⟩
  rw [h.tones]

theorem of_sealed {n : Nat} (h : PassSealed l i n s t) : LinePeriod l s t := by
  obtain ⟨hrest, -, -, -, hothers, -, -⟩ := h
  have htones : t.tones = s.tones := by rw [hrest]
  have hports : t.ports = s.ports := by rw [hrest]
  refine ⟨fun m hm => ?_, by rw [htones], by rw [hrest]; exact ⟨rfl, rfl, rfl, rfl, rfl, rfl, rfl, rfl, rfl⟩⟩
  obtain ⟨hline, hcoder⟩ := hothers m hm
  exact ⟨hline, hcoder, congrArg (·[m]) htones, congrArg (·[m]) hports⟩

end LinePeriod

/-! ### A slice coded and pushed (R54, R55, R84, R85, R88) -/

/-- A commit that fails has changed nothing, and its line has a pass (R16 to R18). -/
theorem leaveHold_failed {f : PassFail} (hleave : s.leaveHold l h = (v, some f)) :
    v = s ∧ ∃ i x p, s.passOf l = some (i, x, p) := by
  unfold leaveHold at hleave
  split at hleave
  case h_1 => cases hleave
  case h_2 i x p hpass =>
    split at hleave
    case isTrue => cases hleave
    case isFalse =>
      split at hleave
      case h_1 =>
        cases hleave
        exact ⟨rfl, i, x, p, hpass⟩
      case h_2 =>
        dsimp only at hleave
        split at hleave <;> cases hleave

/-- A slice joins the Hold Buffer, and auto-pause is owed at the limit (R85, R88). -/
def holdAdded (s : State) (l : LineNo) (h : HoldSlice) : State :=
  when (h.speech = false && s.bus.ctl.settings.autoPauseSlices ≤ s.lines[l].autoRun) (·.report (.autoPause l))
    (s.onLine l fun c => { c with hold := c.hold ++ [h] })

/-- The line after a commit that failed (R16 to R18). -/
def passFailed (s : State) (l : LineNo) (f : PassFail) : State := ((s.failPass l f).goto l .ready).prompt l f.prompt

theorem holdAdded_eq (s : State) (l : LineNo) (h : HoldSlice) : ∃ r, s.holdAdded l h =
    { s.onLine l fun c => { c with hold := c.hold ++ [h] } with reports := r } := by
  unfold holdAdded when
  split <;> exact ⟨_, rfl⟩

theorem holdAdded_owes (hspeech : h.speech = false)
    (hrun : s.bus.ctl.settings.autoPauseSlices ≤ s.lines[l].autoRun) : .autoPause l ∈ (s.holdAdded l h).reports := by
  have hdue : (h.speech = false && s.bus.ctl.settings.autoPauseSlices ≤ s.lines[l].autoRun : Bool) = true := by
    simpa [hspeech] using hrun
  rw [holdAdded, when, if_pos hdue]
  simp

theorem pushHold_of_short (hlen : s.lines[l].hold.length < 3) : s.pushHold l h = s.holdAdded l h := by
  unfold pushHold holdAdded
  cases hhold : s.lines[l].hold with
  | nil => simp only [onLine_same]; rfl
  | cons old rest =>
    rw [hhold] at hlen
    have hroom : ¬Config.holdSlices ≤ (old :: rest).length := Nat.not_le_of_lt hlen
    simp only [if_neg hroom, onLine_same]
    rfl

/-- The state from which the oldest slice of a full Hold Buffer leaves. -/
def oldestOut (s : State) (l : LineNo) (rest : List HoldSlice) : State := s.onLine l fun c => { c with hold := rest }

theorem pushHold_of_full {old : HoldSlice} {rest : List HoldSlice} (hhold : s.lines[l].hold = old :: rest)
    (hlen : 3 ≤ (old :: rest).length) (hleave : (s.oldestOut l rest).leaveHold l old = (v, none)) :
    s.pushHold l h = v.holdAdded l h := by
  have hfull : Config.holdSlices ≤ (old :: rest).length := hlen
  have hleave' : (s.onLine l fun c => { c with hold := rest }).leaveHold l old = (v, none) := hleave
  unfold pushHold holdAdded
  simp only [hhold, if_pos hfull, hleave', onLine_same]
  rfl

theorem pushHold_of_failed {old : HoldSlice} {rest : List HoldSlice} {f : PassFail}
    (hhold : s.lines[l].hold = old :: rest) (hlen : 3 ≤ (old :: rest).length)
    (hleave : (s.oldestOut l rest).leaveHold l old = (v, some f)) :
    s.pushHold l h = (s.oldestOut l rest).passFailed l f := by
  have hfull : Config.holdSlices ≤ (old :: rest).length := hlen
  have hleave' : (s.onLine l fun c => { c with hold := rest }).leaveHold l old = (v, some f) := hleave
  obtain ⟨rfl, -⟩ := leaveHold_failed hleave
  unfold pushHold
  simp only [hhold, if_pos hfull, hleave']
  rfl

theorem holdAdded_period (s : State) (l : LineNo) (h : HoldSlice) : LinePeriod l s (s.holdAdded l h) := by
  unfold holdAdded when
  split
  · exact (LinePeriod.onLine s _).trans (.report _ _)
  · exact .onLine s _

theorem passFailed_period (hi : s.lines[l].attached = some i) (f : PassFail) :
    LinePeriod l s (s.passFailed l f) :=
  ((LinePeriod.of_sealed (failPass_sealed hi f)).trans (.onLine _ _)).trans (.prompt _ _)

/-- The three ways of a push: it joins, it joins after a commit, or the commit fails (R85). -/
theorem pushHold_cases (s : State) (l : LineNo) (h : HoldSlice) :
    (s.lines[l].hold.length < 3 ∧ s.pushHold l h = s.holdAdded l h) ∨
    ∃ old rest v f, s.lines[l].hold = old :: rest ∧ 3 ≤ (old :: rest).length ∧
      (s.oldestOut l rest).leaveHold l old = (v, f) ∧
      ((f = none ∧ s.pushHold l h = v.holdAdded l h) ∨
        ∃ g, f = some g ∧ s.pushHold l h = (s.oldestOut l rest).passFailed l g) := by
  by_cases hlen : s.lines[l].hold.length < 3
  · exact .inl ⟨hlen, pushHold_of_short hlen⟩
  · right
    have hfull : 3 ≤ s.lines[l].hold.length := Nat.le_of_not_lt hlen
    obtain ⟨old, rest, hhold⟩ := List.exists_cons_of_length_pos (Nat.lt_of_lt_of_le (by decide : 0 < 3) hfull)
    rw [hhold] at hfull
    generalize hleave : (s.oldestOut l rest).leaveHold l old = r
    obtain ⟨v, f⟩ := r
    refine ⟨old, rest, v, f, hhold, hfull, hleave, ?_⟩
    cases f with
    | none => exact .inl ⟨rfl, pushHold_of_full hhold hfull hleave⟩
    | some g => exact .inr ⟨g, rfl, pushHold_of_failed hhold hfull hleave⟩

theorem leaveHold_attached {f : PassFail} (hleave : s.leaveHold l h = (v, some f)) :
    ∃ i x, s.lines[l].attached = some i ∧ s.letters[i] = some x := by
  obtain ⟨-, i, x, p, hpass⟩ := leaveHold_failed hleave
  obtain ⟨hi, hx, -⟩ := passOf_spec hpass
  exact ⟨i, x, hi, hx⟩

theorem pushHold_period (s : State) (l : LineNo) (h : HoldSlice) : LinePeriod l s (s.pushHold l h) := by
  rcases pushHold_cases s l h with ⟨-, hpush⟩ | ⟨old, rest, v, f, -, -, hleave, ⟨rfl, hpush⟩ | ⟨g, rfl, hpush⟩⟩
  · rw [hpush]
    exact holdAdded_period s l h
  · have hwork := leaveHold_work (s.oldestOut l rest) l old
    rw [hleave] at hwork
    rw [hpush]
    exact ((LinePeriod.onLine s _).trans (.of_pass hwork)).trans (holdAdded_period v l h)
  · obtain ⟨i, -, hi, -⟩ := leaveHold_attached hleave
    rw [hpush]
    exact (LinePeriod.onLine s _).trans (passFailed_period hi g)

@[simp] theorem holdAdded_lines (s : State) (l : LineNo) (h : HoldSlice) : (s.holdAdded l h).lines =
    s.lines.set l { s.lines[l] with hold := s.lines[l].hold ++ [h] } := by
  obtain ⟨r, heq⟩ := holdAdded_eq s l h
  rw [heq]
  rfl

theorem passFailed_state (s : State) (l : LineNo) (f : PassFail) : (s.passFailed l f).lines[l].state = .ready := by
  simp [passFailed, goto]

/-- A push leaves the line RECORDING, or READY after a commit that failed. -/
theorem pushHold_state (hst : s.LineIn l .recording) :
    (s.pushHold l h).LineIn l .recording ∨ (s.pushHold l h).LineIn l .ready := by
  rcases pushHold_cases s l h with ⟨-, hpush⟩ | ⟨old, rest, v, f, -, -, hleave, ⟨rfl, hpush⟩ | ⟨g, rfl, hpush⟩⟩
  · left
    have hstate : s.lines[l].state = .recording := hst
    rw [hpush, LineIn]
    simpa using hstate
  · left
    have hwork := leaveHold_work (s.oldestOut l rest) l old
    rw [hleave] at hwork
    have hold : s.lines[l].state = .recording := hst
    have hstate : v.lines[l].state = .recording := by
      rw [hwork.line]
      simpa [oldestOut] using hold
    rw [hpush, LineIn]
    simpa using hstate
  · right
    rw [hpush]
    exact passFailed_state _ l g

/-- The slice as the Coder gives it at a tier (R54 to R59). -/
def codedSlice (tier : Tier) (entry : Coding) (y : InSlice) : HoldSlice :=
  if y.speech = true then
    ⟨.voiced tier entry (packBits (codeSamples tier entry (sliceInts y.samples)).1), y.toneTouched, true,
      (codeSamples tier entry (sliceInts y.samples)).2⟩
  else ⟨.silence, y.toneTouched, false, .zero⟩

theorem codedSlice_eq (tier : Tier) (entry : Coding) (y : InSlice) :
    codedSlice tier entry y = ⟨(codeSlice tier entry y.speech y.samples).1, y.toneTouched, y.speech,
      (codeSlice tier entry y.speech y.samples).2⟩ := by
  obtain ⟨samples, touched, speech⟩ := y
  cases speech <;> rfl

theorem codedSlice_speech (tier : Tier) (entry : Coding) (y : InSlice) : (codedSlice tier entry y).speech = y.speech := by
  rw [codedSlice_eq]

/-- A line whose Coder has coded a slice and whose auto-pause run counts it (R88). -/
def coded (s : State) (l : LineNo) (y : InSlice) (h : HoldSlice) : State :=
  (s.onCoder l fun c => { c with coding := h.exit }).onLine l fun c =>
    { c with autoRun := if y.speech = true then 0
                        else min s.bus.ctl.settings.autoPauseSlices (s.lines[l].autoRun + 1) }

theorem worse_of_code {base pressure tier : Tier} (h : tier.code = max base.code pressure.code) :
    base.worse pressure = tier := by
  cases base <;> cases pressure <;> cases tier <;> simp [Tier.code] at h <;> rfl

theorem recordSlice_of_seen (hseen : s.tones[l].keySeen = true) :
    s.recordSlice l y = s.count fun c => { c with discardedTone := c.discardedTone + 1 } := if_pos hseen

theorem recordSlice_of_unseen (hseen : s.tones[l].keySeen = false) {tier : Tier}
    (htier : tier.code = max s.bus.ctl.settings.tier.code s.seg.tier.code) (y : InSlice) :
    s.recordSlice l y = (s.coded l y (codedSlice tier s.coders[l].coding y)).pushHold l
      (codedSlice tier s.coders[l].coding y) := by
  have hunseen : ¬s.tones[l].keySeen = true := by rw [hseen]; decide
  rw [recordSlice, if_neg hunseen]
  dsimp only
  rw [worse_of_code htier, codedSlice_eq]
  rfl

theorem exists_tier (base pressure : Tier) : ∃ tier : Tier, tier.code = max base.code pressure.code := by
  cases base <;> cases pressure
  · exact ⟨.a, rfl⟩
  · exact ⟨.b, rfl⟩
  · exact ⟨.c, rfl⟩
  · exact ⟨.b, rfl⟩
  · exact ⟨.b, rfl⟩
  · exact ⟨.c, rfl⟩
  · exact ⟨.c, rfl⟩
  · exact ⟨.c, rfl⟩
  · exact ⟨.c, rfl⟩

theorem coded_period (s : State) (l : LineNo) (y : InSlice) (h : HoldSlice) : LinePeriod l s (s.coded l y h) :=
  (LinePeriod.onCoder s _).trans (.onLine _ _)

/-- A RECORDING line's slice: what it leaves of other lines, and the line's state after it. -/
theorem recordSlice_period (s : State) (l : LineNo) (y : InSlice) : LinePeriod l s (s.recordSlice l y) := by
  cases hseen : s.tones[l].keySeen with
  | true =>
    rw [recordSlice_of_seen hseen]
    exact .count s _
  | false =>
    obtain ⟨tier, htier⟩ := exists_tier s.bus.ctl.settings.tier s.seg.tier
    rw [recordSlice_of_unseen hseen htier]
    exact (coded_period s l y _).trans (pushHold_period _ _ _)

theorem recordSlice_state (hst : s.LineIn l .recording) :
    (s.recordSlice l y).LineIn l .recording ∨ (s.recordSlice l y).LineIn l .ready := by
  cases hseen : s.tones[l].keySeen with
  | true =>
    rw [recordSlice_of_seen hseen]
    exact .inl hst
  | false =>
    obtain ⟨tier, htier⟩ := exists_tier s.bus.ctl.settings.tier s.seg.tier
    rw [recordSlice_of_unseen hseen htier]
    have hstate : s.lines[l].state = .recording := hst
    exact pushHold_state (by rw [LineIn]; simpa [coded] using hstate)

/-! ### The period's end on one line (R66, R84, R102) -/

theorem when_true (f : State → State) (s : State) : when true f s = f s := rfl

theorem when_false (f : State → State) (s : State) : when false f s = s := rfl

/-- A line sends zeros, and its new period starts. -/
def quietPeriod (s : State) (l : LineNo) : State := (s.cutOff l).newPeriod l

theorem endPeriod_recording (hst : s.LineIn l .recording) (y : InSlice) :
    s.endPeriod l y = (s.recordSlice l y).quietPeriod l := by
  have hstate : s.lines[l].state = .recording := hst
  have hafter : (s.recordSlice l y).lines[l].state ≠ .playing := by
    rcases recordSlice_state (y := y) hst with h | h <;> rw [h] <;> decide
  have hplaying : ((s.recordSlice l y).lines[l].state == .playing) = false := by simpa using hafter
  have hquiet : ((s.recordSlice l y).lines[l].state != .playing) = true := by simpa using hafter
  simp only [endPeriod, hstate, beq_self_eq_true, when_true, hplaying, when_false, hquiet]
  rfl

theorem endPeriod_idle (hrecording : ¬ s.LineIn l .recording) (hplaying : ¬ s.LineIn l .playing) (y : InSlice) :
    s.endPeriod l y = s.quietPeriod l := by
  have h1 : (s.lines[l].state == .recording) = false := by simpa using hrecording
  have h2 : (s.lines[l].state == .playing) = false := by simpa using hplaying
  have h3 : (s.lines[l].state != .playing) = true := by simpa using hplaying
  simp only [endPeriod, h1, when_false, h2, h3, when_true]
  rfl

theorem endPeriod_playing (hst : s.LineIn l .playing) (y : InSlice) : s.endPeriod l y =
    (when ((s.playSlice l).lines[l].state != .playing) (·.cutOff l) (s.playSlice l)).newPeriod l := by
  have hstate : s.lines[l].state = .playing := hst
  have h1 : (LineState.playing == .recording) = false := by decide
  simp only [endPeriod, hstate, h1, when_false, beq_self_eq_true, when_true]

theorem playSlice_period (s : State) (l : LineNo) : LinePeriod l s (s.playSlice l) := by
  unfold playSlice
  split
  · exact .onPort s _
  · split
    · exact ((LinePeriod.onPort s _).trans (.onLine _ _)).trans (.prompt _ _)
    · split
      · exact .onPort s _
      · exact (LinePeriod.onPort s _).trans (.onLetter _ _ _)

/-- A line after a period: fresh flags, no samples, and the key mark of the new period (R84, R102). -/
structure PeriodEnded (l : LineNo) (s t : State) : Prop where
  others : OtherLines l s t
  outside : SameOutside s t
  inbound : t.ports[l].inbound = []
  touched : t.tones[l].toneTouched = false
  speech : t.tones[l].speech = false
  keySeen : t.tones[l].keySeen = s.tones[l].keyDown.isSome

theorem LinePeriod.newPeriod (h : LinePeriod l s t) : PeriodEnded l s (t.newPeriod l) := by
  have hothers : OtherLines l t (t.newPeriod l) :=
    (((OnlyLine.refl t).onTone fun k =>
      { k with toneTouched := false, speech := false, keySeen := k.keyDown.isSome }).onPort fun p =>
        { p with inbound := [] }).otherLines
  have hdown : t.tones[l].keyDown = s.tones[l].keyDown := by rw [h.tone]
  refine ⟨h.others.trans hothers, h.outside, by simp [State.newPeriod], by simp [State.newPeriod],
    by simp [State.newPeriod], ?_⟩
  rw [← hdown]
  simp [State.newPeriod]

theorem endPeriod_ended (s : State) (l : LineNo) (y : InSlice) : PeriodEnded l s (s.endPeriod l y) := by
  by_cases hrecording : s.LineIn l .recording
  · rw [endPeriod_recording hrecording]
    exact ((recordSlice_period s l y).trans (.onPort _ _)).newPeriod
  · by_cases hplaying : s.LineIn l .playing
    · rw [endPeriod_playing hplaying]
      unfold when
      split
      · exact ((playSlice_period s l).trans (.onPort _ _)).newPeriod
      · exact (playSlice_period s l).newPeriod
    · rw [endPeriod_idle hrecording hplaying]
      exact (LinePeriod.onPort s _).newPeriod

end Sys2Proof.Machine.State
end

section
/-! What a period's end does to a PLAYING line, a RECORDING line, and all lines (R16 to R18, R66, R67, R84, R85). -/

namespace Sys2Proof.Machine.State

variable {s t u v : State} {l : LineNo} {i : LetterIx} {x : Letter} {y : InSlice} {h : HoldSlice}

theorem quietPeriod_sounds {p : Prompt} (h : s.Sounds l p) : (s.quietPeriod l).Sounds l p := by
  rw [Sounds] at h ⊢
  rw [← h]
  simp [quietPeriod, newPeriod, cutOff]

/-! ### Playing (R66, R67) -/

theorem playSlice_sends (hletter : s.lineLetter l = some (i, x)) (hlt : x.cursor < x.length)
    (hquiet : s.tones[l].prompt = none) : s.playSlice l =
      (s.onPort l fun p => { p with outbound := some (s.playedSlice x) }).moveCursor i fun c _ => c + 1 := by
  have hnot : ¬x.length ≤ x.cursor := Nat.not_le_of_lt hlt
  simp only [playSlice, hletter, if_neg hnot, hquiet]
  rfl

theorem playSlice_pauses (hletter : s.lineLetter l = some (i, x)) (hlt : x.cursor < x.length)
    (hprompt : s.tones[l].prompt ≠ none) : s.playSlice l = s.cutOff l := by
  have hnot : ¬x.length ≤ x.cursor := Nat.not_le_of_lt hlt
  simp only [playSlice, hletter, if_neg hnot, Option.isSome_iff_ne_none.mpr hprompt, if_true]

theorem playSlice_ends (hletter : s.lineLetter l = some (i, x)) (hle : x.length ≤ x.cursor) :
    s.playSlice l = (s.cutOff l).endPlayback l := by
  simp only [playSlice, hletter, if_pos hle]

theorem playSlice_seg (s : State) (l : LineNo) : (s.playSlice l).seg = s.seg := by
  unfold playSlice
  split
  · rfl
  · split
    · rfl
    · split <;> rfl

/-- A line still PLAYING after its slice starts its new period as it is. -/
theorem endPeriod_plays (hst : s.LineIn l .playing) (hafter : (s.playSlice l).LineIn l .playing) (y : InSlice) :
    s.endPeriod l y = (s.playSlice l).newPeriod l := by
  have hstate : (s.playSlice l).lines[l].state = .playing := hafter
  rw [endPeriod_playing hst, hstate]
  rfl

/-- Settles O16: the four branches of a PLAYING line's period. -/
theorem playingPeriod : Obligations.PlayingPeriod := by
  unfold Obligations.PlayingPeriod
  intro s l i x y ⟨hst, hi, hx⟩
  have hletter := lineLetter_of_attached hi hx
  refine ⟨fun hlt hquiet => ?sends, fun hlt hprompt => ?pauses, fun hle => ?ends, ?seg, (endPeriod_ended s l y).others⟩
  case sends =>
    have hplay := playSlice_sends hletter hlt hquiet
    have hafter : (s.playSlice l).LineIn l .playing := by
      rw [hplay]
      exact hst
    have hx' : s.letters[i.val] = some x := hx
    rw [endPeriod_plays hst hafter, hplay]
    refine ⟨by simp [newPeriod, moveCursor], by simp [newPeriod, moveCursor, hx'], rfl, fun j hj => ?_⟩
    simp [newPeriod, moveCursor, Fin.val_inj, hj.symm]
  case pauses =>
    have hplay := playSlice_pauses hletter hlt hprompt
    have hafter : (s.playSlice l).LineIn l .playing := by
      rw [hplay]
      exact hst
    rw [endPeriod_plays hst hafter, hplay]
    exact ⟨by simp [newPeriod, cutOff], rfl, rfl⟩
  case ends =>
    have hplay := playSlice_ends hletter hle
    have hready : ((s.cutOff l).endPlayback l).lines[l].state ≠ .playing := by simp [endPlayback, goto, cutOff]
    have hcut : (((s.cutOff l).endPlayback l).lines[l].state != .playing) = true := by simpa using hready
    rw [endPeriod_playing hst, hplay, hcut, when_true]
    exact ⟨by simp [newPeriod, cutOff, endPlayback, goto], quietPeriod_sounds (prompt_sounds _ l .ending), rfl,
      by simp [newPeriod, cutOff]⟩
  case seg =>
    rw [endPeriod_playing hst]
    unfold when
    split <;> exact playSlice_seg s l

/-! ### Recording (R16 to R18, R84, R85, R88) -/

/-- What the line's new period leaves of its work: lines, Coders, letters, segment memory, the bus side and the
steps owed stay. -/
theorem quietPeriod_parts (s : State) (l : LineNo) : (s.quietPeriod l).lines = s.lines ∧
    (s.quietPeriod l).coders = s.coders ∧ (s.quietPeriod l).letters = s.letters ∧ (s.quietPeriod l).seg = s.seg ∧
    (s.quietPeriod l).bus = s.bus ∧ (s.quietPeriod l).reports = s.reports :=
  ⟨rfl, rfl, rfl, rfl, rfl, rfl⟩

theorem holdAdded_parts (s : State) (l : LineNo) (h : HoldSlice) : (s.holdAdded l h).coders = s.coders ∧
    (s.holdAdded l h).letters = s.letters ∧ (s.holdAdded l h).seg = s.seg ∧ (s.holdAdded l h).bus = s.bus := by
  obtain ⟨r, heq⟩ := holdAdded_eq s l h
  rw [heq]
  exact ⟨rfl, rfl, rfl, rfl⟩

/-- The line after a commit that failed: its pass has ended and it is READY (R15 to R18). -/
theorem passFailed_parts (hi : s.lines[l].attached = some i) (f : PassFail) :
    (s.passFailed l f).lines[l] = { s.lines[l] with state := .ready, hold := [], filling := none } ∧
    (s.passFailed l f).coders[l] = { s.coders[l] with exit := none, silence := 0 } ∧
    (s.passFailed l f).letters[i] = s.letters[i].map (fun y => { y with pass := none }) ∧
    PassOver l i s (s.passFailed l f) ∧ FailTold f l s (s.passFailed l f) := by
  obtain ⟨-, -, hline, hcoder, -, hletter, hdone⟩ := failPass_sealed hi f
  refine ⟨?_, hcoder, hletter, hdone, failPass_told hi f⟩
  have hmy : (s.passFailed l f).lines[l] = { (s.failPass l f).lines[l] with state := .ready } :=
    onLine_same (s.failPass l f) l fun c => { c with state := .ready }
  rw [hmy, hline]

/-- Auto-pause is owed by every push that leaves the line RECORDING at the limit (R88). -/
theorem pushHold_owes (hspeech : h.speech = false)
    (hrun : s.bus.ctl.settings.autoPauseSlices ≤ s.lines[l].autoRun) (hst : (s.pushHold l h).LineIn l .recording) :
    .autoPause l ∈ (s.pushHold l h).reports := by
  rcases pushHold_cases s l h with ⟨-, hpush⟩ | ⟨old, rest, v, f, -, -, hleave, ⟨rfl, hpush⟩ | ⟨g, rfl, hpush⟩⟩
  · rw [hpush]
    exact holdAdded_owes hspeech hrun
  · have hwork := leaveHold_work (s.oldestOut l rest) l old
    rw [hleave] at hwork
    rw [hpush]
    refine holdAdded_owes hspeech ?_
    have hrun' : v.lines[l].autoRun = s.lines[l].autoRun := by
      rw [hwork.line]
      simp [oldestOut]
    have hlimit : v.bus.ctl.settings = s.bus.ctl.settings := by
      rw [hwork.bus.ctl]
      rfl
    rw [hrun', hlimit]
    exact hrun
  · have hready := passFailed_state (s.oldestOut l rest) l g
    rw [hpush, LineIn, hready] at hst
    cases hst

/-- Settles O13: the three outcomes of the slice pushed. -/
theorem recordingPeriod : Obligations.RecordingPeriod := by
  unfold Obligations.RecordingPeriod
  intro s l x hst
  rw [endPeriod_recording hst]
  refine ⟨fun hseen => ?dropped, fun tier h u hseen htier hh hu => ?pushed⟩
  case dropped =>
    rw [recordSlice_of_seen hseen]
    exact ⟨rfl, rfl, rfl, rfl, rfl⟩
  case pushed =>
    have hcoded : h = codedSlice tier s.coders[l].coding x := hh
    have hstart : u = s.coded l x h := hu
    have hrecord : s.recordSlice l x = u.pushHold l h := by
      rw [recordSlice_of_unseen hseen htier, hstart, hcoded]
    have huhold : u.lines[l].hold = s.lines[l].hold := by rw [hstart]; simp [coded]
    have huattached : u.lines[l].attached = s.lines[l].attached := by rw [hstart]; simp [coded]
    have hufilling : u.lines[l].filling = s.lines[l].filling := by rw [hstart]; simp [coded]
    have huletters : u.letters = s.letters := by rw [hstart]; rfl
    have huseg : u.seg = s.seg := by rw [hstart]; rfl
    have hubus : u.bus = s.bus := by rw [hstart]; rfl
    obtain ⟨hlines, hcoders, hletters, hseg, hbus, hreports⟩ := quietPeriod_parts (u.pushHold l h) l
    rw [hrecord, hlines, hcoders, hletters, hseg, hbus, hreports]
    refine ⟨fun hlen => ?short, fun a b c v hhold hleave => ?full, fun i y a b c f v hi hy hhold hleave => ?failed,
      fun hspeech hrun hrecording => ?owed⟩
    case short =>
      obtain ⟨kcoders, kletters, kseg, kbus⟩ := holdAdded_parts u l h
      rw [pushHold_of_short (by rw [huhold]; exact hlen), kcoders, kletters, kseg, kbus]
      have hmy : (u.holdAdded l h).lines[l] = { u.lines[l] with hold := u.lines[l].hold ++ [h] } := by simp
      rw [hmy, huhold]
      exact ⟨rfl, rfl, huletters, huseg, hubus⟩
    case full =>
      have hold := huhold.trans hhold
      have hwork := leaveHold_work (u.oldestOut l [b, c]) l a
      have hleave' : (u.oldestOut l [b, c]).leaveHold l a = (v, none) := hleave
      rw [hleave'] at hwork
      have hvhold : v.lines[l].hold = [b, c] := by
        rw [hwork.line]
        simp [oldestOut]
      obtain ⟨kcoders, kletters, kseg, kbus⟩ := holdAdded_parts v l h
      rw [pushHold_of_full hold (Nat.le_refl 3) hleave', kcoders, kletters, kseg, kbus]
      refine ⟨?_, rfl, rfl, rfl, rfl⟩
      have hmy : (v.holdAdded l h).lines[l] = { v.lines[l] with hold := v.lines[l].hold ++ [h] } := by simp
      rw [hmy, hvhold]
      rfl
    case failed =>
      have hold := huhold.trans hhold
      have hout : (u.oldestOut l [b, c]).lines[l].attached = some i := by
        rw [oldestOut, onLine_same]
        exact huattached.trans hi
      obtain ⟨kline, kcoder, kletter, ⟨kbytes, kothers, kpool, kfill⟩, ktold⟩ := passFailed_parts hout f
      have hpush := pushHold_of_failed (h := h) hold (Nat.le_refl 3) hleave
      rw [hpush]
      have hline : (u.oldestOut l [b, c]).lines[l] = { u.lines[l] with hold := [b, c] } := onLine_same u l _
      have hbus : (u.oldestOut l [b, c]).bus = s.bus := hubus
      have hseg : (u.oldestOut l [b, c]).seg = s.seg := huseg
      have hletters : (u.oldestOut l [b, c]).letters = s.letters := huletters
      refine ⟨?_, kcoder, ?_, ?_, ⟨?_, ?_, ?_, ?_⟩, ?_⟩
      · rw [kline, hline]
      · rw [kletter, hletters, hy]
        rfl
      · refine quietPeriod_sounds ?_
        rw [← prompt_code]
        exact prompt_sounds _ l f.prompt
      · intro n
        rw [← hseg]
        exact kbytes n
      · intro j hj
        rw [← hletters]
        exact kothers j hj
      · rw [← hseg]
        exact kpool
      · intro n e hn he
        refine kfill n e ?_ he
        rw [hline]
        exact hufilling.trans hn
      · unfold FailTold at ktold ⊢
        rw [← hbus]
        exact ktold
    case owed =>
      have hslice : h.speech = false := by
        rw [hcoded, codedSlice_speech]
        exact hspeech
      refine pushHold_owes hslice ?_ hrecording
      have hautorun : u.lines[l].autoRun = min s.bus.ctl.settings.autoPauseSlices (s.lines[l].autoRun + 1) := by
        rw [hstart]
        simp [coded, hspeech]
      rw [hautorun, hubus]
      exact Nat.le_min.mpr ⟨Nat.le_refl _, hrun⟩

/-! ### The period's end on all lines (log 10) -/

theorem endPeriods_map (ls : List LineNo) (x : LineNo → InSlice) (s : State) :
    endPeriods ls (ls.map x) s = ls.foldl (fun u l => u.endPeriod l (x l)) s := by
  induction ls generalizing s with
  | nil => rfl
  | cons l ls ih => exact ih _

theorem endPeriods_sameOutside (ls : List LineNo) (ys : List InSlice) (s : State) :
    SameOutside s (endPeriods ls ys s) := by
  induction ls generalizing ys s with
  | nil => exact (LinePeriod.refl 0 s).outside
  | cons l ls ih => exact (endPeriod_ended s l (ys.headD ⟨[], false, false⟩)).outside.trans (ih ys.tail _)

/-- Two states have the same line: its context, its Coder, its Tone Unit and its port. -/
def SameBench (m : LineNo) (s t : State) : Prop :=
  t.lines[m] = s.lines[m] ∧ t.coders[m] = s.coders[m] ∧ t.tones[m] = s.tones[m] ∧ t.ports[m] = s.ports[m]

theorem endPeriods_of_notMem {m : LineNo} {ls : List LineNo} (hm : m ∉ ls) (ys : List InSlice) (s : State) :
    SameBench m s (endPeriods ls ys s) := by
  induction ls generalizing ys s with
  | nil => exact ⟨rfl, rfl, rfl, rfl⟩
  | cons l ls ih =>
    obtain ⟨hne, hrest⟩ := List.ne_and_not_mem_of_not_mem_cons hm
    obtain ⟨hline, hcoder, htone, hport⟩ := (endPeriod_ended s l (ys.headD ⟨[], false, false⟩)).others m hne
    obtain ⟨kline, kcoder, ktone, kport⟩ := ih hrest ys.tail (s.endPeriod l (ys.headD ⟨[], false, false⟩))
    exact ⟨kline.trans hline, kcoder.trans hcoder, ktone.trans htone, kport.trans hport⟩

/-- Each line of the list ends its period once, from the line as it was. -/
theorem endPeriods_of_mem {m : LineNo} {ls : List LineNo} (hnodup : ls.Nodup) (hm : m ∈ ls) (ys : List InSlice)
    (s : State) : ∃ u y, SameBench m s u ∧ SameBench m (u.endPeriod m y) (endPeriods ls ys s) := by
  induction ls generalizing ys s with
  | nil => cases hm
  | cons l ls ih =>
    obtain ⟨hnot, hrest⟩ := List.nodup_cons.mp hnodup
    rcases List.mem_cons.mp hm with rfl | hmem
    · exact ⟨s, _, ⟨rfl, rfl, rfl, rfl⟩, endPeriods_of_notMem hnot _ _⟩
    · have hne : m ≠ l := fun heq => hnot (heq ▸ hmem)
      obtain ⟨hline, hcoder, htone, hport⟩ := (endPeriod_ended s l (ys.headD ⟨[], false, false⟩)).others m hne
      obtain ⟨u, y, ⟨kline, kcoder, ktone, kport⟩, hend⟩ :=
        ih hrest hmem ys.tail (s.endPeriod l (ys.headD ⟨[], false, false⟩))
      exact ⟨u, y, ⟨kline.trans hline, kcoder.trans hcoder, ktone.trans htone, kport.trans hport⟩, hend⟩

/-- Settles O12: each line ends its period once, and no line's end touches another line. -/
theorem periodEnds : Obligations.PeriodEnds := by
  unfold Obligations.PeriodEnds
  intro s ys
  have hline := fun l => endPeriods_of_mem allLines_nodup (mem_allLines l) ys
    { s.taken (.slicePeriodEnd ys) with frames := 0 }
  have hexec : exec (.slicePeriodEnd ys) s =
      .next (endPeriods allLines ys { s.taken (.slicePeriodEnd ys) with frames := 0 }) := rfl
  have houtside := endPeriods_sameOutside allLines ys { s.taken (.slicePeriodEnd ys) with frames := 0 }
  refine ⟨_, hexec, ?frames, ?fresh, ?quiet, ?order, fun l x => (endPeriod_ended s l x).others⟩
  case frames =>
    obtain ⟨-, -, hframes, -⟩ := houtside
    exact hframes
  case fresh =>
    intro l
    obtain ⟨u, y, ⟨-, -, htone, -⟩, -, -, ktone, kport⟩ := hline l
    have hend := endPeriod_ended u l y
    rw [ktone, kport]
    refine ⟨hend.inbound, hend.touched, hend.speech, ?_⟩
    rw [hend.keySeen, htone]
    rfl
  case quiet =>
    intro l hrecording hplaying
    obtain ⟨u, y, ⟨hlines, hcoders, -, -⟩, klines, kcoders, -, kports⟩ := hline l
    have hstate : u.lines[l] = s.lines[l] := hlines
    have hidle := endPeriod_idle (s := u) (l := l) (by rw [LineIn, hstate]; exact hrecording)
      (by rw [LineIn, hstate]; exact hplaying) y
    obtain ⟨qlines, qcoders, -⟩ := quietPeriod_parts u l
    rw [klines, kcoders, kports, hidle, qlines, qcoders]
    exact ⟨hlines, hcoders, by simp [quietPeriod, newPeriod, cutOff]⟩
  case order =>
    rintro x rfl
    rw [List.ofFn_eq_map]
    exact endPeriods_map allLines x _

end Sys2Proof.Machine.State
end

section
/-! Line clear (R28, R53, R70, R87, R89, R92). -/

namespace Sys2Proof.Machine.State

variable {s t u v : State} {l : LineNo} {i : LetterIx} {x : Letter} {f : Option PassFail}

theorem exec_lineClear (hact : s.Active) (henabled : s.bus.ctl.settings.enables l = true) (hst : ¬ s.LineIn l .idle) :
    exec (.lineClear l) s = .next (((s.taken (.lineClear l)).takeLevel l false).clearLine l) := by
  have hactive : ((s.taken (.lineClear l)).takeLevel l false).isActive = true := by
    simpa [isActive, takeLevel] using hact
  exact congrArg Host.Outcome.next (if_pos ⟨hactive, henabled, hst⟩)

theorem holdAttached_of_some (hi : s.lines[l].attached = some i) : s.holdAttached l = s.holdLetter i := by
  rw [holdAttached, hi]

/-- A cleared line's own parts (R89). -/
theorem wipeLine_parts (s : State) (l : LineNo) : (s.wipeLine l).lines[l] = .reset ∧
    (s.wipeLine l).coders[l] = { s.coders[l] with coding := .zero } ∧
    (s.wipeLine l).tones[l] = { s.tones[l] with prompt := none } ∧
    (s.wipeLine l).ports[l] = { s.ports[l] with outbound := none } ∧
    OtherLines l s (s.wipeLine l) ∧ SameOutside s (s.wipeLine l) := by
  refine ⟨by simp, by simp [wipeLine, cutOff], by simp [wipeLine, cutOff], by simp [wipeLine, cutOff], fun m hm => ?_,
    rfl, rfl, rfl, rfl, rfl, rfl, rfl, rfl, rfl⟩
  have hnot := Fin.val_inj.not.mpr hm.symm
  simp [wipeLine, cutOff, hnot]

/-- The attached letter of a cleared line is held (R28). -/
theorem holdLetter_parts (s : State) (i : LetterIx) : (s.holdLetter i).letters[i] = s.letters[i].map (fun x =>
      { x with state := .held, line := none, partner := none, held := some s.bus.ctl.settings.holdMs }) ∧
    OtherLetters i s (s.holdLetter i) ∧ SameLines s (s.holdLetter i) ∧ SameUnits s (s.holdLetter i) ∧
    SameOutside s (s.holdLetter i) :=
  ⟨onLetter_same _ i _, fun _ hj => onLetter_other _ hj _, ⟨rfl, rfl, rfl, rfl⟩, ⟨rfl, rfl, rfl, rfl, rfl, rfl⟩,
    rfl, rfl, rfl, rfl, rfl, rfl, rfl, rfl, rfl⟩

/-- Line `l` has been cleared since `v`, with its letter, if it has one, held. -/
structure LineCleared (l : LineNo) (v t : State) : Prop where
  line : t.lines[l] = .reset
  coder : t.coders[l] = { v.coders[l] with coding := .zero }
  tone : t.tones[l] = { v.tones[l] with prompt := none }
  port : t.ports[l] = { v.ports[l] with outbound := none }
  others : OtherLines l v t
  units : SameUnits v t
  outside : SameOutside v t
  letter : ∀ i, v.lines[l].attached = some i → t.letters[i] = v.letters[i].map (fun x =>
    { x with state := .held, line := none, partner := none, held := some v.bus.ctl.settings.holdMs }) ∧ OtherLetters i v t
  free : v.lines[l].attached = none → t.letters = v.letters

theorem lineCleared (v : State) (l : LineNo) : LineCleared l v ((v.holdAttached l).wipeLine l) := by
  cases hi : v.lines[l].attached with
  | none =>
    obtain ⟨hline, hcoder, htone, hport, hothers, houtside⟩ := wipeLine_parts v l
    rw [holdAttached_of_none hi]
    exact ⟨hline, hcoder, htone, hport, hothers, ⟨rfl, rfl, rfl, rfl, rfl, rfl⟩, houtside,
      fun i h => absurd (hi.symm.trans h) (by simp), fun _ => rfl⟩
  | some i =>
    obtain ⟨hline, hcoder, htone, hport, hothers, houtside⟩ := wipeLine_parts (v.holdLetter i) l
    obtain ⟨kletter, kothers, -, -, -⟩ := holdLetter_parts v i
    rw [holdAttached_of_some hi]
    refine ⟨hline, hcoder, htone, hport, hothers, ⟨rfl, rfl, rfl, rfl, rfl, rfl⟩, houtside, fun j hj => ?_,
      fun h => absurd (hi.symm.trans h) (by simp)⟩
    obtain rfl : i = j := Option.some.inj (hi.symm.trans hj)
    exact ⟨kletter, kothers⟩

theorem clearLine_of_recording (hst : s.LineIn l .recording) :
    s.clearLine l = ((s.finishPass l).1.holdAttached l).wipeLine l := by
  have hstate : s.lines[l].state = .recording := hst
  rw [clearLine, if_pos hstate]
  rfl

/-- The RECORDING line `l` has been cleared since `s`: the flush of its Hold Buffer gave `u` and the failure `f`, and
its letter is held without a pass (R28, R87, R89). -/
structure RecordingCleared (l : LineNo) (i : LetterIx) (s u : State) (f : Option PassFail) (t : State) : Prop where
  line : t.lines[l] = .reset
  coder : t.coders[l] = .reset
  tone : t.tones[l] = { s.tones[l] with prompt := none }
  port : t.ports[l] = { s.ports[l] with outbound := none }
  letter : t.letters[i] = u.letters[i].map (fun y =>
    { y with
      state := .held, line := none, partner := none, pass := none
      held := some s.bus.ctl.settings.holdMs })
  done : PassOver l i u t
  told : ∀ g, f = some g → FailTold g l u t
  others : OtherLines l s t
  units : t.nums = s.nums ∧ t.xfer = s.xfer ∧ t.deliv = s.deliv ∧ t.peers = s.peers
  outside : SameOutside s t

theorem clearLine_recording (hst : s.LineIn l .recording) (hi : s.lines[l].attached = some i)
    (hflush : flushHold l s.lines[l].hold s = (u, f)) : RecordingCleared l i s u f (s.clearLine l) := by
  obtain ⟨-, hfinished⟩ := finishPass_finished hi hflush
  rw [clearLine_of_recording hst]
  generalize (s.finishPass l).1 = v at hfinished
  have hcleared := lineCleared v l
  generalize (v.holdAttached l).wipeLine l = t at hcleared
  obtain ⟨hwork, ⟨hrest, hbus, hline, hcoder, hothers, hletter, hbytes, hletters, hpool, hfill⟩, htold⟩ := hfinished
  have hattached : v.lines[l].attached = some i := by
    rw [hline, hwork.line]
    exact hi
  have hsettings : v.bus.ctl.settings = s.bus.ctl.settings := by rw [(hwork.bus.trans hbus.queued).ctl]
  have htones : v.tones = s.tones := by rw [hrest, ← hwork.tones]
  have hports : v.ports = s.ports := by rw [hrest, ← hwork.ports]
  obtain ⟨kletter, kletters⟩ := hcleared.letter i hattached
  obtain ⟨kbus, kseg, kpeers, knums, kxfer, kdeliv⟩ := hcleared.units
  refine ⟨hcleared.line, ?coder, ?tone, ?port, ?letter, ⟨?_, ?_, ?_, ?_⟩, fun g hg => ?told, ?others, ?units, ?outside⟩
  case coder =>
    rw [hcleared.coder, hcoder]
    rfl
  case tone => rw [hcleared.tone, htones]
  case port => rw [hcleared.port, hports]
  case letter =>
    rw [kletter, hletter, hsettings, Option.map_map]
    rfl
  · intro a
    rw [kseg]
    exact hbytes a
  · intro j hj
    exact (kletters j hj).trans (hletters j hj)
  · rw [kseg, hpool]
  · rw [kseg]
    exact hfill
  case told =>
    have hqueue := htold g hg
    unfold FailTold InQueue at hqueue ⊢
    rw [kbus]
    exact hqueue
  case others =>
    intro m hm
    obtain ⟨kl, kc, kt, kp⟩ := hcleared.others m hm
    obtain ⟨hl, hc, ht, hp⟩ := hwork.otherLines m hm
    obtain ⟨vl, vc⟩ := hothers m hm
    refine ⟨kl.trans (vl.trans hl), kc.trans (vc.trans hc), ?_, ?_⟩
    · rw [kt, htones]
    · rw [kp, hports]
  case units =>
    rw [knums, kxfer, kdeliv, kpeers, hrest]
    exact ⟨hwork.nums, hwork.xfer, hwork.deliv, hwork.peers⟩
  case outside =>
    have hu := hwork.sameOutside
    have hv : SameOutside u v := by
      rw [hrest]
      exact ⟨rfl, rfl, rfl, rfl, rfl, rfl, rfl, rfl, rfl⟩
    exact (hu.trans hv).trans hcleared.outside

/-- Settles O11: a line that does not record is wiped with its letter held; a recording line ends its pass first. -/
theorem lineClears : Obligations.LineClears := by
  unfold Obligations.LineClears
  intro s l hact henabled
  have hlevel := takeLevel_only (s.taken (.lineClear l)) l false
  have hstart : OnlyLine l s ((s.taken (.lineClear l)).takeLevel l false) := (OnlyLine.taken _).trans hlevel
  have hport : ((s.taken (.lineClear l)).takeLevel l false).ports[l].active = false := by simp
  refine ⟨fun hidle hrecording => ?plain, fun i x hw hempty => ?still, fun i x u f hw hflush => ?records⟩
  case plain =>
    have hexec := exec_lineClear hact henabled hidle
    rw [clearLine_of_not_recording (by rw [LineIn]; exact hrecording)] at hexec
    have hcleared := lineCleared ((s.taken (.lineClear l)).takeLevel l false) l
    refine ⟨_, hexec, hcleared.line, hcleared.coder, hcleared.tone, by rw [hcleared.port],
      by rw [hcleared.port]; exact hport, fun i x hi hx => ?_, hcleared.free, hstart.otherLines.trans hcleared.others,
      hcleared.units, hcleared.outside⟩
    obtain ⟨hletter, hothers⟩ := hcleared.letter i hi
    have hx' : ((s.taken (.lineClear l)).takeLevel l false).letters[i] = some x := hx
    rw [hletter, hx']
    exact ⟨rfl, hothers⟩
  case still =>
    obtain ⟨hst, hi, hx⟩ := hw
    have hidle : ¬ s.LineIn l .idle := by rw [LineIn, hst]; decide
    have hexec := exec_lineClear hact henabled hidle
    have hflush : flushHold l ((s.taken (.lineClear l)).takeLevel l false).lines[l].hold
        ((s.taken (.lineClear l)).takeLevel l false) = ((s.taken (.lineClear l)).takeLevel l false, none) := by
      rw [show ((s.taken (.lineClear l)).takeLevel l false).lines[l].hold = [] from hempty]
      rfl
    have hx' : ((s.taken (.lineClear l)).takeLevel l false).letters[i] = some x := hx
    obtain ⟨hline, hcoder, -, -, hletter, ⟨hbytes, hletters, -, -⟩, -, hothers, -, -⟩ :=
      clearLine_recording (s := (s.taken (.lineClear l)).takeLevel l false) hst hi hflush
    rw [hx'] at hletter
    exact ⟨_, _, hexec, hline, hletter, rfl, rfl, rfl, rfl, rfl, rfl, hcoder, hbytes, hstart.otherLines.trans hothers,
      hletters⟩
  case records =>
    obtain ⟨hst, hi, hx⟩ := hw
    have hidle : ¬ s.LineIn l .idle := by rw [LineIn, hst]; decide
    have hexec := exec_lineClear hact henabled hidle
    obtain ⟨hline, hcoder, htone, hends, hletter, hdone, htold, hothers, ⟨hnums, hxfer, hdeliv, hpeers⟩, houtside⟩ :=
      clearLine_recording (s := (s.taken (.lineClear l)).takeLevel l false) hst hi hflush
    refine ⟨_, hexec, hline, hcoder, htone, by rw [hends], by rw [hends]; exact hport, hdone, fun y hy => ?_, htold,
      hstart.otherLines.trans hothers, hnums, hxfer, hdeliv, hpeers, houtside⟩
    rw [hletter, hy]
    rfl

end Sys2Proof.Machine.State
end

section
/-! Letters freed, and the engine's look for work when nothing is under way (R4, R39, R174, R176, R177). -/

namespace Sys2Proof.Machine.State

variable {s t u v : State} {l : LineNo} {i j : LetterIx} {x : Letter}

/-! ### A letter freed (R4) -/

theorem sealAll_poolFree (bs : List Nat) (s : State) : (sealAll bs s).seg.poolFree = s.seg.poolFree := by
  induction bs generalizing s with
  | nil => rfl
  | cons b bs ih => rw [sealAll, ih, sealBlock_poolFree]

/-- The entry has been freed: its records and blocks went back, and it waits for no number (R4, R39). -/
structure LetterFreed (i : LetterIx) (x : Letter) (s t : State) : Prop where
  rest : t = { s with seg := t.seg, bus := t.bus, nums := t.nums, letters := t.letters }
  freed : Freed i x s t
  others : OtherLetters i s t
  bus : ∃ n, Bus.Raises n s.bus t.bus
  nums : t.nums = { s.nums with
    waiting := s.nums.waiting.filter (· ≠ i), window := s.nums.window.filter (·.letter ≠ i) }

theorem freeLetter_freed (hx : s.letters[i] = some x) : LetterFreed i x s (s.freeLetter i) := by
  have hrecords := dropRecords_work s x.chain.reverse
  have hpool := dropRecords_poolFree x.chain.reverse s
  have hbytes := mem_freeLetter s i
  have heq : s.freeLetter i = ((sealAll (((dropRecords x.chain.reverse s).seg.blocks.filter fun b =>
      b.owner == i && b.filler.isSome).map (·.num)) (dropRecords x.chain.reverse s)).onNums fun n =>
        { n with waiting := n.waiting.filter (· ≠ i), window := n.window.filter (·.letter ≠ i) }).setLetter i none := by
    unfold freeLetter
    rw [hx]
  rw [heq] at hbytes ⊢
  generalize dropRecords x.chain.reverse s = r at *
  have hseal := sealAll_work r ((r.seg.blocks.filter fun b => b.owner == i && b.filler.isSome).map (·.num))
  have hpool' := sealAll_poolFree ((r.seg.blocks.filter fun b => b.owner == i && b.filler.isSome).map (·.num)) r
  generalize sealAll ((r.seg.blocks.filter fun b => b.owner == i && b.filler.isSome).map (·.num)) r = q at *
  have hblocks := hrecords.trans hseal
  refine ⟨?rest, ⟨?entry, fun a => congrArg (Memory.read · a) hbytes, ?pool, ?waiting, ?window⟩, ?others, ⟨_, hblocks.bus⟩,
    ?nums⟩
  case rest =>
    have honly := hblocks.only
    unfold OnlySeg at honly
    rw [honly]
    rfl
  case entry => simp [setLetter]
  case pool =>
    change q.seg.poolFree = _
    rw [hpool', hpool, List.length_reverse]
  case waiting =>
    change q.nums.waiting.filter (· ≠ i) = _
    rw [hblocks.nums]
  case window =>
    change q.nums.window.filter (·.letter ≠ i) = _
    rw [hblocks.nums]
  case others =>
    intro j hj
    have hletters := hblocks.letters
    simp [setLetter, Fin.val_inj, hj.symm, hletters]
  case nums =>
    change ({ q.nums with waiting := _, window := _ } : Numbers) = _
    rw [hblocks.nums]

theorem freeLetter_of_free (h : s.letters[i] = none) : s.freeLetter i = s := by rw [freeLetter, h]

namespace LetterFreed

theorem sameLines (h : LetterFreed i x s t) : SameLines s t := by
  rw [h.rest]
  exact ⟨rfl, rfl, rfl, rfl⟩

theorem sameOutside (h : LetterFreed i x s t) : SameOutside s t := by
  rw [h.rest]
  exact ⟨rfl, rfl, rfl, rfl, rfl, rfl, rfl, rfl, rfl⟩

theorem xfer (h : LetterFreed i x s t) : t.xfer = s.xfer := by rw [h.rest]
theorem deliv (h : LetterFreed i x s t) : t.deliv = s.deliv := by rw [h.rest]
theorem peers (h : LetterFreed i x s t) : t.peers = s.peers := by rw [h.rest]
theorem reports (h : LetterFreed i x s t) : t.reports = s.reports := by rw [h.rest]

end LetterFreed

/-! ### The engine looks for work when nothing is under way (R174) -/

theorem look_of_not_startable (h : s.startable = none) : s.look = s := by rw [look, h]

theorem look_of_idle {st : Station} (hstart : s.startable = some (j, st)) (hactive : s.deliv.active = none)
    (hsuspended : s.deliv.suspended = none) : s.look = s.offerLetter j st := by
  rw [look, hstart]
  dsimp only
  rw [hactive]
  dsimp only
  rw [hsuspended]
  rfl

theorem resumeSuspended_of_none (h : s.deliv.suspended = none) : s.resumeSuspended = s := by rw [resumeSuspended, h]

/-- A failed Offer with nothing suspended: its letter is without progress, and the retry timer runs (R177). -/
theorem offerFailed_of_none {a : Machine.Active} (ha : s.deliv.active = some a) (hsuspended : s.deliv.suspended = none) :
    s.offerFailed = (((s.onLetter a.letter fun x => { x with progress := none }).clearActive).cancel
      .retryTimerExpiry).onDeliv fun d => { d with retry := some Config.retryMs } := by
  rw [offerFailed, ha]
  exact resumeSuspended_of_none hsuspended

/-- An Offer stands at the link, or waits to be placed (R176). -/
def offering (s : State) (i : LetterIx) (st : Station) : State :=
  { (s.onLetter i fun y => { y with progress := some ⟨0, 0, crc32Start, st, none⟩ }).onDeliv fun d =>
      { d with active := some ⟨i, s.streamId, .offered, none, false, false, none⟩ } with
    streamId := s.streamId + 1 }

theorem offerLetter_eq (hx : s.letters[i] = some x) (st : Station) : s.offerLetter i st =
    if s.bus.accepts then (s.offering i st).onBus (Bus.place ⟨st, .offer (s.offerBody x), s.streamId⟩)
    else ((s.offering i st).onBus (Bus.place ⟨st, .offer (s.offerBody x), s.streamId⟩)).offerFailed := by
  rw [offerLetter, hx]
  rfl

theorem offerLetter_of_free (h : s.letters[i] = none) (st : Station) : s.offerLetter i st = s := by rw [offerLetter, h]

theorem onLetter_progress (hx : s.letters[j] = some x) (p : Option Progress) (i : LetterIx) :
    ∃ q, (s.onLetter i fun y => { y with progress := p }).letters[j] = some { x with progress := q } := by
  by_cases hij : j = i
  · subst hij
    exact ⟨p, by rw [onLetter_same, hx]; rfl⟩
  · exact ⟨x.progress, by rw [onLetter_other _ hij, hx]⟩

/-- An Offer changes of the letters their progress alone. -/
theorem offerLetter_letter (hsuspended : s.deliv.suspended = none) (hx : s.letters[j] = some x) (st : Station) :
    ∃ p, (s.offerLetter i st).letters[j] = some { x with progress := p } := by
  cases hi : s.letters[i] with
  | none =>
    rw [offerLetter_of_free hi]
    exact ⟨x.progress, hx⟩
  | some z =>
    obtain ⟨q, hq⟩ := onLetter_progress hx (some ⟨0, 0, crc32Start, st, none⟩) i
    rw [offerLetter_eq hi]
    split
    · exact ⟨q, hq⟩
    · rw [offerFailed_of_none
        (s := (s.offering i st).onBus (Bus.place ⟨st, .offer (s.offerBody z), s.streamId⟩)) rfl hsuspended]
      exact onLetter_progress
        (s := (s.offering i st).onBus (Bus.place ⟨st, .offer (s.offerBody z), s.streamId⟩)) hq none i

/-- With no delivery under way the engine's look changes of a letter its progress alone. -/
theorem look_letter (hactive : s.deliv.active = none) (hsuspended : s.deliv.suspended = none)
    (hx : s.letters[j] = some x) : ∃ p, s.look.letters[j] = some { x with progress := p } := by
  cases hstart : s.startable with
  | none =>
    rw [look_of_not_startable hstart]
    exact ⟨x.progress, hx⟩
  | some e =>
    obtain ⟨k, st⟩ := e
    rw [look_of_idle hstart hactive hsuspended]
    exact offerLetter_letter hsuspended hx st

/-! ### A letter closed (R25, R27, R30) -/

/-- The letter of an entry is CLOSED. -/
def closed (s : State) (i : LetterIx) : State := s.onLetter i fun x => { x with state := .closed, line := none }

theorem closed_letter (hx : s.letters[i] = some x) :
    (s.closed i).letters[i] = some { x with state := .closed, line := none } := by
  rw [closed, onLetter_same, hx]
  rfl

/-- The engine looks for work where the letter that closes has a number (R30, R174). -/
theorem closeLetter_eq (hx : s.letters[i] = some x) :
    s.closeLetter i = if x.number = 0 then s.closed i else (s.closed i).look := by
  have hqueued : (s.closed i).letters[i].any (·.queued) = (x.number != 0) := by
    rw [closed_letter hx]
    rfl
  have heq : s.closeLetter i = when ((s.closed i).letters[i].any (·.queued)) (·.look) (s.closed i) := rfl
  rw [heq, hqueued]
  unfold when
  by_cases hzero : x.number = 0 <;> simp [hzero]

/-- What closing a letter leaves besides the delivery engine's own. -/
theorem closeLetter_only (s : State) (i : LetterIx) : OnlyDeliv s (s.closeLetter i) := by
  have heq : s.closeLetter i = when ((s.closed i).letters[i].any (·.queued)) (·.look) (s.closed i) := rfl
  have hclosed : OnlyDeliv s (s.closed i) := rfl
  rw [heq]
  unfold when
  split
  · exact hclosed.trans (look_only _)
  · exact hclosed

/-- With no delivery under way a letter that closes keeps all but its state, its line and its progress. -/
theorem closeLetter_letter (hactive : s.deliv.active = none) (hsuspended : s.deliv.suspended = none)
    (hx : s.letters[i] = some x) :
    ∃ p, (s.closeLetter i).letters[i] = some { x with state := .closed, line := none, progress := p } := by
  have hclosed := closed_letter hx
  rw [closeLetter_eq hx]
  split
  · exact ⟨x.progress, hclosed⟩
  · exact look_letter (s := s.closed i) hactive hsuspended hclosed

end Sys2Proof.Machine.State
end

section
/-! The ends of a letter on a line: End of letter, Hold, and the held timer (R25 to R27, R82, R83). -/

namespace Sys2Proof.Machine.State

variable {s t u v : State} {l : LineNo} {i j : LetterIx} {x : Letter} {k : Key}

/-! ### The line lets its letter go -/

theorem KeyWorked.letGo (h : KeyWorked l k i s v t) : KeyWorked l k i s v (t.letGo l) :=
  ((h.onLine (fun c => { c with attached := none }) fun _ => rfl).onLine (fun c => { c with state := .select })
    fun _ => rfl).prompt .accepted

@[simp] theorem letGo_lines (s : State) (l : LineNo) :
    (s.letGo l).lines[l] = { s.lines[l] with state := .select, attached := none } := by
  simp [letGo, detachLine, goto]

/-- What End of letter leaves on the line and of the letter, from any state in which the key has been recognised. -/
structure LetterEnded (l : LineNo) (k : Key) (i : LetterIx) (y : Letter) (s v t : State) : Prop where
  line : t.lines[l] = { v.lines[l] with state := .select, attached := none }
  sounds : t.Sounds l .accepted
  coders : t.coders = v.coders
  others : OtherLines l s t
  idle : 0 < y.length → v.deliv.active = none → v.deliv.suspended = none →
    ∃ p, t.letters[i] = some { y with state := .closed, line := none, progress := p } ∧ t.seg = v.seg ∧ t.nums = v.nums
  closed : 0 < y.length → ∃ w, t = (if y.number = 0 then w else w.look) ∧
    w.letters[i] = some { y with state := .closed, line := none } ∧ KeyWorked l k i s v w ∧
    w.lines[l] = { v.lines[l] with state := .select, attached := none } ∧ w.Sounds l .accepted
  freed : y.length = 0 → t.letters[i] = none ∧ t.nums.waiting = v.nums.waiting.filter (· ≠ i) ∧
    t.seg.poolFree = v.seg.poolFree + y.chain.length ∧ SameBytes v t ∧ OtherLetters i v t

theorem endLetter_ended (h : KeyWorked l k i s v v) (hx : v.letters[i] = some x) :
    LetterEnded l k i x s v (v.endLetter l i x) := by
  have hgo := h.letGo
  have hline := letGo_lines v l
  have hsounds : (v.letGo l).Sounds l .accepted := prompt_sounds _ l .accepted
  have hx' : (v.letGo l).letters[i] = some x := hx
  have hcoders : (v.letGo l).coders = v.coders := rfl
  have hsame : (v.letGo l).deliv = v.deliv ∧ (v.letGo l).seg = v.seg ∧ (v.letGo l).nums = v.nums := ⟨rfl, rfl, rfl⟩
  obtain ⟨hdeliv, hseg, hnums⟩ := hsame
  have hletters : (v.letGo l).letters = v.letters := rfl
  by_cases hlen : 0 < x.length
  · have heq : v.endLetter l i x = (v.letGo l).closeLetter i := if_pos hlen
    have honly := closeLetter_only (v.letGo l) i
    obtain ⟨klines, kcoders, ktones, kports⟩ := honly.sameLines
    rw [heq]
    refine ⟨by rw [klines]; exact hline, by rw [Sounds, ktones]; exact hsounds, by rw [kcoders, hcoders], ?_,
      fun _ hactive hsuspended => ?idle, fun _ => ?closed, fun hzero => by omega⟩
    · obtain ⟨-, -, hothers, -⟩ := hgo.recognised
      intro m hm
      rw [klines, kcoders, ktones, kports]
      exact hothers m hm
    case idle =>
      obtain ⟨p, hp⟩ := closeLetter_letter (s := v.letGo l) (by rw [hdeliv]; exact hactive)
        (by rw [hdeliv]; exact hsuspended) hx'
      exact ⟨p, hp, honly.seg.trans hseg, honly.nums.trans hnums⟩
    case closed => exact ⟨_, closeLetter_eq hx', closed_letter hx', hgo.onLetter _, hline, hsounds⟩
  · have heq : v.endLetter l i x = (v.letGo l).freeLetter i := if_neg hlen
    have hfreed := freeLetter_freed hx'
    obtain ⟨klines, kcoders, ktones, kports⟩ := hfreed.sameLines
    rw [heq]
    refine ⟨by rw [klines]; exact hline, by rw [Sounds, ktones]; exact hsounds, by rw [kcoders, hcoders], ?_,
      fun hpos => absurd hpos hlen, fun hpos => absurd hpos hlen, fun _ => ?freed⟩
    · obtain ⟨-, -, hothers, -⟩ := hgo.recognised
      intro m hm
      rw [klines, kcoders, ktones, kports]
      exact hothers m hm
    case freed =>
      obtain ⟨hentry, hbytes, hpool, hwaiting, -⟩ := hfreed.freed
      exact ⟨hentry, hwaiting, hpool, hbytes, hfreed.others⟩

/-! ### Keys 9 and D in READY and PLAYING (R83) -/

/-- The key 9 or D taken by a READY or a PLAYING line: what the line does from there it does as in READY. -/
theorem keyRow_ends {c : Instr} (hrow : exec c s = .next ((s.taken c).keyRecognised l k)) (hfree : s.KeyFree l)
    (hw : s.Works l .ready i x ∨ s.Works l .playing i x) (hk : k = .k9 ∨ k = .kD) :
    ∃ v, exec c s = .next (v.readyKey l k) ∧ KeyWorked l k i s v v ∧ v.letters = s.letters ∧
      v.lineLetter l = some (i, x) ∧ SameUnits s v ∧ v.coders = s.coders ∧
      ∃ st, v.lines[l] = { s.lines[l] with state := st, key := some k } := by
  have hpressed := pressed_keyTaken s l c k
  rcases hw with ⟨hst, hi, hx⟩ | ⟨hst, hi, hx⟩
  · refine ⟨s.pressed l c k, ?_, hpressed.recognised.worked i, hpressed.only.letters, lineLetter_pressed c k hi hx,
      hpressed.only.sameUnits, rfl, .ready, ?_⟩
    · rw [keyRow_acts hrow hfree hst (by decide), keyActs_ready k (pressed_lineIn _ k hst)]
    · have hstate : s.lines[l.val].state = .ready := hst
      simp [← hstate]
  · have hstopped : KeyWorked l k i s s ((s.pressed l c k).stopPlaying l) :=
      ((pressed_keyWorked s l c k i).onPort fun p => { p with outbound := none }).onLine
        (fun c => { c with state := .ready }) fun _ => rfl
    have hi' : ((s.pressed l c k).stopPlaying l).lines[l].attached = some i := by
      simpa [stopPlaying, goto, cutOff] using hi
    refine ⟨(s.pressed l c k).stopPlaying l, ?_, hstopped.recognised.worked i, rfl, lineLetter_of_attached hi' hx,
      hstopped.units, rfl, .ready, ?_⟩
    · rw [keyRow_acts hrow hfree hst (by decide), keyActs_playing k (pressed_lineIn _ k hst)]
      rcases hk with rfl | rfl <;> rfl
    · simp [stopPlaying, goto, cutOff]

/-! ### Hold (R26) -/

theorem holdKey_eq (s : State) (l : LineNo) (i : LetterIx) : s.holdKey l i = (s.holdLetter i).letGo l := rfl

theorem KeyWorked.holdLetter (h : KeyWorked l k i s v t) : KeyWorked l k i s v (t.holdLetter i) where
  recognised := h.recognised
  letters := h.letters.trans fun _ hj => onLetter_other _ hj _
  units := h.units

/-- What Hold leaves, from any state in which the key has been recognised. -/
theorem holdKey_answers (h : KeyWorked l k i s v v) (hx : v.letters[i] = some x) :
    (v.holdKey l i).letters[i] = some { x with
        state := .held, line := none, partner := none, held := some v.bus.ctl.settings.holdMs } ∧
      (v.holdKey l i).lines[l] = { v.lines[l] with state := .select, attached := none } ∧
      (v.holdKey l i).Sounds l .accepted ∧ KeyWorked l k i s v (v.holdKey l i) ∧ (v.holdKey l i).coders = v.coders := by
  obtain ⟨hletter, -, -, -, -⟩ := holdLetter_parts v i
  rw [hx] at hletter
  exact ⟨hletter, letGo_lines _ l, prompt_sounds _ l .accepted, h.holdLetter.letGo, rfl⟩

/-! ### The held timer (R27) -/

theorem exec_heldTimerExpiry_due (hx : s.letters[i] = some x) (hst : x.state = .held) (htimer : x.held ≠ none) :
    exec (.heldTimerExpiry i) s = .next ((s.taken (.heldTimerExpiry i)).expireHeld i x) := by
  have hx' : (s.taken (.heldTimerExpiry i)).letters[i] = some x := hx
  change Host.Outcome.next _ = _
  rw [hx']
  exact congrArg Host.Outcome.next (if_pos ⟨hst, Option.isSome_iff_ne_none.mpr htimer⟩)

/-- A letter whose held timer runs out is marked unfinished, and the event is raised (R27). -/
def unfinished (s : State) (i : LetterIx) (x : Letter) : State :=
  (s.onLetter i fun y => { y with unfinished := true, held := none }).raise (.closedUnfinished x.number x.author)

theorem expireHeld_of_pos (h : 0 < x.length) : s.expireHeld i x = (s.unfinished i x).closeLetter i := if_pos h

theorem expireHeld_of_empty (h : x.length = 0) : s.expireHeld i x = s.freeLetter i :=
  if_neg (by omega)

/-- A raised event has the next number of the event sequence. -/
theorem raise_eventSeq (b : Bus) (e : Event) : (b.raise e).ctl.eventSeq = b.ctl.eventSeq + 1 := by
  unfold Bus.raise
  dsimp only
  split
  · rfl
  · split <;> rfl

/-- Settles O27: each way the letter closes, is freed or is held. -/
theorem letterEnds : Obligations.LetterEnds := by
  unfold Obligations.LetterEnds
  refine ⟨fun s l i x hfree => ⟨fun hw => ⟨?closesIdle, ?closes, ?frees, ?holds⟩, fun u f hw => ⟨?passCloses, ?passHolds⟩⟩,
    fun s i x hx hst htimer => ⟨?expiresIdle, ?expires, ?expiresEmpty⟩⟩
  case closesIdle =>
    intro hlen hactive hsuspended
    obtain ⟨v, hexec, hworked, hletters, hletter, ⟨hbus, hseg, -, hnums, -, hdeliv⟩, -, st, hline⟩ :=
      keyRow_ends (c := .endOfLetter l) rfl hfree hw (.inl rfl)
    have hx := works_letter hw
    rw [readyKey_k9 hletter] at hexec
    have hended := endLetter_ended hworked (by rw [hletters]; exact hx)
    obtain ⟨p, hp, hs, hn⟩ := hended.idle hlen (by rw [hdeliv]; exact hactive) (by rw [hdeliv]; exact hsuspended)
    refine ⟨_, _, hexec, hp, rfl, rfl, rfl, rfl, rfl, ?_, hended.sounds, hs.trans hseg, hn.trans hnums, hended.others⟩
    rw [hended.line, hline]
  case closes =>
    intro hlen
    obtain ⟨v, hexec, hworked, hletters, hletter, hunits, -, st, hline⟩ :=
      keyRow_ends (c := .endOfLetter l) rfl hfree hw (.inl rfl)
    have hx := works_letter hw
    rw [readyKey_k9 hletter] at hexec
    obtain ⟨w, heq, hwletter, hwork, hwline, hwsounds⟩ :=
      (endLetter_ended hworked (by rw [hletters]; exact hx)).closed hlen
    rw [heq] at hexec
    refine ⟨w, hexec, hwletter, ?_, ?_, hwsounds, hwork.recognised, hunits.trans hwork.units⟩
    · intro j hj
      rw [← hletters]
      exact hwork.letters j hj
    · rw [hwline, hline]
  case frees =>
    intro hlen
    obtain ⟨v, hexec, hworked, hletters, hletter, ⟨-, hseg, -, hnums, -, -⟩, -, st, hline⟩ :=
      keyRow_ends (c := .endOfLetter l) rfl hfree hw (.inl rfl)
    have hx := works_letter hw
    rw [readyKey_k9 hletter] at hexec
    have hended := endLetter_ended hworked (by rw [hletters]; exact hx)
    obtain ⟨hentry, hwaiting, hpool, hbytes, hothers⟩ := hended.freed hlen
    refine ⟨_, hexec, hentry, by rw [hended.line, hline], hended.sounds, by rw [hwaiting, hnums], by rw [hpool, hseg],
      fun a => ?_, fun j hj => ?_, hended.others⟩
    · rw [hbytes a, hseg]
    · rw [hothers j hj, hletters]
  case holds =>
    obtain ⟨v, hexec, hworked, hletters, hletter, hunits, hcoders, st, hline⟩ :=
      keyRow_ends (c := .hold l) rfl hfree hw (.inr rfl)
    have hx := works_letter hw
    rw [readyKey_kD hletter] at hexec
    obtain ⟨kletter, kline, ksounds, kwork, kcoders⟩ := holdKey_answers hworked (by rw [hletters]; exact hx)
    obtain ⟨hbus, -⟩ := id hunits
    rw [hbus] at kletter
    refine ⟨_, hexec, kletter, by rw [kline, hline], ksounds, kwork.recognised, fun j hj => ?_, kcoders.trans hcoders,
      hunits.trans kwork.units⟩
    rw [kwork.letters j hj, hletters]
  case passCloses =>
    intro hflush
    obtain ⟨v, y, hended, hy, hletter, hexec⟩ := keyRow_closes (c := .endOfLetter l) rfl hfree hw (by decide) hflush
    rw [readyKey_k9 hletter] at hexec
    have hworked := (passEnded_recognised hended).worked i
    have hdone := endLetter_ended hworked hy
    have hdeliv : v.deliv = s.deliv := by
      obtain ⟨-, -, -, -, -, -, -, -, h, -⟩ := hended
      exact h
    refine ⟨_, v, y, hended, hy, hexec, hdone.line, hdone.sounds, hdone.coders, hdone.others,
      fun hlen hactive hsuspended => ?_, fun hlen => ?_, hdone.freed⟩
    · obtain ⟨p, hp, hs, hn⟩ := hdone.idle hlen (by rw [hdeliv]; exact hactive) (by rw [hdeliv]; exact hsuspended)
      exact ⟨_, hp, rfl, rfl, rfl, rfl, rfl, hs, hn⟩
    · obtain ⟨w, heq, hwletter, hwork, -, -⟩ := hdone.closed hlen
      exact ⟨w, heq, hwletter, hwork.letters, hwork.units⟩
  case passHolds =>
    intro hflush
    obtain ⟨v, y, hended, hy, hletter, hexec, hsettings⟩ :=
      keyRow_closes_settings (c := .hold l) rfl hfree hw (by decide) hflush
    rw [readyKey_kD hletter] at hexec
    obtain ⟨kletter, kline, ksounds, kwork, kcoders⟩ := holdKey_answers ((passEnded_recognised hended).worked i) hy
    rw [hsettings] at kletter
    exact ⟨_, v, y, hended, hy, hexec, kletter, kline, ksounds, kwork.recognised, kwork.letters, kcoders, kwork.units⟩
  case expiresIdle =>
    intro hlen hactive hsuspended
    have hexec := exec_heldTimerExpiry_due hx hst htimer
    rw [expireHeld_of_pos hlen] at hexec
    have hmarked : ((s.taken (.heldTimerExpiry i)).unfinished i x).letters[i] =
        some { x with unfinished := true, held := none } := by
      have hx' : s.letters[i.val] = some x := hx
      simp [unfinished, raise, hx']
    obtain ⟨p, hp⟩ := closeLetter_letter (s := (s.taken (.heldTimerExpiry i)).unfinished i x) hactive hsuspended hmarked
    have honly := closeLetter_only ((s.taken (.heldTimerExpiry i)).unfinished i x) i
    exact ⟨_, _, hexec, hp, rfl, rfl, rfl, rfl, rfl, rfl, honly.sameLines, honly.seg, honly.nums, honly.xfer⟩
  case expires =>
    intro hlen
    have hexec := exec_heldTimerExpiry_due hx hst htimer
    have hmarked : ((s.taken (.heldTimerExpiry i)).unfinished i x).letters[i] =
        some { x with unfinished := true, held := none } := by
      have hx' : s.letters[i.val] = some x := hx
      simp [unfinished, raise, hx']
    rw [expireHeld_of_pos hlen, closeLetter_eq hmarked] at hexec
    refine ⟨_, hexec, closed_letter hmarked, fun j hj => ?_, ⟨rfl, rfl, rfl, rfl⟩, raise_eventSeq _ _,
      fun d hdest hroom => ?_, rfl, rfl, rfl, rfl, rfl⟩
    · have hother : ((s.taken (.heldTimerExpiry i)).unfinished i x).letters[j] = s.letters[j] := onLetter_other _ hj _
      exact (onLetter_other _ hj _).trans hother
    · exact Bus.raise_told hroom hdest (.closedUnfinished x.number x.author)
  case expiresEmpty =>
    intro hlen
    have hexec := exec_heldTimerExpiry_due hx hst htimer
    rw [expireHeld_of_empty hlen] at hexec
    have hfreed := freeLetter_freed (s := s.taken (.heldTimerExpiry i)) hx
    obtain ⟨hentry, hbytes, -, hwaiting, -⟩ := hfreed.freed
    exact ⟨_, hexec, hentry, hwaiting, hfreed.others, hfreed.sameLines, hbytes, hfreed.xfer, hfreed.deliv⟩

end Sys2Proof.Machine.State
end

section
/-! The Block Table read after its updates, and how blocks are given and freed (R37, R44 to R49). -/

namespace Sys2Proof.Machine.Segment

variable {g : Segment} {b n : Nat} {x : Block}

/-! ### Entries found -/

/-- Every number below the lowest FREE one is in the table (R37). -/
theorem lowestFrom_below (bs : List Block) (n k : Nat) (hlow : n ≤ k) (hlt : k < lowestFrom n bs) :
    ∃ x ∈ bs, x.num = k := by
  induction bs generalizing n with
  | nil =>
    simp only [lowestFrom] at hlt
    omega
  | cons x rest ih =>
    simp only [lowestFrom] at hlt
    split at hlt
    case isTrue heq =>
      rcases Nat.lt_or_eq_of_le hlow with h | rfl
      · obtain ⟨y, hy, hnum⟩ := ih (n + 1) h hlt
        exact ⟨y, by simp [hy], hnum⟩
      · exact ⟨x, by simp, heq⟩
    case isFalse => omega

theorem find_num (h : g.find b = some x) : x.num = b := by simpa using List.find?_some h

/-- A new entry is found under its number, and hides no other. -/
theorem find_insertBlock (bs : List Block) (hnew : ∀ y ∈ bs, y.num ≠ x.num) (n : Nat) :
    (insertBlock x bs).find? (·.num == n) = if n = x.num then some x else bs.find? (·.num == n) := by
  induction bs with
  | nil =>
    by_cases hn : n = x.num
    · simp [insertBlock, hn]
    · simp [insertBlock, hn, Ne.symm hn]
  | cons y rest ih =>
    have hy : y.num ≠ x.num := hnew y (by simp)
    have hrest := ih fun z hz => hnew z (by simp [hz])
    simp only [insertBlock]
    split
    · by_cases hn : n = x.num
      · simp [hn]
      · simp [hn, List.find?_cons, Ne.symm hn]
    · by_cases hyn : y.num = n
      · have hn : n ≠ x.num := fun h => hy (hyn.trans h)
        simp [hyn, hn]
      · have hy' : (y.num == n) = false := by simpa using hyn
        rw [List.find?_cons, hy', List.find?_cons, hy']
        exact hrest

theorem find_filter_ne (bs : List Block) (h : n ≠ b) :
    (bs.filter (·.num ≠ b)).find? (·.num == n) = bs.find? (·.num == n) := by
  rw [List.find?_filter]
  refine congrArg (fun p => bs.find? p) (funext fun y => ?_)
  by_cases hy : y.num = n <;> simp [hy, h]

/-- An entry changed is found under its number, and the others as they were. -/
theorem find_update {f : Block → Block} (hf : ∀ y, (f y).num = y.num) (n : Nat) :
    (g.update b f).find n = if n = b then (g.find b).map f else g.find n := by
  unfold find
  rw [update_blocks, List.find?_map]
  have hnum : ((fun y : Block => y.num == n) ∘ fun y => if y.num = b then f y else y) = fun y => y.num == n := by
    funext y
    by_cases hy : y.num = b <;> simp [hy, hf]
  rw [hnum]
  by_cases hn : n = b
  · subst hn
    rw [if_pos rfl]
    cases hfind : g.blocks.find? fun y => y.num == n with
    | none => rfl
    | some y =>
      have hy : y.num = n := by simpa using List.find?_some hfind
      simp [hy]
  · rw [if_neg hn]
    cases hfind : g.blocks.find? fun y => y.num == n with
    | none => rfl
    | some y =>
      have hy : y.num = n := by simpa using List.find?_some hfind
      simp [hy, hn]

/-- The lowest FREE block of a rising table with a FREE block is in no entry (R37). -/
theorem find_lowest (h : Rising g.blocks) : g.find (lowestFrom 0 g.blocks) = none := by
  obtain ⟨hne, -, -⟩ := lowestFrom_spec g.blocks 0 h.1 fun _ _ => Nat.zero_le _
  exact List.find?_eq_none.mpr fun y hy => by simpa using hne y hy

theorem lowest_lt (h : Rising g.blocks) (hfree : 0 < g.free) : lowestFrom 0 g.blocks < 32768 := by
  obtain ⟨-, -, hlen⟩ := lowestFrom_spec g.blocks 0 h.1 fun _ _ => Nat.zero_le _
  have hpos : 0 < 32768 - g.blocks.length := hfree
  omega

theorem find_below_lowest (hn : n < lowestFrom 0 g.blocks) : g.find n ≠ none := by
  obtain ⟨x, hx, hnum⟩ := lowestFrom_below g.blocks 0 n (Nat.zero_le _) hn
  have hfound := (find_isSome g n).mpr ⟨x, hx, hnum⟩
  exact Option.isSome_iff_ne_none.mp hfound

theorem credits_le_sum (g : Segment) (l : LineNo) : g.credits[l] ≤ g.creditSum := by
  have hset := g.creditSum_set l 0
  omega

/-! ### Credits refilled (R46) -/

theorem refill_first {credits : Vector Nat 8} {l : LineNo} (hl : credits[l] < 128)
    (hfirst : ∀ m < l, credits[m] = 128) : refill credits = credits.set l (credits[l] + 1) := by
  have hfind : (allLines.find? fun m => decide (credits[m] < Config.lineCredit)) = some l := by
    refine (List.find?_eq_some_iff_getElem).mpr ⟨decide_eq_true hl, l.val, by simp [allLines], by simp [allLines], ?_⟩
    intro j hj
    have hm := hfirst ⟨j, by omega⟩ hj
    have hfull : credits[j]'(by omega) = 128 := hm
    simp only [allLines, List.getElem_finRange, Fin.getElem_fin, Fin.cast_mk, hfull]
    rfl
  rw [refill, hfind]

theorem refill_full {credits : Vector Nat 8} (hfull : ∀ l : LineNo, credits[l] = 128) : refill credits = credits := by
  have hfind : (allLines.find? fun m => decide (credits[m] < Config.lineCredit)) = none := by
    refine List.find?_eq_none.mpr fun m _ => ?_
    rw [hfull m]
    decide
  rw [refill, hfind]

end Sys2Proof.Machine.Segment

namespace Sys2Proof.Machine.State

variable {s : State} {l : LineNo}

/-! ### Blocks given (R37, R45, R48, R49) -/

/-- A given block is FILLING under the lowest FREE number, and the others stay. -/
theorem giveBlock_entry (hrise : Rising s.seg.blocks) (o : LetterIx) (f : Filler) (p q n : Nat) :
    (s.giveBlock o f p q).seg.find n = if n = Segment.lowestFrom 0 s.seg.blocks
      then some ⟨Segment.lowestFrom 0 s.seg.blocks, 0, p, q, 0, 0, o, some f⟩ else s.seg.find n := by
  obtain ⟨hne, -, -⟩ := Segment.lowestFrom_spec s.seg.blocks 0 hrise.1 fun _ _ => Nat.zero_le _
  exact Segment.find_insertBlock
    (x := ⟨Segment.lowestFrom 0 s.seg.blocks, 0, p, q, 0, 0, o, some f⟩) s.seg.blocks hne n

theorem giveBlock_length (s : State) (o : LetterIx) (f : Filler) (p q : Nat) :
    (s.giveBlock o f p q).seg.blocks.length = s.seg.blocks.length + 1 := Segment.length_insertBlock _ _

/-- The pressure tier of a table with one block more (R49). -/
theorem giveBlock_tier (s : State) (o : LetterIx) (f : Filler) (p q : Nat) :
    (s.giveBlock o f p q).seg.tier = pressureAfter s.seg.tier (s.seg.blocks.length + 1) :=
  congrArg (pressureAfter s.seg.tier) (Segment.length_insertBlock _ _)

/-- An evaluation of the pressure raises an event where the tier changes, and nothing else (R49). -/
theorem evalPressure_bus (s : State) : (s.evalPressure.seg.tier = s.seg.tier → s.evalPressure.bus = s.bus) ∧
    (s.evalPressure.seg.tier ≠ s.seg.tier → s.evalPressure.bus.ctl.eventSeq = s.bus.ctl.eventSeq + 1) := by
  simp only [evalPressure]
  split
  case isTrue h => exact ⟨fun _ => rfl, fun hne => absurd h hne⟩
  case isFalse h => exact ⟨fun heq => absurd heq h, fun _ => raise_eventSeq _ _⟩

/-- What is free covers the credits and the reservation, and common availability is the rest (R44). -/
theorem common_covers (hrise : s.TableRising) (hcredits : s.CreditsRight) :
    s.seg.common + s.seg.creditSum + s.seg.reservation = s.seg.free ∧ s.seg.free + s.seg.blocks.length = 32768 := by
  obtain ⟨hcovered, -⟩ := hcredits
  have hlen : s.seg.blocks.length ≤ 32768 := Rising.length_le hrise
  have hfree : s.seg.free = 32768 - s.seg.blocks.length := rfl
  unfold Segment.common
  omega

theorem lineMayTake_iff (hrise : s.TableRising) (hcredits : s.CreditsRight) (l : LineNo) :
    s.lineMayTake l = true ↔ 0 < s.seg.common ∨ 0 < s.seg.credits[l] := by
  obtain ⟨hsum, -⟩ := common_covers hrise hcredits
  have hcredit := s.seg.credits_le_sum l
  simp only [lineMayTake, Bool.and_eq_true, Bool.or_eq_true, decide_eq_true_eq]
  omega

theorem transferMayTake_iff (hrise : s.TableRising) (hcredits : s.CreditsRight) :
    s.transferMayTake = true ↔ 0 < s.seg.reservation ∨ 0 < s.seg.common := by
  obtain ⟨hsum, -⟩ := common_covers hrise hcredits
  simp only [transferMayTake, Bool.and_eq_true, Bool.or_eq_true, decide_eq_true_eq]
  omega

theorem chargeLine_common (h : 0 < s.seg.common) : s.chargeLine l = s := by
  unfold chargeLine
  simp only [onSeg, if_pos h]

theorem chargeLine_credit (h : s.seg.common = 0) : (s.chargeLine l).seg =
    { s.seg with credits := s.seg.credits.set l (s.seg.credits[l] - 1) } := by
  have hnot : ¬0 < s.seg.common := by omega
  unfold chargeLine
  simp only [onSeg, if_neg hnot]

/-- A block has been given: it is FILLING under the lowest FREE number (R37, R49). -/
structure BlockGiven (x : Block) (s t : State) : Prop where
  credits : t.seg.credits = s.seg.credits
  reservation : t.seg.reservation = s.seg.reservation
  free : t.seg.free + 1 = s.seg.free
  entry : ∀ n, t.seg.find n = if n = x.num then some x else s.seg.find n
  tier : t.seg.tier = pressureAfter s.seg.tier (s.seg.blocks.length + 1)
  still : t.seg.tier = s.seg.tier → t.bus = s.bus
  told : t.seg.tier ≠ s.seg.tier → t.bus.ctl.eventSeq = s.bus.ctl.eventSeq + 1

theorem giveBlock_given (hrise : Rising s.seg.blocks) (hfree : 0 < s.seg.free) (o : LetterIx) (f : Filler) (p q : Nat) :
    BlockGiven ⟨Segment.lowestFrom 0 s.seg.blocks, 0, p, q, 0, 0, o, some f⟩ s (s.giveBlock o f p q) := by
  have hlen := giveBlock_length s o f p q
  obtain ⟨hstill, htold⟩ := evalPressure_bus (s.onSeg fun g => { g with
    blocks := Segment.insertBlock ⟨Segment.lowestFrom 0 s.seg.blocks, 0, p, q, 0, 0, o, some f⟩ g.blocks })
  refine ⟨rfl, rfl, ?_, giveBlock_entry hrise o f p q, giveBlock_tier s o f p q, hstill, htold⟩
  have hpos : 0 < 32768 - s.seg.blocks.length := hfree
  change 32768 - (s.giveBlock o f p q).seg.blocks.length + 1 = 32768 - s.seg.blocks.length
  rw [hlen]
  omega

/-- A granted request of a line draws on common availability, else on the line's credit (R45). -/
theorem chargeLine_spec (s : State) (l : LineNo) : (s.chargeLine l).seg.reservation = s.seg.reservation ∧
    (s.chargeLine l).seg.blocks = s.seg.blocks ∧ (s.chargeLine l).seg.tier = s.seg.tier ∧
    (s.chargeLine l).bus = s.bus ∧
    (0 < s.seg.common → (s.chargeLine l).seg.credits = s.seg.credits) ∧
    (s.seg.common = 0 → (s.chargeLine l).seg.credits = s.seg.credits.set l (s.seg.credits[l] - 1)) := by
  by_cases hcommon : 0 < s.seg.common
  · rw [chargeLine_common hcommon]
    exact ⟨rfl, rfl, rfl, rfl, fun _ => rfl, fun hzero => by omega⟩
  · have hzero : s.seg.common = 0 := by omega
    rw [chargeLine_credit hzero]
    exact ⟨rfl, rfl, rfl, rfl, fun hpos => absurd hpos hcommon, fun _ => rfl⟩

/-- A line that fills no block takes a new one (R37, R45). -/
theorem takeFilling_of_none (h : s.lines[l].filling = none) (i : LetterIx) (pass : Nat) :
    s.takeFilling l i pass = ((s.chargeLine l).giveBlock i (.line l) pass 0).onLine l fun c =>
      { c with filling := some (Segment.lowestFrom 0 s.seg.blocks) } := by
  unfold takeFilling
  rw [h]
  rfl

theorem freeBlock_of_found {n : Nat} {x : Block} (h : s.seg.find n = some x) : s.freeBlock n = (s.onSeg fun g =>
    { g with blocks := g.blocks.filter (·.num ≠ n), credits := Segment.refill g.credits }).evalPressure := by
  rw [freeBlock, h]
  rfl

/-- A block found in a rising table is there once. -/
theorem length_filter_found {n : Nat} {x : Block} (hrise : Rising s.seg.blocks) (h : s.seg.find n = some x) :
    (s.seg.blocks.filter (·.num ≠ n)).length + 1 = s.seg.blocks.length := by
  obtain ⟨hx, rfl⟩ := hrise.find_iff.mp h
  have herase : s.seg.blocks.filter (·.num ≠ x.num) = s.seg.blocks.erase x := by
    rw [hrise.1.nodup.erase_eq_filter]
    refine List.filter_congr fun y hy => ?_
    by_cases hyx : y = x
    · simp [hyx]
    · have hnum : y.num ≠ x.num := fun heq => hyx (hrise.eq_of_num hy hx heq)
      simp [hyx, hnum]
  have hpos := List.length_pos_of_mem hx
  rw [herase, List.length_erase_of_mem hx]
  omega

/-! ### The accounts of blocks given and freed, settled -/

theorem pressureAfter_eq (tier : Tier) (n : Nat) : pressureAfter tier n =
    if tier = .a ∧ 24576 ≤ n then .b else if tier = .b ∧ 28672 ≤ n then .c
    else if tier = .b ∧ n < 20480 then .a else if tier = .c ∧ n < 24576 then .b else tier := by
  cases tier <;> simp [pressureAfter]

/-- Settles O15: the accounts before and after a grant to a line, a grant to the transfer engine, and a block freed. -/
theorem blocksGivenAndFreed : Obligations.BlocksGivenAndFreed := by
  unfold Obligations.BlocksGivenAndFreed
  refine ⟨pressureAfter_eq, fun s hrise hcredits => ?_⟩
  obtain ⟨hsum, hblocks⟩ := common_covers hrise hcredits
  refine ⟨hsum, hblocks, fun l i pass hnone => ⟨lineMayTake_iff hrise hcredits l, fun hmay => ?line⟩,
    fun i pass => ⟨transferMayTake_iff hrise hcredits, fun hmay => ?transfer⟩, fun n x hx => ?freed⟩
  case line =>
    have hfrom := (lineMayTake_iff hrise hcredits l).mp hmay
    have hfree := lineMayTake_free hmay
    obtain ⟨hreservation, hsame, htier, hbus, hcommon, hcredit⟩ := chargeLine_spec s l
    have hfree' : (s.chargeLine l).seg.free = s.seg.free := congrArg (fun bs => 32768 - bs.length) hsame
    have hgiven := giveBlock_given (s := s.chargeLine l) (by rw [hsame]; exact hrise) (by rw [hfree']; exact hfree) i
      (.line l) pass 0
    rw [hsame] at hgiven
    have hentry := hgiven.entry (Segment.lowestFrom 0 s.seg.blocks)
    rw [if_pos rfl] at hentry
    rw [takeFilling_of_none hnone]
    have hcommonAfter : ∀ t : State, t.seg.common = t.seg.free - t.seg.creditSum - t.seg.reservation := fun _ => rfl
    have hcommonBefore := hcommonAfter s
    have hset := s.seg.creditSum_set l (s.seg.credits[l] - 1)
    have hle := s.seg.credits_le_sum l
    refine ⟨hgiven.free.trans hfree', hgiven.reservation.trans hreservation, fun hpos => ?_, fun hzero => ?_,
      Segment.find_lowest hrise, Segment.lowest_lt hrise hfree, fun n hn => Segment.find_below_lowest hn, hentry, by simp,
      ?_, fun hstill => ?_, fun hmoved => ?_⟩
    · have hall := hgiven.credits.trans (hcommon hpos)
      refine ⟨hall, ?_⟩
      have hsumAfter : ((s.chargeLine l).giveBlock i (.line l) pass 0).seg.creditSum = s.seg.creditSum :=
        congrArg (fun v : Vector Nat 8 => v.toList.sum) hall
      have hc := hcommonAfter ((s.chargeLine l).giveBlock i (.line l) pass 0)
      have hf := hgiven.free
      have hr := hgiven.reservation
      change ((s.chargeLine l).giveBlock i (.line l) pass 0).seg.common + 1 = s.seg.common
      omega
    · have hall := hgiven.credits.trans (hcredit hzero)
      refine ⟨hall, ?_⟩
      have hsumAfter : ((s.chargeLine l).giveBlock i (.line l) pass 0).seg.creditSum =
          (s.seg.credits.set l (s.seg.credits[l] - 1)).toList.sum := congrArg (fun v : Vector Nat 8 => v.toList.sum) hall
      have hc := hcommonAfter ((s.chargeLine l).giveBlock i (.line l) pass 0)
      have hf := hgiven.free
      have hr := hgiven.reservation
      change ((s.chargeLine l).giveBlock i (.line l) pass 0).seg.common = 0
      omega
    · have := hgiven.tier
      rw [htier, hsame] at this
      exact this
    · exact (hgiven.still (hstill.trans htier.symm)).trans hbus
    · rw [← hbus]
      exact hgiven.told fun heq => hmoved (heq.trans htier)
  case transfer =>
    have hfrom := (transferMayTake_iff hrise hcredits).mp hmay
    have hfree := transferMayTake_free hmay
    have hgiven := giveBlock_given (s := s.chargeTransfer) hrise hfree i .transfer pass 0
    have hentry := hgiven.entry (Segment.lowestFrom 0 s.seg.blocks)
    have hreservation : (s.chargeTransfer.giveBlock i .transfer pass 0).seg.reservation = s.seg.reservation - 1 := rfl
    have hcommon : ∀ t : State, t.seg.common = t.seg.free - t.seg.creditSum - t.seg.reservation := fun _ => rfl
    have hbefore := hcommon s
    have hafter := hcommon (s.chargeTransfer.giveBlock i .transfer pass 0)
    have hsumAfter : (s.chargeTransfer.giveBlock i .transfer pass 0).seg.creditSum = s.seg.creditSum := rfl
    have hf : (s.chargeTransfer.giveBlock i .transfer pass 0).seg.free + 1 = s.seg.free := hgiven.free
    refine ⟨hf, rfl, fun hpos => ⟨?_, ?_⟩, fun hzero => ⟨?_, ?_⟩, ?_, hgiven.tier⟩
    · omega
    · omega
    · omega
    · omega
    · exact hentry.trans (if_pos rfl)
  case freed =>
    have hlen := length_filter_found hrise hx
    have hfreed := freeBlock_of_found hx
    have hblocksAfter := freeBlock_blocks s n
    have hcommon : ∀ t : State, t.seg.common = t.seg.free - t.seg.creditSum - t.seg.reservation := fun _ => rfl
    have hbefore := hcommon s
    have hafter := hcommon (s.freeBlock n)
    have hfree : (s.freeBlock n).seg.free = s.seg.free + 1 := by
      change 32768 - (s.freeBlock n).seg.blocks.length = 32768 - s.seg.blocks.length + 1
      rw [hblocksAfter]
      have := Rising.length_le hrise
      have hcount : s.seg.blocks.length ≤ 32768 := this
      omega
    have hcredit : (s.freeBlock n).seg.credits = Segment.refill s.seg.credits := by rw [hfreed]; rfl
    have hreservation : (s.freeBlock n).seg.reservation = s.seg.reservation := by rw [hfreed]; rfl
    refine ⟨freeBlock_find s n, hfree, hreservation, fun l hl hfirst => ?_, fun hfull => ?_, ?_, ?_, ?_⟩
    · have hset := hcredit.trans (Segment.refill_first hl hfirst)
      have hsumAfter : (s.freeBlock n).seg.creditSum = (s.seg.credits.set l (s.seg.credits[l] + 1)).toList.sum :=
        congrArg (fun v : Vector Nat 8 => v.toList.sum) hset
      have hcount := s.seg.creditSum_set l (s.seg.credits[l] + 1)
      exact ⟨hset, by omega⟩
    · have hset := hcredit.trans (Segment.refill_full hfull)
      have hsumAfter : (s.freeBlock n).seg.creditSum = s.seg.creditSum :=
        congrArg (fun v : Vector Nat 8 => v.toList.sum) hset
      exact ⟨hset, by omega⟩
    · have hcount : (s.seg.blocks.filter (·.num ≠ n)).length = s.seg.blocks.length - 1 := by omega
      rw [hfreed, ← hcount]
      rfl
    · rw [(freeBlock_work s n).letters]
    · intro a
      rw [hfreed]
      rfl

end Sys2Proof.Machine.State
end

section
/-! Chains cut, grown and trimmed, by the slices they name (R7, R9, R10, R13). -/

namespace Sys2Proof.Machine

variable {c front rest : List SegRec} {r : SegRec} {k : Nat}

/-! ### A chain cut (R9) -/

theorem length_chainSplit (c : List SegRec) (k : Nat) : (chainSplit c k).1.length + (chainSplit c k).2.length =
    c.length + if (chainInside c k).isSome then 1 else 0 := by
  induction c generalizing k with
  | nil => rfl
  | cons r c ih =>
    simp only [chainSplit, chainInside]
    split
    · simp
    · split
      · simp only [List.length_cons, List.length_nil, Option.isSome_some, if_true]
        omega
      · have := ih (k - r.count)
        simp only [List.length_cons]
        omega

/-- A cut between records leaves them all. -/
theorem chainSplit_append (h : chainInside c k = none) : (chainSplit c k).1 ++ (chainSplit c k).2 = c := by
  induction c generalizing k with
  | nil => rfl
  | cons r c ih =>
    simp only [chainSplit, chainInside] at h ⊢
    split at h
    case isTrue hzero => simp [hzero]
    case isFalse hpos =>
      split at h
      case isTrue => cases h
      case isFalse hge =>
        rw [if_neg hpos, if_neg hge]
        simp [ih h]

/-- A cut after a record ends the front with it. -/
theorem chainSplit_after (hfront : ∀ q ∈ front, 1 ≤ q.count) (hr : 1 ≤ r.count) :
    (chainSplit (front ++ r :: rest) (chainLength front + r.count)).1 = front ++ [r] := by
  induction front with
  | nil =>
    have hpos : ¬(r.count = 0) := by omega
    have hzero : (chainSplit rest 0).1 = [] := by cases rest <;> rfl
    simp [chainSplit, hpos, hzero]
  | cons q front ih =>
    have hq := hfront q (by simp)
    have hpos : ¬(q.count + chainLength front + r.count = 0) := by omega
    have hge : ¬(q.count + chainLength front + r.count < q.count) := by omega
    have hsub : q.count + chainLength front + r.count - q.count = chainLength front + r.count := by omega
    simp only [List.cons_append, chainLength_cons, chainSplit, if_neg hpos, if_neg hge, hsub]
    rw [ih fun p hp => hfront p (by simp [hp])]

/-! ### The front grown, the back trimmed (R10, R13) -/

theorem extendsLast_iff (front : List SegRec) (block index : Nat) : extendsLast front block index = true ↔
    ∃ init r, front = init ++ [r] ∧ r.block = block ∧ r.first + r.count = index := by
  rcases List.eq_nil_or_concat front with rfl | ⟨init, r, rfl⟩
  · simp [extendsLast]
  · simp [extendsLast]

theorem length_growLast (front : List SegRec) : (growLast front).length = front.length := by
  rcases List.eq_nil_or_concat front with rfl | ⟨init, r, rfl⟩
  · rfl
  · simp [growLast]

theorem length_trimFront (c : List SegRec) :
    (trimFront c).length + (if (trimRemoves c).isSome then 1 else 0) = c.length := by
  cases c with
  | nil => rfl
  | cons r c =>
    simp only [trimFront, trimRemoves]
    split <;> simp

/-! ### The edit of a commit (R13, R14) -/

variable {x : Letter} {p : Pass} {block index : Nat}

/-- The slice extends the last record of the front, with no record cut (R13). -/
def editExtends (x : Letter) (block index : Nat) : Bool :=
  (chainInside x.chain x.cursor).isNone && extendsLast (chainSplit x.chain x.cursor).1 block index

/-- The records up to the cursor, with the new slice at their end. -/
def editFront (x : Letter) (p : Pass) (block index : Nat) : List SegRec :=
  if editExtends x block index then growLast (chainSplit x.chain x.cursor).1
  else (chainSplit x.chain x.cursor).1 ++ [⟨block, index, 1, p.number, p.kind⟩]

/-- The records after the cursor, without the slice an overwrite takes. -/
def editRest (x : Letter) (p : Pass) : List SegRec :=
  if p.mode == .overwrite then trimFront (chainSplit x.chain x.cursor).2 else (chainSplit x.chain x.cursor).2

theorem chainEdit_chain (x : Letter) (p : Pass) (block index : Nat) :
    (chainEdit x p block index).chain = editFront x p block index ++ editRest x p := rfl

theorem chainEdit_takes (x : Letter) (p : Pass) (block index : Nat) : (chainEdit x p block index).taken =
    (if (chainInside x.chain x.cursor).isSome then 1 else 0) + if editExtends x block index then 0 else 1 := rfl

theorem length_editFront (x : Letter) (p : Pass) (block index : Nat) : (editFront x p block index).length =
    (chainSplit x.chain x.cursor).1.length + if editExtends x block index then 0 else 1 := by
  unfold editFront
  split
  · rw [length_growLast]
    rfl
  · simp

theorem length_editRest (x : Letter) (p : Pass) (block index : Nat) :
    (editRest x p).length + (if (chainEdit x p block index).removed.isSome then 1 else 0) =
      (chainSplit x.chain x.cursor).2.length := by
  simp only [editRest, chainEdit]
  split
  · exact length_trimFront _
  · rfl

/-- The records an edit takes and gives back are those by which the chain grows (R43). -/
theorem length_chainEdit (x : Letter) (p : Pass) (block index : Nat) :
    (chainEdit x p block index).chain.length + (if (chainEdit x p block index).removed.isSome then 1 else 0) =
      x.chain.length + (chainEdit x p block index).taken := by
  have hcut := length_chainSplit x.chain x.cursor
  have hfront := length_editFront x p block index
  have hrest := length_editRest x p block index
  rw [chainEdit_chain, chainEdit_takes, List.length_append]
  omega

/-- A slice that extends no record has its own (R13). -/
theorem chainEdit_places (h : editExtends x block index = false) (p : Pass) :
    ⟨block, index, 1, p.number, p.kind⟩ ∈ (chainEdit x p block index).chain := by
  rw [chainEdit_chain, editFront, h]
  simp

/-- The slice extends the record that ends at the cursor, if the cursor stands between records (R13). -/
theorem editExtends_iff (hcounts : ∀ r ∈ x.chain, 1 ≤ r.count) (hcursor : x.cursor ≤ x.length) :
    editExtends x block index = true ↔ chainInside x.chain x.cursor = none ∧ ∃ front r rest,
      x.chain = front ++ r :: rest ∧ x.cursor = chainLength front + r.count ∧ r.block = block ∧
        r.first + r.count = index := by
  rw [editExtends, Bool.and_eq_true, Option.isNone_iff_eq_none]
  refine and_congr_right fun hinside => ?_
  rw [extendsLast_iff]
  constructor
  · rintro ⟨front, r, hcut, hblock, hindex⟩
    have hall := chainSplit_append hinside
    obtain ⟨hslices, -⟩ := slicesOf_split x.chain x.cursor
    have hlen := congrArg List.length hslices
    rw [length_slicesOf, List.length_take, length_slicesOf, Nat.min_eq_left (show x.cursor ≤ chainLength x.chain from hcursor),
      hcut, chainLength_append] at hlen
    rw [hcut] at hall
    refine ⟨front, r, (chainSplit x.chain x.cursor).2, hall.symm.trans (by simp), ?_, hblock, hindex⟩
    rw [← hlen]
    rfl
  · rintro ⟨front, r, rest, hchain, hcut, hblock, hindex⟩
    rw [hchain] at hcounts
    refine ⟨front, r, ?_, hblock, hindex⟩
    rw [hchain, hcut]
    exact chainSplit_after (fun q hq => hcounts q (by simp [hq])) (hcounts r (by simp))

end Sys2Proof.Machine
end

section
/-! A slice placed: the block it lands in, the bytes it writes, and the chain it joins (R12 to R14, R37 to R39). -/

namespace Sys2Proof.Machine.State

variable {s t u : State} {l : LineNo} {i : LetterIx} {x : Letter} {p : Pass} {h : HoldSlice} {b : Block} {n k w : Nat}

/-! ### A FILLING block through the operations on others -/

/-- Block `n` is FILLING, with `k` slices in `w` bytes. -/
def Filled (n k w : Nat) (s : State) : Prop :=
  ∃ e, s.seg.find n = some e ∧ e.slices = k ∧ e.bytes = w ∧ e.filler.isSome = true

/-- A block's other fields may change. -/
theorem Filled.update (h : Filled n k w s) (m : Nat) {f : Block → Block}
    (hf : ∀ y, f y = { y with refs := (f y).refs }) : Filled n k w (s.onSeg (·.update m f)) := by
  obtain ⟨e, hfind, hslices, hbytes, hfiller⟩ := h
  have hupdate := Segment.find_update (g := s.seg) (b := m) (f := f) (fun y => by rw [hf y]) n
  by_cases hn : n = m
  · subst hn
    rw [if_pos rfl, hfind] at hupdate
    exact ⟨f e, hupdate, by rw [hf e]; exact hslices, by rw [hf e]; exact hbytes, by rw [hf e]; exact hfiller⟩
  · rw [if_neg hn, hfind] at hupdate
    exact ⟨e, hupdate, hslices, hbytes, hfiller⟩

theorem Filled.incRef (h : Filled n k w s) (m : Nat) : Filled n k w (s.incRef m) := h.update m fun _ => rfl

theorem freeBlock_find_ne {m : Nat} (hn : n ≠ m) (s : State) : (s.freeBlock m).seg.find n = s.seg.find n := by
  rw [Segment.find, freeBlock_blocks]
  exact Segment.find_filter_ne _ hn

/-- A FILLING block is not freed with its last record (R41). -/
theorem Filled.decRef (h : Filled n k w s) (m : Nat) : Filled n k w (s.decRef m) := by
  have hup : Filled n k w (s.onSeg (·.update m fun x => { x with refs := x.refs - 1 })) := h.update m fun _ => rfl
  simp only [State.decRef]
  generalize s.onSeg (·.update m fun x => { x with refs := x.refs - 1 }) = v at hup
  unfold when
  split
  case isFalse => exact hup
  case isTrue hfree =>
    obtain ⟨e, hfind, hslices, hbytes, hfiller⟩ := hup
    have hn : n ≠ m := by
      rintro rfl
      rw [hfind] at hfree
      simp only [Option.any_some, Bool.and_eq_true, Option.isNone_iff_eq_none] at hfree
      rw [hfree.2] at hfiller
      cases hfiller
    exact ⟨e, by rw [freeBlock_find_ne hn]; exact hfind, hslices, hbytes, hfiller⟩

theorem Filled.foldl_incRef (h : Filled n k w s) (ms : List Nat) : Filled n k w (ms.foldl State.incRef s) := by
  induction ms generalizing s with
  | nil => exact h
  | cons m ms ih => exact ih (h.incRef m)

/-- The sealing of another block leaves a block's entry. -/
theorem sealBlock_find_ne {m : Nat} (hn : n ≠ m) (s : State) : (s.sealBlock m).seg.find n = s.seg.find n := by
  have hup := Segment.find_update (g := s.seg) (b := m) (f := fun y => { y with filler := none }) (fun _ => rfl) n
  rw [if_neg hn] at hup
  unfold sealBlock
  split
  · rfl
  · split
    · unfold when
      split
      · rw [freeBlock_find_ne hn]
        exact hup
      · exact hup
    · rfl

/-! ### The chain edited (R13, R14) -/

theorem foldl_incRef_poolFree (ms : List Nat) (s : State) :
    (ms.foldl State.incRef s).seg.poolFree = s.seg.poolFree ∧ (ms.foldl State.incRef s).seg.mem = s.seg.mem := by
  induction ms generalizing s with
  | nil => exact ⟨rfl, rfl⟩
  | cons m ms ih =>
    obtain ⟨hpool, hmem⟩ := ih (s.incRef m)
    exact ⟨hpool, hmem⟩

/-- A chain has been edited: the letter holds it, its records came from the pool, and nothing was written. -/
structure Edited (i : LetterIx) (e : ChainEdit) (s t : State) : Prop where
  letters : t.letters = (s.takeChain i e).letters
  lines : t.lines = s.lines
  coders : t.coders = s.coders
  bus : Bus.Raises 1 s.bus t.bus
  mem : t.seg.mem = s.seg.mem
  pool : t.seg.poolFree = s.seg.poolFree - e.taken + if e.removed.isSome then 1 else 0
  filled : ∀ n k w, Filled n k w s → Filled n k w t

theorem editNames_edited (s : State) (i : LetterIx) (e : ChainEdit) (b : Nat) : Edited i { e with removed := none } s
    ((editNames e b).foldl State.incRef ((s.takeChain i e).onSeg (Segment.takeRecords e.taken))) := by
  have hwork := foldl_incRef_work ((s.takeChain i e).onSeg (Segment.takeRecords e.taken)) (editNames e b)
  obtain ⟨hpool, hmem⟩ := foldl_incRef_poolFree (editNames e b) ((s.takeChain i e).onSeg (Segment.takeRecords e.taken))
  exact ⟨hwork.letters, hwork.lines, hwork.coders, hwork.bus.mono (Nat.zero_le 1), hmem, hpool,
    fun n k w h => Filled.foldl_incRef (s := (s.takeChain i e).onSeg (Segment.takeRecords e.taken)) h _⟩

theorem editChain_edited (s : State) (i : LetterIx) (e : ChainEdit) (b : Nat) : Edited i e s (s.editChain i e b) := by
  have hnames := editNames_edited s i e b
  have hbus := (foldl_incRef_work ((s.takeChain i e).onSeg (Segment.takeRecords e.taken)) (editNames e b)).bus
  rw [editChain_eq]
  generalize (editNames e b).foldl State.incRef ((s.takeChain i e).onSeg (Segment.takeRecords e.taken)) = v at hnames hbus
  obtain ⟨chain, taken, split, placed, removed⟩ := e
  cases removed with
  | none => exact hnames
  | some m =>
    have hdrop := decRef_work (v.onSeg (Segment.returnRecords 1)) m
    exact ⟨hdrop.letters.trans hnames.letters, hdrop.lines.trans hnames.lines, hdrop.coders.trans hnames.coders,
      (hbus.trans hdrop.bus).mono (Nat.le_refl 1), (mem_decRef _ m).trans hnames.mem,
      (decRef_poolFree _ m).trans (congrArg (· + 1) hnames.pool),
      fun n k w h => Filled.decRef (s := v.onSeg (Segment.returnRecords 1)) (hnames.filled n k w h) m⟩

/-! ### The slice written (R39, R61, R62) -/

/-- The bytes a slice puts into block `b`: where, and which. -/
structure Written (s : State) (l : LineNo) (b : Block) (h : HoldSlice) (t : State) : Prop where
  letters : t.letters = s.letters
  lines : t.lines = s.lines
  bus : t.bus = s.bus
  pool : t.seg.poolFree = s.seg.poolFree
  voiced : ∀ tier entry codes, h.coded = .voiced tier entry codes →
    let rec0 := voicedRecord tier (s.coders[l].exit == some entry) entry codes
    t.seg.mem = Memory.writeBytes s.seg.mem (b.num * 1024 + b.bytes) rec0 ∧
    Filled b.num (b.slices + 1) (b.bytes + rec0.length) t ∧ t.coders[l] = { s.coders[l] with exit := some h.exit }
  joined : ∀ r, h.coded = .silence → s.seg.trailingSilence b = some r →
    t.seg.mem = Memory.write s.seg.mem (b.num * 1024 + r.offset + 1) (BitVec.ofNat 8 (r.span + 1)) ∧
    Filled b.num (b.slices + 1) b.bytes t
  opened : h.coded = .silence → s.seg.trailingSilence b = none →
    t.seg.mem = Memory.writeBytes s.seg.mem (b.num * 1024 + b.bytes) [0x80#8, 1#8] ∧
    Filled b.num (b.slices + 1) (b.bytes + 2) t
  silent : h.coded = .silence → t.coders[l] = { s.coders[l] with exit := none }

/-- A FILLING block written to. -/
theorem filled_written {mem : List Host.Cell} {f : Block → Block} (hfind : s.seg.find b.num = some b)
    (hfiller : b.filler.isSome = true) (hseg : t.seg = { s.seg with mem := mem }.update b.num f)
    (hf : ∀ y, (f y).num = y.num ∧ (f y).filler = y.filler) (hk : (f b).slices = k) (hw : (f b).bytes = w) :
    t.seg.mem = mem ∧ t.seg.poolFree = s.seg.poolFree ∧ Filled b.num k w t := by
  refine ⟨by rw [hseg]; rfl, by rw [hseg]; rfl, f b, ?_, hk, hw, by rw [(hf b).2]; exact hfiller⟩
  rw [hseg, Segment.find_update (fun y => (hf y).1), if_pos rfl]
  exact congrArg (Option.map f) hfind

theorem writeSlice_written (s : State) (l : LineNo) (h : HoldSlice) (hfind : s.seg.find b.num = some b)
    (hfiller : b.filler.isSome = true) : Written s l b h (s.writeSlice l b.num h) := by
  obtain ⟨coded, touched, speech, exit⟩ := h
  cases coded with
  | voiced tier entry codes =>
    have hseg : (s.writeSlice l b.num ⟨.voiced tier entry codes, touched, speech, exit⟩).seg =
        s.seg.appendVoiced b.num (voicedRecord tier (s.coders[l].exit == some entry) entry codes) := rfl
    simp only [Segment.appendVoiced, hfind] at hseg
    obtain ⟨hmem, hpool, hfilled⟩ := filled_written hfind hfiller hseg (fun _ => ⟨rfl, rfl⟩) rfl rfl
    refine ⟨rfl, rfl, rfl, hpool, ?_, ?_, ?_, ?_⟩
    · rintro _ _ _ ⟨⟩
      exact ⟨hmem, hfilled, onCoder_same _ l _⟩
    all_goals intros; contradiction
  | silence =>
    have hseg : (s.writeSlice l b.num ⟨.silence, touched, speech, exit⟩).seg = s.seg.appendSilence b.num := rfl
    have hcoder : (s.writeSlice l b.num ⟨.silence, touched, speech, exit⟩).coders[l] = { s.coders[l] with exit := none } :=
      onCoder_same _ l _
    simp only [Segment.appendSilence, hfind] at hseg
    cases hr : s.seg.trailingSilence b with
    | some r =>
      simp only [hr] at hseg
      obtain ⟨hmem, hpool, hfilled⟩ := filled_written hfind hfiller hseg (fun _ => ⟨rfl, rfl⟩) rfl rfl
      refine ⟨rfl, rfl, rfl, hpool, (fun _ _ _ hc => by cases hc), ?_, ?_, fun _ => hcoder⟩
      · intro q _ hq
        obtain rfl : r = q := Option.some.inj (hr.symm.trans hq)
        exact ⟨hmem, hfilled⟩
      · exact fun _ hnone => absurd (hr.symm.trans hnone) (by simp)
    | none =>
      simp only [hr] at hseg
      obtain ⟨hmem, hpool, hfilled⟩ := filled_written hfind hfiller hseg (fun _ => ⟨rfl, rfl⟩) rfl rfl
      refine ⟨rfl, rfl, rfl, hpool, (fun _ _ _ hc => by cases hc), ?_, fun _ _ => ⟨hmem, hfilled⟩, fun _ => hcoder⟩
      exact fun r _ hsome => absurd (hr.symm.trans hsome) (by simp)

end Sys2Proof.Machine.State
end

section
/-! The checks of a commit and a commit placed, settled (R12 to R14, R37 to R39, R61 to R63). -/

namespace Sys2Proof.Machine.State

variable {s t u : State} {l : LineNo} {i : LetterIx} {x : Letter} {p : Pass} {h : HoldSlice} {b : Block} {c : Coded}

/-! ### Where a slice lands (R38) -/

theorem landing_eq_some : s.landing l c = some b ↔
    s.lines[l].filling.bind s.seg.find = some b ∧ s.seg.fits b c = true := by
  rw [landing, Option.filter_eq_some_iff]

theorem fits_iff (g : Segment) (b : Block) (c : Coded) : g.fits b c = true ↔
    b.slices < 250 ∧ b.bytes + g.addedBytes b c ≤ 1024 := by
  rw [Segment.fits, Bool.and_eq_true, decide_eq_true_iff, decide_eq_true_iff]
  exact Iff.rfl

theorem landing_iff (s : State) (l : LineNo) (c : Coded) (b : Block) : s.landing l c = some b ↔
    ∃ n, s.lines[l].filling = some n ∧ s.seg.find n = some b ∧ b.slices < 250 ∧
      b.bytes + s.seg.addedBytes b c ≤ 1024 := by
  rw [landing_eq_some, Option.bind_eq_some_iff, fits_iff]
  constructor
  · rintro ⟨⟨n, hn, hfind⟩, hfits⟩
    exact ⟨n, hn, hfind, hfits⟩
  · rintro ⟨n, hn, hfind, hfits⟩
    exact ⟨⟨n, hn, hfind⟩, hfits⟩

theorem landing_filling (h : s.landing l c = some b) :
    s.lines[l].filling = some b.num ∧ s.seg.find b.num = some b := by
  obtain ⟨n, hn, hfind, -⟩ := (landing_iff s l c b).mp h
  obtain rfl := Segment.find_num hfind
  exact ⟨hn, hfind⟩

/-! ### The checks of a commit (R12) -/

/-- A slice grows the record that ends at the cursor (R13). -/
def Grows (x : Letter) (land : Option Block) : Prop :=
  ∃ b, land = some b ∧ editExtends x b.num b.slices = true

theorem recordsNeeded_inside (hinside : (chainInside x.chain x.cursor).isSome = true) (land : Option Block) :
    recordsNeeded x land = 2 := by
  have hnone : (chainInside x.chain x.cursor).isNone = false := by simpa using hinside
  cases land <;> simp [recordsNeeded, hinside, hnone]

theorem recordsNeeded_grows {land : Option Block} (hgrows : Grows x land) : recordsNeeded x land = 0 := by
  obtain ⟨b, rfl, hext⟩ := hgrows
  obtain ⟨hnone, hlast⟩ := Bool.and_eq_true_iff.mp hext
  have hinside : (chainInside x.chain x.cursor).isSome = false := by simpa using hnone
  simp [recordsNeeded, hinside, hnone, hlast]

theorem recordsNeeded_placed {land : Option Block} (hinside : ¬(chainInside x.chain x.cursor).isSome = true)
    (hgrows : ¬Grows x land) : recordsNeeded x land = 1 := by
  simp only [recordsNeeded, if_neg hinside]
  cases land with
  | none => rfl
  | some b =>
    have hext : editExtends x b.num b.slices = false := by simpa using fun h => hgrows ⟨b, rfl, h⟩
    unfold editExtends at hext
    simp [hext]

theorem commitFails_length (hlimit : (p.mode = .insert ∨ x.length ≤ x.cursor) ∧ 45000 ≤ x.length) :
    s.commitFails l x p c = some .length := by
  have h : (p.mode = .insert ∨ x.length ≤ x.cursor) ∧ Config.lengthLimit ≤ x.length := hlimit
  simp only [commitFails, if_pos h]

theorem commitFails_chain (hlimit : ¬((p.mode = .insert ∨ x.length ≤ x.cursor) ∧ 45000 ≤ x.length))
    (hchain : s.seg.poolFree < recordsNeeded x (s.landing l c) ∨
      8192 < x.chain.length + recordsNeeded x (s.landing l c)) : s.commitFails l x p c = some .chain := by
  have h : ¬((p.mode = .insert ∨ x.length ≤ x.cursor) ∧ Config.lengthLimit ≤ x.length) := hlimit
  have k : s.seg.poolFree < recordsNeeded x (s.landing l c) ∨
    Config.chainLimit < x.chain.length + recordsNeeded x (s.landing l c) := hchain
  simp only [commitFails, if_neg h, if_pos k]

theorem commitFails_room (hlimit : ¬((p.mode = .insert ∨ x.length ≤ x.cursor) ∧ 45000 ≤ x.length))
    (hpool : recordsNeeded x (s.landing l c) ≤ s.seg.poolFree)
    (hlen : x.chain.length + recordsNeeded x (s.landing l c) ≤ 8192) :
    s.commitFails l x p c = if s.landing l c = none ∧ s.lineMayTake l = false then some .memory else none := by
  have h : ¬((p.mode = .insert ∨ x.length ≤ x.cursor) ∧ Config.lengthLimit ≤ x.length) := hlimit
  have k : ¬(s.seg.poolFree < recordsNeeded x (s.landing l c) ∨
      Config.chainLimit < x.chain.length + recordsNeeded x (s.landing l c)) := by
    have hlen' : x.chain.length + recordsNeeded x (s.landing l c) ≤ Config.chainLimit := hlen
    omega
  simp only [commitFails, if_neg h, if_neg k, Option.isNone_iff_eq_none]

theorem leaveHold_of_fails {f : PassFail} (hpass : s.passOf l = some (i, x, p))
    (hcap : ¬(h.coded.isSilence = true ∧ s.bus.ctl.settings.pauseCap ≤ s.coders[l].silence))
    (hfails : s.commitFails l x p h.coded = some f) : s.leaveHold l h = (s, some f) := by
  simp only [leaveHold, hpass, if_neg hcap, hfails]

theorem leaveHold_of_capped (hpass : s.passOf l = some (i, x, p))
    (hcap : h.coded.isSilence = true ∧ s.bus.ctl.settings.pauseCap ≤ s.coders[l].silence) :
    s.leaveHold l h = (s.count fun c => { c with cappedSlices := c.cappedSlices + 1 }, none) := by
  simp only [leaveHold, hpass, if_pos hcap]

/-- The station after a commit: the run of silence is one longer, or over (R63). -/
def silenceCounted (s : State) (l : LineNo) (h : HoldSlice) : State :=
  if h.coded.isSilence then
    (s.onCoder l fun c => { c with silence := c.silence + 1 }).count fun c => { c with silenceSlices := c.silenceSlices + 1 }
  else s.onCoder l fun c => { c with silence := 0 }

theorem leaveHold_of_placed (hpass : s.passOf l = some (i, x, p))
    (hcap : ¬(h.coded.isSilence = true ∧ s.bus.ctl.settings.pauseCap ≤ s.coders[l].silence))
    (hfails : s.commitFails l x p h.coded = none) :
    s.leaveHold l h = ((s.commitPlace l i x p h).silenceCounted l h, none) := by
  simp only [leaveHold, hpass, if_neg hcap, hfails, silenceCounted]
  split <;> rfl

/-! ### The block a slice lands in (R12, R37) -/

/-- The sequence number a line's next block starts at (R37). -/
def nextSeq (s : State) (l : LineNo) : Nat :=
  match s.lines[l].filling.bind s.seg.find with
  | some c => c.firstSeq + c.slices
  | none => 0

/-- The line fills block `b`: the one it filled before, where the slice fits there, else a new one. -/
structure BlockLanded (s : State) (l : LineNo) (i : LetterIx) (p : Pass) (c : Coded) (b : Block) (u : State) : Prop where
  kept : ∀ e, s.landing l c = some e → b = e ∧ u = s
  fresh : s.landing l c = none →
    b = ⟨Segment.lowestFrom 0 s.seg.blocks, 0, p.number, s.nextSeq l, 0, 0, i, some (.line l)⟩
  line : u.lines[l] = { s.lines[l] with filling := some b.num }
  found : u.seg.find b.num = some b
  filler : b.filler = some (.line l)
  letters : u.letters = s.letters
  coders : u.coders = s.coders
  mem : u.seg.mem = s.seg.mem
  pool : u.seg.poolFree = s.seg.poolFree
  counters : u.bus.counters = { s.bus.counters with eventsLost := u.bus.counters.eventsLost }

theorem takeFilling_landed (hrise : s.TableRising) (hland : s.landing l c = none) :
    BlockLanded s l i p c ⟨Segment.lowestFrom 0 s.seg.blocks, 0, p.number, s.nextSeq l, 0, 0, i, some (.line l)⟩
      (s.takeFilling l i p.number) := by
  have hgive := giveBlock_entry (s := s.chargeLine l) (by rw [chargeLine_blocks]; exact hrise) i (.line l) p.number
    (s.nextSeq l) (Segment.lowestFrom 0 s.seg.blocks)
  have hwork := giveBlock_work (s.chargeLine l) i (.line l) p.number (s.nextSeq l)
  have hmem : (s.chargeLine l).seg.mem = s.seg.mem := by
    simp only [chargeLine, onSeg_seg]
    split <;> rfl
  have hpool := takeFilling_keeps s l i p.number
  rw [chargeLine_blocks, if_pos rfl] at hgive
  cases hprev : s.lines[l].filling.bind s.seg.find with
  | none =>
    have hseq : s.nextSeq l = 0 := by simp only [nextSeq, hprev]
    have heq : s.takeFilling l i p.number = ((s.chargeLine l).giveBlock i (.line l) p.number (s.nextSeq l)).onLine l
        fun c => { c with filling := some (Segment.lowestFrom 0 s.seg.blocks) } := by
      rw [hseq]
      simp only [takeFilling, hprev]
    have hcounters := congrArg Bus.counters hwork.bus.parts
    rw [heq] at hpool ⊢
    exact ⟨fun e he => absurd (hland.symm.trans he) (by simp), fun _ => rfl, onLine_same _ l _, hgive, rfl, hpool.1, rfl,
      hmem, hpool.2, hcounters⟩
  | some y =>
    have hseq : s.nextSeq l = y.firstSeq + y.slices := by simp only [nextSeq, hprev]
    have heq : s.takeFilling l i p.number =
        (((s.chargeLine l).giveBlock i (.line l) p.number (s.nextSeq l)).sealBlock y.num).onLine l
        fun c => { c with filling := some (Segment.lowestFrom 0 s.seg.blocks) } := by
      rw [hseq]
      simp only [takeFilling, hprev]
    have hne : Segment.lowestFrom 0 s.seg.blocks ≠ y.num := by
      intro heq
      obtain ⟨n, -, hfind⟩ := Option.bind_eq_some_iff.mp hprev
      rw [← Segment.find_num hfind, ← heq, Segment.find_lowest hrise] at hfind
      cases hfind
    have hseal := sealBlock_work ((s.chargeLine l).giveBlock i (.line l) p.number (s.nextSeq l)) y.num
    have hcounters := congrArg Bus.counters (hwork.bus.trans hseal.bus).parts
    have hlines : (((s.chargeLine l).giveBlock i (.line l) p.number (s.nextSeq l)).sealBlock y.num).lines = s.lines :=
      hseal.lines.trans hwork.lines
    have hcoders : (((s.chargeLine l).giveBlock i (.line l) p.number (s.nextSeq l)).sealBlock y.num).coders = s.coders :=
      hseal.coders.trans hwork.coders
    rw [heq] at hpool ⊢
    refine ⟨fun e he => absurd (hland.symm.trans he) (by simp), fun _ => rfl, ?_, ?_, rfl, hpool.1, hcoders,
      (mem_sealBlock _ _).trans hmem, hpool.2, hcounters⟩
    · rw [onLine_same, hlines]
    · exact (sealBlock_find_ne hne _).trans hgive

theorem landed (hrise : s.TableRising) (hfiller : ∀ b, s.landing l c = some b → b.filler = some (.line l))
    (i : LetterIx) (p : Pass) : ∃ b, BlockLanded s l i p c b (when (s.landing l c).isNone (·.takeFilling l i p.number) s) := by
  cases hland : s.landing l c with
  | none => exact ⟨_, takeFilling_landed hrise hland⟩
  | some b =>
    obtain ⟨hfilling, hfind⟩ := landing_filling hland
    refine ⟨b, ?_, ?_, ?_, hfind, hfiller b hland, rfl, rfl, rfl, rfl, rfl⟩
    · intro e he
      exact ⟨Option.some.inj (hland.symm.trans he), rfl⟩
    · exact fun hnone => absurd (hland.symm.trans hnone) (by simp)
    · rw [← hfilling]
      rfl

theorem commitPlace_of_landed (hland : BlockLanded s l i p h.coded b
    (when (s.landing l h.coded).isNone (·.takeFilling l i p.number) s)) (x : Letter) : s.commitPlace l i x p h =
    (((when (s.landing l h.coded).isNone (·.takeFilling l i p.number) s).writeSlice l b.num h).editChain i
      (chainEdit x p b.num b.slices) b.num).count fun c => { c with slicesCommitted := c.slicesCommitted + 1 } := by
  have hfound : (when (s.landing l h.coded).isNone (·.takeFilling l i p.number) s).lines[l].filling.bind
      (when (s.landing l h.coded).isNone (·.takeFilling l i p.number) s).seg.find = some b := by
    rw [hland.line]
    exact hland.found
  simp only [commitPlace, hfound]

/-- A block with no byte used ends in no silence record. -/
theorem trailingSilence_of_empty (g : Segment) (h : b.bytes = 0) : g.trailingSilence b = none := by
  have hrecords : g.records b = [] := by
    rw [Segment.records, h]
    rfl
  rw [Segment.trailingSilence, hrecords]
  rfl

/-- The first slice of a block extends no record (R13). -/
theorem editExtends_first (hcounts : ∀ r ∈ x.chain, 1 ≤ r.count) (hcursor : x.cursor ≤ x.length) (n : Nat) :
    editExtends x n 0 = false := by
  refine Bool.eq_false_iff.mpr fun hext => ?_
  obtain ⟨-, front, r, rest, hchain, -, -, hzero⟩ := (editExtends_iff hcounts hcursor).mp hext
  have hr := hcounts r (by simp [hchain])
  omega

end Sys2Proof.Machine.State
end

section
/-! A slice that leaves the Hold Buffer, settled (R9 to R14, R37 to R39, R61 to R63). -/

namespace Sys2Proof.Machine.State

variable {s t u : State} {l : LineNo} {i : LetterIx} {x : Letter} {p : Pass} {h : HoldSlice} {b : Block}

theorem Filled.entry {n k w : Nat} {e : Block} (hfilled : Filled n k w s) (hfind : s.seg.find n = some e) :
    e.slices = k ∧ e.bytes = w := by
  obtain ⟨d, hd, hslices, hbytes, -⟩ := hfilled
  obtain rfl : d = e := Option.some.inj (hd.symm.trans hfind)
  exact ⟨hslices, hbytes⟩

/-- A slice has been committed to block `b` (R12 to R14, R39, R61 to R63). -/
structure Committed (s : State) (l : LineNo) (i : LetterIx) (x : Letter) (p : Pass) (h : HoldSlice) (b : Block)
    (t : State) : Prop where
  filling : t.lines[l].filling = some b.num
  letter : t.letters[i] = some { x with chain := (chainEdit x p b.num b.slices).chain, cursor := x.cursor + 1 }
  pool : t.seg.poolFree = s.seg.poolFree - (chainEdit x p b.num b.slices).taken +
    if (chainEdit x p b.num b.slices).removed.isSome then 1 else 0
  counted : t.bus.counters.slicesCommitted = s.bus.counters.slicesCommitted + 1
  voiced : ∀ tier entry codes, h.coded = .voiced tier entry codes →
    let rec0 := voicedRecord tier (s.coders[l].exit == some entry) entry codes
    t.seg.mem = Memory.writeBytes s.seg.mem (b.num * 1024 + b.bytes) rec0 ∧
    Filled b.num (b.slices + 1) (b.bytes + rec0.length) t ∧
    t.coders[l] = { s.coders[l] with exit := some h.exit, silence := 0 } ∧
    t.bus.counters.silenceSlices = s.bus.counters.silenceSlices
  joined : ∀ r, h.coded = .silence → s.landing l h.coded = some b → s.seg.trailingSilence b = some r →
    t.seg.mem = Memory.write s.seg.mem (b.num * 1024 + r.offset + 1) (BitVec.ofNat 8 (r.span + 1)) ∧
    Filled b.num (b.slices + 1) b.bytes t
  opened : h.coded = .silence → s.landing l h.coded = none ∨ s.seg.trailingSilence b = none →
    t.seg.mem = Memory.writeBytes s.seg.mem (b.num * 1024 + b.bytes) [0x80#8, 1#8] ∧
    Filled b.num (b.slices + 1) (b.bytes + 2) t
  silent : h.coded = .silence →
    t.coders[l] = { s.coders[l] with exit := none, silence := s.coders[l].silence + 1 } ∧
    t.bus.counters.silenceSlices = s.bus.counters.silenceSlices + 1

theorem silenceCounted_keeps (s : State) (l : LineNo) (h : HoldSlice) : (s.silenceCounted l h).lines = s.lines ∧
    (s.silenceCounted l h).letters = s.letters ∧ (s.silenceCounted l h).seg = s.seg ∧
    (s.silenceCounted l h).bus.counters.slicesCommitted = s.bus.counters.slicesCommitted := by
  unfold silenceCounted
  split <;> exact ⟨rfl, rfl, rfl, rfl⟩

theorem silenceCounted_silence (hsilent : h.coded = .silence) (s : State) :
    (s.silenceCounted l h).coders[l] = { s.coders[l] with silence := s.coders[l].silence + 1 } ∧
    (s.silenceCounted l h).bus.counters.silenceSlices = s.bus.counters.silenceSlices + 1 := by
  simp only [silenceCounted, hsilent, Coded.isSilence, if_true]
  exact ⟨onCoder_same s l fun c => { c with silence := c.silence + 1 }, rfl⟩

theorem silenceCounted_voiced {tier : Tier} {entry : Coding} {codes : List Byte}
    (hvoiced : h.coded = .voiced tier entry codes) (s : State) :
    (s.silenceCounted l h).coders[l] = { s.coders[l] with silence := 0 } ∧
    (s.silenceCounted l h).bus.counters.silenceSlices = s.bus.counters.silenceSlices := by
  simp only [silenceCounted, hvoiced, Coded.isSilence]
  exact ⟨onCoder_same s l fun c => { c with silence := 0 }, rfl⟩

/-- A slice that joins a silence record does so in the block the line filled before. -/
theorem BlockLanded.trailing_some (hland : BlockLanded s l i p h.coded b u) {r : Stored}
    (hkept : s.landing l h.coded = some b) (hr : s.seg.trailingSilence b = some r) : u.seg.trailingSilence b = some r := by
  obtain ⟨-, rfl⟩ := hland.kept b hkept
  exact hr

theorem BlockLanded.trailing_none (hland : BlockLanded s l i p h.coded b u)
    (hnone : s.landing l h.coded = none ∨ s.seg.trailingSilence b = none) : u.seg.trailingSilence b = none := by
  cases hkept : s.landing l h.coded with
  | none => exact trailingSilence_of_empty _ (by rw [hland.fresh hkept])
  | some e =>
    obtain ⟨rfl, rfl⟩ := hland.kept e hkept
    exact hnone.resolve_left (by simp [hkept])

/-- The steps of a commit, after the block is there. -/
theorem committed_of_landed (hland : BlockLanded s l i p h.coded b u) (hx : s.letters[i] = some x) :
    Committed s l i x p h b ((((u.writeSlice l b.num h).editChain i (chainEdit x p b.num b.slices) b.num).count
      fun c => { c with slicesCommitted := c.slicesCommitted + 1 }).silenceCounted l h) := by
  have hwritten := writeSlice_written u l h hland.found (by rw [hland.filler]; rfl)
  have hedited := editChain_edited (u.writeSlice l b.num h) i (chainEdit x p b.num b.slices) b.num
  generalize u.writeSlice l b.num h = w at hwritten hedited
  generalize w.editChain i (chainEdit x p b.num b.slices) b.num = v at hedited
  have hcounters : v.bus.counters.slicesCommitted = s.bus.counters.slicesCommitted ∧
      v.bus.counters.silenceSlices = s.bus.counters.silenceSlices := by
    rw [hedited.bus.parts, hwritten.bus]
    dsimp only
    rw [hland.counters]
    exact ⟨rfl, rfl⟩
  obtain ⟨hcommitted, hsilence⟩ := hcounters
  obtain ⟨klines, kletters, kseg, kcommitted⟩ := silenceCounted_keeps
    (v.count fun c => { c with slicesCommitted := c.slicesCommitted + 1 }) l h
  have kfilled : ∀ n k w, Filled n k w v → Filled n k w
      ((v.count fun c => { c with slicesCommitted := c.slicesCommitted + 1 }).silenceCounted l h) := by
    rintro n k w ⟨e, he, hrest⟩
    exact ⟨e, by rw [kseg]; exact he, hrest⟩
  have hcoder : v.coders = w.coders := hedited.coders
  refine ⟨?_, ?_, ?_, ?_, ?_, ?_, ?_, ?_⟩
  · have hline := hland.line
    rw [← hwritten.lines, ← hedited.lines] at hline
    rw [klines]
    exact congrArg Line.filling hline
  · have hletter := onLetter_same w i fun y => { y with chain := (chainEdit x p b.num b.slices).chain, cursor := y.cursor + 1 }
    rw [hwritten.letters, hland.letters, hx] at hletter
    rw [kletters]
    exact (congrArg (fun ls => ls[i]) hedited.letters).trans hletter
  · rw [kseg]
    exact hedited.pool.trans (by rw [hwritten.pool, hland.pool])
  · rw [kcommitted]
    exact congrArg (· + 1) hcommitted
  · intro tier entry codes hvoiced
    obtain ⟨hmem, hfilled, hexit⟩ := hwritten.voiced tier entry codes hvoiced
    obtain ⟨kcoder, ksilence⟩ := silenceCounted_voiced hvoiced
      (v.count fun c => { c with slicesCommitted := c.slicesCommitted + 1 })
    rw [hland.coders] at hmem hfilled hexit
    refine ⟨?_, kfilled _ _ _ (hedited.filled _ _ _ hfilled), ?_, ksilence.trans hsilence⟩
    · rw [kseg, ← hland.mem, ← hmem]
      exact hedited.mem
    · rw [kcoder]
      change { v.coders[l] with silence := 0 } = _
      rw [hcoder, hexit]
  · intro r hsilent hkept hr
    obtain ⟨hmem, hfilled⟩ := hwritten.joined r hsilent (hland.trailing_some hkept hr)
    refine ⟨?_, kfilled _ _ _ (hedited.filled _ _ _ hfilled)⟩
    rw [kseg, ← hland.mem, ← hmem]
    exact hedited.mem
  · intro hsilent hnone
    obtain ⟨hmem, hfilled⟩ := hwritten.opened hsilent (hland.trailing_none hnone)
    refine ⟨?_, kfilled _ _ _ (hedited.filled _ _ _ hfilled)⟩
    rw [kseg, ← hland.mem, ← hmem]
    exact hedited.mem
  · intro hsilent
    have hexit := hwritten.silent hsilent
    obtain ⟨kcoder, ksilence⟩ := silenceCounted_silence (l := l) hsilent
      (v.count fun c => { c with slicesCommitted := c.slicesCommitted + 1 })
    rw [hland.coders] at hexit
    refine ⟨?_, ksilence.trans (congrArg (· + 1) hsilence)⟩
    rw [kcoder]
    change { v.coders[l] with silence := v.coders[l].silence + 1 } = _
    rw [hcoder, hexit]

/-- A slice whose commit passes its checks is committed. -/
theorem leaveHold_committed (hpass : s.passOf l = some (i, x, p))
    (hcap : ¬(h.coded.isSilence = true ∧ s.bus.ctl.settings.pauseCap ≤ s.coders[l].silence))
    (hfails : s.commitFails l x p h.coded = none) (hrise : s.TableRising)
    (hfiller : ∀ b, s.landing l h.coded = some b → b.filler = some (.line l)) :
    ∃ b t, (∀ c, s.landing l h.coded = some c → b = c) ∧ (s.landing l h.coded = none →
      b = ⟨Segment.lowestFrom 0 s.seg.blocks, 0, p.number, s.nextSeq l, 0, 0, i, some (.line l)⟩) ∧
      s.leaveHold l h = (t, none) ∧ Committed s l i x p h b t := by
  obtain ⟨-, hx, -⟩ := passOf_spec hpass
  obtain ⟨b, hland⟩ := landed hrise hfiller i p
  have heq := leaveHold_of_placed hpass hcap hfails
  rw [commitPlace_of_landed hland] at heq
  exact ⟨b, _, fun c hc => (hland.kept c hc).1, hland.fresh, heq, committed_of_landed hland hx⟩

/-! ### The chain of a committed slice (R9, R10, R13, R43) -/

/-- A slice grows a record as the chain says (R13). -/
theorem grows_iff {land : Option Block} (hcounts : ∀ r ∈ x.chain, 1 ≤ r.count) (hcursor : x.cursor ≤ x.length) :
    Grows x land ↔ ∃ b, land = some b ∧
      (¬ ∃ front r rest, x.chain = front ++ r :: rest ∧ chainLength front < x.cursor ∧
        x.cursor < chainLength front + r.count) ∧
      ∃ front r rest, x.chain = front ++ r :: rest ∧ x.cursor = chainLength front + r.count ∧
        r.block = b.num ∧ r.first + r.count = b.slices := by
  refine exists_congr fun b => and_congr_right fun _ => ?_
  rw [editExtends_iff hcounts hcursor, ← chainInside_iff, Bool.not_eq_true, Option.isSome_eq_false_iff,
    Option.isNone_iff_eq_none]

/-- The records the pool and the chain hold between them stay as many (R43). -/
theorem Committed.records (hdone : Committed s l i x p h b t)
    (htaken : (chainEdit x p b.num b.slices).taken ≤ s.seg.poolFree) :
    t.seg.poolFree + (chainEdit x p b.num b.slices).chain.length = s.seg.poolFree + x.chain.length := by
  have hlen := length_chainEdit x p b.num b.slices
  rw [hdone.pool]
  omega

end Sys2Proof.Machine.State
end

section
/-! The commit of a slice, settled (R9 to R14, R37 to R39, R61 to R63). -/

namespace Sys2Proof.Machine.State

variable {s t : State} {l : LineNo} {i : LetterIx} {x : Letter} {p : Pass} {h : HoldSlice} {b : Block}

theorem Committed.filled (hdone : Committed s l i x p h b t) (hkept : ∀ c, s.landing l h.coded = some c → b = c) :
    ∃ e, t.seg.find b.num = some e ∧ e.slices = b.slices + 1 := by
  have hof : ∀ {w}, Filled b.num (b.slices + 1) w t → ∃ e, t.seg.find b.num = some e ∧ e.slices = b.slices + 1 :=
    fun ⟨e, he, hslices, _⟩ => ⟨e, he, hslices⟩
  cases hcoded : h.coded with
  | voiced tier entry codes =>
    obtain ⟨-, hfilled, -⟩ := hdone.voiced tier entry codes hcoded
    exact hof hfilled
  | silence =>
    cases hland : s.landing l h.coded with
    | none => exact hof (hdone.opened hcoded (.inl hland)).2
    | some c =>
      obtain rfl := hkept c hland
      cases hr : s.seg.trailingSilence b with
      | none => exact hof (hdone.opened hcoded (.inr hr)).2
      | some r => exact hof (hdone.joined r hcoded hland hr).2

/-- Bytes written into the memory are read back, and the others stay. -/
theorem written_bytes (hwf : s.MemoryCanonical) {a : Nat} {bytes : List Byte}
    (hmem : t.seg.mem = Memory.writeBytes s.seg.mem a bytes) :
    Memory.readBytes t.seg.mem a bytes.length = bytes ∧ OtherBytes a bytes.length s t := by
  rw [hmem]
  refine ⟨Memory.readBytes_writeBytes hwf bytes a, fun b hb => ?_⟩
  rw [hmem]
  exact Memory.read_writeBytes_outside hwf bytes a b hb

theorem written_byte (hwf : s.MemoryCanonical) {a : Nat} {v : Byte} (hmem : t.seg.mem = Memory.write s.seg.mem a v) :
    Memory.read t.seg.mem a = v ∧ OtherBytes a 1 s t := by
  rw [hmem]
  refine ⟨Memory.read_write_same hwf a v, fun b hb => ?_⟩
  rw [hmem, Memory.read_write hwf, if_neg (by omega)]

/-- Settles O14: the checks in their order, then the block, the bytes and the chain of a commit that passes them. -/
theorem commit : Obligations.Commit := by
  unfold Obligations.Commit
  refine ⟨fun s l c b => ?_, fun s l i x p h hpass => ⟨fun hsilent hcap => ?_, ?_⟩⟩
  · rw [landing_iff]
    cases c with
    | voiced tier => cases tier <;> rfl
    | silence => rfl
  · exact leaveHold_of_capped hpass ⟨by rw [hsilent]; rfl, hcap⟩
  intro huncapped inside grows hcounts hcursor need htwo hone hzero
  have hinside : (chainInside x.chain x.cursor).isSome = true ↔ inside := chainInside_iff _ _
  have hgrows : Grows x (s.landing l h.coded) ↔ grows := grows_iff hcounts hcursor
  have hneed : need = recordsNeeded x (s.landing l h.coded) := by
    by_cases hin : inside
    · rw [htwo hin, recordsNeeded_inside (hinside.mpr hin)]
    · by_cases hg : grows
      · rw [hzero hg, recordsNeeded_grows (hgrows.mpr hg)]
      · rw [hone hin hg, recordsNeeded_placed (fun k => hin (hinside.mp k)) (fun k => hg (hgrows.mp k))]
  subst hneed
  have hcap : ¬(h.coded.isSilence = true ∧ s.bus.ctl.settings.pauseCap ≤ s.coders[l].silence) := by
    rintro ⟨hsilence, hcap⟩
    rcases huncapped with hvoiced | hbelow
    · cases hcoded : h.coded with
      | voiced tier entry codes => simp [hcoded, Coded.isSilence] at hsilence
      | silence => exact hvoiced hcoded
    · omega
  refine ⟨fun hend hlen => leaveHold_of_fails hpass hcap (commitFails_length ⟨hend, hlen⟩), fun hlimit =>
    ⟨fun hchain => leaveHold_of_fails hpass hcap (commitFails_chain hlimit hchain), fun hpool hchain => ?_⟩⟩
  have hroom := commitFails_room (s := s) (l := l) (c := h.coded) hlimit hpool hchain
  refine ⟨fun hland hmay => leaveHold_of_fails hpass hcap (hroom.trans (if_pos ⟨hland, hmay⟩)), ?_⟩
  intro hmay hwf hrise hfiller
  have hfails : s.commitFails l x p h.coded = none := by
    refine hroom.trans (if_neg ?_)
    rintro ⟨hland, hnot⟩
    rcases hmay with hsome | hyes
    · exact hsome hland
    · rw [hnot] at hyes
      cases hyes
  obtain ⟨b, t, hkept, hfresh, hleave, hdone⟩ := leaveHold_committed hpass hcap hfails hrise hfiller
  have hwork := leaveHold_work s l h
  rw [hleave] at hwork
  obtain ⟨hi, hx, -⟩ := passOf_spec hpass
  obtain ⟨e, hfind, hslices⟩ := hdone.filled hkept
  have htaken : (chainEdit x p b.num b.slices).taken ≤ s.seg.poolFree := by
    cases hland : s.landing l h.coded with
    | none =>
      rw [hland] at hpool
      exact (chainEdit_taken_le x p none _ _ (fun _ hy => by cases hy)).trans hpool
    | some c =>
      obtain rfl := hkept c hland
      rw [hland] at hpool
      exact (chainEdit_taken_le x p (some b) _ _ (by rintro _ ⟨⟩; exact ⟨rfl, rfl⟩)).trans hpool
  have hplaces : ¬grows → (⟨b.num, b.slices, 1, p.number, p.kind⟩ : SegRec) ∈ (chainEdit x p b.num b.slices).chain := by
    intro hg
    refine chainEdit_places (Bool.eq_false_iff.mpr fun hext => ?_) p
    cases hland : s.landing l h.coded with
    | none =>
      have hempty : b.slices = 0 := by rw [hfresh hland]
      rw [hempty, editExtends_first hcounts hcursor] at hext
      cases hext
    | some c =>
      obtain rfl := hkept c hland
      exact hg (hgrows.mp ⟨b, hland, hext⟩)
  refine ⟨t, b, _, e, hleave, hkept, hfresh, ?_, hdone.letter, rfl, slicesOf_chainEdit x p b.num b.slices hcounts, hplaces,
    hdone.records htaken, hfind, hslices, ?_, ?_, hdone.counted, ?_, hwork.otherLines, hwork.tones, hwork.ports, hwork.nums,
    hwork.xfer, hwork.deliv, hwork.peers, hwork.sameOutside⟩
  · rw [hwork.line, hdone.filling]
  · intro tier entry codes hcoded
    obtain ⟨hmem, hfilled, hcoder, hsilence⟩ := hdone.voiced tier entry codes hcoded
    obtain ⟨hread, hother⟩ := written_bytes hwf hmem
    exact ⟨hread, hother, (hfilled.entry hfind).2, hcoder, hsilence⟩
  · intro hcoded
    obtain ⟨hcoder, hsilence⟩ := hdone.silent hcoded
    refine ⟨fun r hland hr => ?_, fun hnone => ?_, hcoder, hsilence⟩
    · obtain ⟨hmem, hfilled⟩ := hdone.joined r hcoded hland hr
      obtain ⟨hread, hother⟩ := written_byte hwf hmem
      exact ⟨hread, hother, (hfilled.entry hfind).2⟩
    · obtain ⟨hmem, hfilled⟩ := hdone.opened hcoded hnone
      obtain ⟨hread, hother⟩ := written_bytes hwf hmem
      exact ⟨hread, hother, (hfilled.entry hfind).2⟩
  · intro j hj
    exact hwork.letters j fun heq => hj (Option.some.inj (heq.symm.trans hi))

end Sys2Proof.Machine.State
end

section
/-! The few events of a table that shrinks, and frames placed in a queue that accepts them (R49, R129). -/

namespace Sys2Proof.Machine.Bus

variable {b c : Bus} {n : Nat} {q p : QFrame}

/-! ### The Control Queue accepts (R129) -/

theorem accepts_iff (b : Bus) : b.accepts = true ↔
    b.link.control.length < 16 ∨ ∃ q ∈ b.link.control, q.msg.isEvent = true := by
  rw [accepts, Bool.or_eq_true, decide_eq_true_iff, List.any_eq_true]
  exact Iff.rfl

theorem accepts_of_room (h : b.link.control.length < Config.controlFrames) : b.accepts = true :=
  (accepts_iff b).mpr (.inl h)

theorem accepts_raise (h : b.accepts = true) (e : Event) : (b.raise e).accepts = true := by
  obtain ⟨qs, hlen, hevent, hcontrol⟩ := raise_control b e
  rw [accepts_iff] at h ⊢
  rw [hcontrol]
  rcases h with hroom | ⟨q, hq, hqevent⟩
  · cases qs with
    | nil => exact .inl (by simpa using hroom)
    | cons q qs => exact .inr ⟨q, by simp, hevent q (by simp)⟩
  · exact .inr ⟨q, by simp [hq], hqevent⟩

/-- A queue that accepts goes on accepting as events are raised. -/
theorem Raises.accepts (h : Raises n b c) (hok : b.accepts = true) : c.accepts = true := by
  obtain ⟨es, -, rfl⟩ := h
  induction es generalizing b with
  | nil => exact hok
  | cons e es ih => exact ih (accepts_raise hok e)

/-- A frame placed in a queue that accepts it stands at its tail. -/
theorem place_control (h : b.accepts = true) (q : QFrame) :
    ∃ rest, (b.place q).link.control = rest ++ [q] := by
  unfold place
  split
  · exact ⟨_, rfl⟩
  · next hfull =>
    have hevent : b.link.control.any (·.msg.isEvent) = true := by
      simpa [Bus.accepts, hfull] using h
    rw [if_pos hevent]
    exact ⟨_, rfl⟩

theorem mem_place (h : b.accepts = true) (q : QFrame) : q ∈ (b.place q).link.control := by
  obtain ⟨rest, hrest⟩ := place_control h q
  simp [hrest]

theorem mem_place_of_room (hroom : b.link.control.length < Config.controlFrames) (hp : p ∈ b.link.control) (q : QFrame) :
    p ∈ (b.place q).link.control := by
  rw [place_room b q hroom]
  exact List.mem_append_left _ hp

end Sys2Proof.Machine.Bus

namespace Sys2Proof.Machine

/-- How many pressure events a table of `n` blocks that only shrinks may still raise (R49). -/
def pressureLeft (tier : Tier) (n : Nat) : Nat :=
  match tier with
  | .a => if 24576 ≤ n then 4 else 0
  | .b => if 28672 ≤ n then 3 else 1
  | .c => 2

theorem pressureLeft_le (tier : Tier) (n : Nat) : pressureLeft tier n ≤ 4 := by
  cases tier <;> simp only [pressureLeft]
  · split <;> omega
  · split <;> omega
  · omega

/-- Each event uses up one of those left. -/
theorem pressureLeft_after (tier : Tier) {m n : Nat} (hle : m ≤ n) :
    (if pressureAfter tier m = tier then 0 else 1) + pressureLeft (pressureAfter tier m) m ≤ pressureLeft tier n := by
  rw [State.pressureAfter_eq]
  cases tier
  case a =>
    by_cases h : 24576 ≤ m
    · have hn : 24576 ≤ n := by omega
      simp only [h, hn, pressureLeft, and_self, if_true, reduceCtorEq, if_false]
      split <;> omega
    · simp [h, pressureLeft]
  case b =>
    have hpos : 1 ≤ if 28672 ≤ n then 3 else 1 := by split <;> omega
    by_cases h : 28672 ≤ m
    · have hn : 28672 ≤ n := by omega
      simp [h, hn, pressureLeft]
    · by_cases hlow : m < 20480
      · have hm : ¬24576 ≤ m := by omega
        simpa [h, hlow, hm, pressureLeft] using hpos
      · simpa [h, hlow, pressureLeft] using hpos
  case c =>
    by_cases h : m < 24576
    · have hm : ¬28672 ≤ m := by omega
      simp [h, hm, pressureLeft]
    · simp [h, pressureLeft]

end Sys2Proof.Machine

namespace Sys2Proof.Machine.State

variable {s t u : State}

/-- Blocks were at most given up, and the bus side heard no more pressure events than that can raise. -/
def Shrinks (s t : State) : Prop := ∃ n, Bus.Raises n s.bus t.bus ∧
  n + pressureLeft t.seg.tier t.seg.blocks.length ≤ pressureLeft s.seg.tier s.seg.blocks.length

namespace Shrinks

theorem refl (s : State) : Shrinks s s := ⟨0, .refl _, by omega⟩

theorem trans (h : Shrinks s t) (k : Shrinks t u) : Shrinks s u := by
  obtain ⟨n, hbus, hleft⟩ := h
  obtain ⟨m, kbus, kleft⟩ := k
  exact ⟨n + m, hbus.trans kbus, by omega⟩

/-- A step that keeps the tier, the number of blocks and the bus side. -/
theorem of_same (hbus : t.bus = s.bus) (htier : t.seg.tier = s.seg.tier)
    (hlen : t.seg.blocks.length = s.seg.blocks.length) : Shrinks s t := by
  refine ⟨0, by rw [hbus]; exact .refl _, ?_⟩
  rw [htier, hlen]
  omega

theorem onUpdate (s : State) (b : Nat) (f : Block → Block) : Shrinks s (s.onSeg (·.update b f)) :=
  .of_same rfl rfl (List.length_map ..)

theorem raises (h : Shrinks s t) : Bus.Raises 4 s.bus t.bus := by
  obtain ⟨n, hbus, hleft⟩ := h
  exact hbus.mono (by have := pressureLeft_le s.seg.tier s.seg.blocks.length; omega)

end Shrinks

/-- An evaluation of the pressure of a table no longer than before (R49). -/
theorem evalPressure_shrinks (hbus : t.bus = s.bus) (htier : t.seg.tier = s.seg.tier)
    (hle : t.seg.blocks.length ≤ s.seg.blocks.length) : Shrinks s t.evalPressure := by
  have hleft := pressureLeft_after s.seg.tier hle
  rw [← htier] at hleft
  refine ⟨if pressureAfter t.seg.tier t.seg.blocks.length = t.seg.tier then 0 else 1, ?_, by rw [← htier]; exact hleft⟩
  by_cases hsame : pressureAfter t.seg.tier t.seg.blocks.length = t.seg.tier
  · have heq : t.evalPressure.bus = t.bus := if_pos hsame
    rw [if_pos hsame, heq, hbus]
    exact .refl _
  · have heq : t.evalPressure.bus = t.bus.raise (.pressureTier t.seg.tier _ t.seg.inUse) := if_neg hsame
    rw [if_neg hsame, heq, hbus]
    exact .raise _ _

theorem freeBlock_shrinks (s : State) (b : Nat) : Shrinks s (s.freeBlock b) := by
  unfold freeBlock
  split
  · exact evalPressure_shrinks rfl rfl (List.length_filter_le ..)
  · exact .refl s

theorem decRef_shrinks (s : State) (b : Nat) : Shrinks s (s.decRef b) := by
  simp only [decRef]
  unfold when
  split
  · exact (Shrinks.onUpdate s b _).trans (freeBlock_shrinks _ b)
  · exact .onUpdate s b _

theorem sealBlock_shrinks (s : State) (b : Nat) : Shrinks s (s.sealBlock b) := by
  unfold sealBlock
  split
  · exact .refl s
  · split
    · unfold when
      split
      · exact (Shrinks.onUpdate s b _).trans (freeBlock_shrinks _ b)
      · exact .onUpdate s b _
    · exact .refl s

theorem dropRecords_shrinks (c : List SegRec) (s : State) : Shrinks s (dropRecords c s) := by
  induction c generalizing s with
  | nil => exact .refl s
  | cons r c ih =>
    have hreturn : Shrinks s (s.onSeg (Segment.returnRecords 1)) := .of_same rfl rfl rfl
    exact (hreturn.trans (decRef_shrinks _ _)).trans (ih _)

theorem sealAll_shrinks (bs : List Nat) (s : State) : Shrinks s (sealAll bs s) := by
  induction bs generalizing s with
  | nil => exact .refl s
  | cons b bs ih => exact (sealBlock_shrinks s b).trans (ih _)

/-- A letter's freeing raises no more than four pressure events, whatever its length (R4, R49). -/
theorem freeLetter_shrinks (s : State) (i : LetterIx) : Shrinks s (s.freeLetter i) := by
  unfold freeLetter
  split
  · exact .refl s
  · exact (dropRecords_shrinks _ s).trans (sealAll_shrinks _ _)

end Sys2Proof.Machine.State
end

section
/-! A line told by a prompt, and the incoming transfer that fails, settled (R78, R160, R167, R198). -/

namespace Sys2Proof.Machine.State

variable {s t u : State} {l : LineNo} {i : LetterIx} {x : Letter} {inc : Incoming} {f : Line → Line} {p : Prompt}

/-! ### A line told (R78) -/

/-- The line has a new context and hears a prompt, and no other line is touched. -/
structure LineTold (l : LineNo) (f : Line → Line) (p : Prompt) (s t : State) : Prop where
  only : OnlyLines s t
  line : t.lines[l] = f s.lines[l]
  sounds : t.Sounds l p
  others : OtherLines l s t

theorem lineTold (s : State) (l : LineNo) (f : Line → Line) (p : Prompt) : LineTold l f p s ((s.onLine l f).prompt l p) := by
  refine ⟨rfl, onLine_same s l f, ?_, fun m hm => ?_⟩
  · simp [prompt, Sounds]
  · have hnot := Fin.val_inj.not.mpr hm.symm
    simp [prompt, hnot]

/-- What happens to the other parts before a line is told, and after, does not matter. -/
theorem LineTold.of_lines (h : LineTold l f p t u) (hlines : SameLines s t) :
    u.lines[l] = f s.lines[l] ∧ u.Sounds l p ∧ OtherLines l s u := by
  obtain ⟨klines, kcoders, ktones, kports⟩ := hlines
  refine ⟨by rw [h.line, klines], h.sounds, fun m hm => ?_⟩
  obtain ⟨hline, hcoder, htone, hport⟩ := h.others m hm
  exact ⟨by rw [hline, klines], by rw [hcoder, kcoders], by rw [htone, ktones], by rw [hport, kports]⟩

theorem fetchingLine_of_lines (h : t.lines = s.lines) (i : LetterIx) : t.fetchingLine i = s.fetchingLine i := by
  simp only [fetchingLine, h]

/-! ### The incoming transfer fails (R167) -/

theorem tellFailed_of_some (h : s.fetchingLine i = some l) : LineTold l
    (fun c => { c with state := .select, fetchRef := none, waitTimer := none }) .refused s (s.tellFailed i) := by
  have heq : s.tellFailed i = ((s.onLine l fun c => { c with fetchRef := none, waitTimer := none }).goto l .select).prompt l
      .refused := by
    simp only [tellFailed, h]
    rfl
  have htwice : (s.onLine l fun c => { c with fetchRef := none, waitTimer := none }).goto l .select =
      s.onLine l fun c => { c with state := .select, fetchRef := none, waitTimer := none } := by
    simp [goto, onLine]
  rw [heq, htwice]
  exact lineTold s l _ _

theorem tellFailed_of_none (h : s.fetchingLine i = none) : s.tellFailed i = s := by simp only [tellFailed, h]

theorem tellFailed_only (s : State) (i : LetterIx) : OnlyLines s (s.tellFailed i) := by
  cases h : s.fetchingLine i with
  | none => rw [tellFailed_of_none h]; rfl
  | some l => exact (tellFailed_of_some h).only

/-- The bus side of a failed transfer: the event, then the Fetch Cancel if there is one (R167, R198). -/
def failedBus (inc : Incoming) (cancel : Option CancelReason) (why : TransferReason) (b : Bus) : Bus :=
  cancel.elim (b.raise (.transferCancelled inc.number inc.giver why)) fun r =>
    (b.raise (.transferCancelled inc.number inc.giver why)).place ⟨inc.giver, .fetchCancel inc.number r, 0⟩

theorem incomingFail_eq (hinc : s.xfer.incoming = some inc) (cancel : Option CancelReason) (why : TransferReason) :
    s.incomingFail cancel why =
      { ((s.freeLetter inc.letter).endIncoming).tellFailed inc.letter with
        bus := failedBus inc cancel why (s.freeLetter inc.letter).bus } := by
  have hbus : (((s.freeLetter inc.letter).endIncoming).tellFailed inc.letter).bus = (s.freeLetter inc.letter).bus := by
    rw [tellFailed_only ((s.freeLetter inc.letter).endIncoming) inc.letter]
    rfl
  simp only [incomingFail, hinc]
  rw [← hbus]
  cases cancel <;> rfl

theorem incomingFail_failed (hinc : s.xfer.incoming = some inc) (hx : s.letters[inc.letter] = some x)
    (cancel : Option CancelReason) (why : TransferReason) : TransferFailed inc x s (s.incomingFail cancel why) := by
  have hfreed := freeLetter_freed hx
  obtain ⟨hnone, hbytes, hpool, hwaiting, hwindow⟩ := hfreed.freed
  have hsame := hfreed.sameLines
  have hxfer := hfreed.xfer
  have hdeliv := hfreed.deliv
  have hpeers := hfreed.peers
  have hothers := hfreed.others
  rw [incomingFail_eq hinc]
  generalize s.freeLetter inc.letter = r at *
  have htold := tellFailed_only r.endIncoming inc.letter
  have hfetch : r.endIncoming.fetchingLine inc.letter = s.fetchingLine inc.letter :=
    fetchingLine_of_lines hsame.1 inc.letter
  unfold OnlyLines at htold
  refine ⟨⟨?_, ?_, ?_, ?_, ?_⟩, ?_, ?_, ?_, ?_, ?_, ?_, ?_⟩
  case refine_11 =>
    intro l hl
    exact (tellFailed_of_some (hfetch.trans hl)).of_lines (s := s) hsame
  case refine_12 =>
    intro hl
    rw [tellFailed_of_none (hfetch.trans hl)]
    exact hsame
  all_goals rw [htold]
  · exact hnone
  · exact hbytes
  · exact hpool
  · exact hwaiting
  · exact hwindow
  · exact hothers
  · change ({ r.xfer with incoming := none } : Transfer) = _
    rw [hxfer]
  · rfl
  · exact hdeliv
  · exact hpeers

theorem incomingFail_bus (hinc : s.xfer.incoming = some inc) (cancel : Option CancelReason) (why : TransferReason) :
    (s.incomingFail cancel why).bus = failedBus inc cancel why (s.freeLetter inc.letter).bus := by
  rw [incomingFail_eq hinc]

/-- A Fetch Cancel stands in a queue that accepted it (R167). -/
theorem incomingFail_cancels (hinc : s.xfer.incoming = some inc) (hok : s.bus.accepts = true) (r : CancelReason)
    (why : TransferReason) : (s.incomingFail (some r) why).InQueue inc.giver (.fetchCancel inc.number r) := by
  unfold InQueue
  rw [incomingFail_bus hinc]
  exact Bus.mem_place (Bus.accepts_raise ((freeLetter_shrinks s inc.letter).raises.accepts hok) _) _

/-- With room for them all, the event stands in the queue after the pressure events and before the Fetch Cancel
(R167, R198). -/
theorem incomingFail_tells (hinc : s.xfer.incoming = some inc) (hlen : s.bus.link.control.length ≤ 8)
    (cancel : Option CancelReason) (why : TransferReason) {d : Station} (hdest : s.bus.ctl.eventDest = some d) :
    ∃ seq, (s.incomingFail cancel why).InQueue d (.event 12 seq s.bus.ctl.seconds
      (Event.transferCancelled inc.number inc.giver why).details) := by
  have hraises := (freeLetter_shrinks s inc.letter).raises
  have hroom := hraises.control_length
  have hctl : (s.freeLetter inc.letter).bus.ctl = { s.bus.ctl with eventSeq := (s.freeLetter inc.letter).bus.ctl.eventSeq } :=
    congrArg Bus.ctl hraises.parts
  have hseconds : (s.freeLetter inc.letter).bus.ctl.seconds = s.bus.ctl.seconds := by rw [hctl]
  have hdest' : (s.freeLetter inc.letter).bus.ctl.eventDest = some d := by rw [hctl]; exact hdest
  have htold := Bus.raise_told (b := (s.freeLetter inc.letter).bus)
    (show _ < 16 by omega) hdest' (.transferCancelled inc.number inc.giver why)
  have hafter := (Bus.Raises.raise (s.freeLetter inc.letter).bus (.transferCancelled inc.number inc.giver why)).control_length
  refine ⟨(s.freeLetter inc.letter).bus.ctl.eventSeq + 1, ?_⟩
  unfold InQueue
  rw [incomingFail_bus hinc, ← hseconds]
  cases cancel with
  | none => exact htold
  | some r => exact Bus.mem_place_of_room (show _ < 16 by omega) htold _

/-! ### The rows that fail it, settled -/

theorem exec_fetchRefuse {sender : Station} {n : Nat} {r : RefuseReason} (hact : s.Active)
    (hinc : s.incomingOf n sender = some inc) (hsnap : inc.snapshot = none) :
    exec (.fetchRefuse sender n r) s = .next ((s.taken (.fetchRefuse sender n r)).incomingFail none (.refused r)) := by
  have hactive : s.isActive = true := by simpa [isActive] using hact
  have hany : (s.incomingOf n sender).any (·.snapshot.isNone) = true := by simp [hinc, hsnap]
  exact congrArg Host.Outcome.next (if_pos ⟨hactive, hany⟩)

theorem exec_acceptTimerExpiry (hinc : s.xfer.incoming = some inc) (hsnap : inc.snapshot = none) :
    exec .acceptTimerExpiry s = .next ((s.taken .acceptTimerExpiry).incomingFail (some .timeout) .timeout) := by
  have hany : s.xfer.incoming.any (·.snapshot.isNone) = true := by simp [hinc, hsnap]
  exact congrArg Host.Outcome.next (if_pos hany)

theorem exec_receiveTimerExpiry (hinc : s.xfer.incoming = some inc) (hsnap : inc.snapshot ≠ none) :
    exec .receiveTimerExpiry s = .next ((s.taken .receiveTimerExpiry).incomingFail (some .timeout) .timeout) := by
  have hany : s.xfer.incoming.any (·.snapshot.isSome) = true := by
    simpa [hinc, Option.isSome_iff_ne_none] using hsnap
  exact congrArg Host.Outcome.next (if_pos hany)

theorem incomingOf_eq_some {n : Nat} {st : Station} : s.incomingOf n st = some inc ↔
    s.xfer.incoming = some inc ∧ inc.number = n ∧ inc.giver = st := by
  rw [incomingOf, Option.filter_eq_some_iff]
  simp

/-- Settles O41: each row fails the transfer, and the event and the Fetch Cancel find room. -/
theorem incomingFails : Obligations.IncomingFails := by
  unfold Obligations.IncomingFails
  intro s inc x hinc hx hlen
  have hok : s.bus.accepts = true := Bus.accepts_of_room (show _ < 16 by omega)
  refine ⟨fun r hact hsnap => ?_, fun hsnap => ?_, fun hsnap => ?_⟩
  · have hinc' : (s.taken (.fetchRefuse inc.giver inc.number r)).xfer.incoming = some inc := hinc
    exact ⟨_, exec_fetchRefuse hact (incomingOf_eq_some.mpr ⟨hinc, rfl, rfl⟩) hsnap,
      incomingFail_failed hinc' hx none (.refused r), fun d hd => incomingFail_tells hinc' hlen none (.refused r) hd⟩
  · have hinc' : (s.taken .acceptTimerExpiry).xfer.incoming = some inc := hinc
    exact ⟨_, exec_acceptTimerExpiry hinc hsnap, incomingFail_failed hinc' hx (some .timeout) .timeout,
      incomingFail_cancels hinc' hok .timeout .timeout,
      fun d hd => incomingFail_tells hinc' hlen (some .timeout) .timeout hd⟩
  · have hinc' : (s.taken .receiveTimerExpiry).xfer.incoming = some inc := hinc
    exact ⟨_, exec_receiveTimerExpiry hinc hsnap, incomingFail_failed hinc' hx (some .timeout) .timeout,
      incomingFail_cancels hinc' hok .timeout .timeout,
      fun d hd => incomingFail_tells hinc' hlen (some .timeout) .timeout hd⟩

end Sys2Proof.Machine.State
end

section
/-! Fetch Accept, Fetch and Transfer End taken, settled (R47, R79, R159, R160, R163, R164). -/

namespace Sys2Proof.Machine.State

variable {s t u : State} {l : LineNo} {i : LetterIx} {x : Letter} {inc : Incoming} {snap : Snapshot} {sender : Station} {n : Nat}

/-- A letter whose entry takes new fields, and no other letter. -/
theorem onLetter_spec (hx : s.letters[i] = some x) (f : Letter → Letter) :
    (s.onLetter i f).letters[i] = some (f x) ∧ OtherLetters i s (s.onLetter i f) :=
  ⟨by rw [onLetter_same, hx]; rfl, fun _ hj => onLetter_other s hj f⟩

/-! ### Fetch Accept (R160) -/

theorem exec_fetchAccept (hact : s.Active) (hinc : s.incomingOf snap.number sender = some inc) :
    exec (.fetchAccept sender snap) s = .next (
      if inc.snapshot.isSome then (s.taken (.fetchAccept sender snap)).restartReceive
      else if snap.blocks ≤ s.seg.common then (s.taken (.fetchAccept sender snap)).admitLetter inc snap
      else (s.taken (.fetchAccept sender snap)).incomingFail (some .noMemory) .noMemory) := by
  have hactive : (s.taken (.fetchAccept sender snap)).isActive = true := by simpa [isActive] using hact
  have hinc' : (s.taken (.fetchAccept sender snap)).incomingOf snap.number sender = some inc := hinc
  change execFetchAccept sender snap s = _
  simp only [execFetchAccept, if_pos hactive, hinc']
  rfl

theorem exec_fetchAccept_none (hact : s.Active) (hinc : s.incomingOf snap.number sender = none) :
    exec (.fetchAccept sender snap) s =
      .next ((s.taken (.fetchAccept sender snap)).place sender (.fetchCancel snap.number .timeout)) := by
  have hactive : (s.taken (.fetchAccept sender snap)).isActive = true := by simpa [isActive] using hact
  have hinc' : (s.taken (.fetchAccept sender snap)).incomingOf snap.number sender = none := hinc
  change execFetchAccept sender snap s = _
  simp only [execFetchAccept, if_pos hactive, hinc']

theorem restartReceive_xfer (hinc : s.xfer.incoming = some inc) :
    s.restartReceive.xfer = { s.xfer with incoming := some { inc with timer := 500 } } := by
  change ({ s.xfer with incoming := s.xfer.incoming.map fun c => { c with timer := Config.receiveMs } } : Transfer) = _
  rw [hinc]
  rfl

/-- Settles O40: the branches of the row, by the transfer and its snapshot. -/
theorem fetchAcceptTaken : Obligations.FetchAcceptTaken := by
  unfold Obligations.FetchAcceptTaken
  intro s sender snap hact
  refine ⟨fun inc x hinc hx => ⟨fun hnone hfits => ?_, fun hnone hlacks hroom => ?_, fun hsome => ?_⟩, fun hinc hroom => ?_⟩
  · have hnot : ¬inc.snapshot.isSome = true := by simp [hnone]
    obtain ⟨hletter, hothers⟩ := onLetter_spec hx fun y => { y with
      priority := snap.priority, mode := snap.mode, passCount := snap.passCount, instrNext := snap.instrNext }
    refine ⟨(s.taken (.fetchAccept sender snap)).admitLetter inc snap, (exec_fetchAccept hact hinc).trans ?_, rfl, hletter,
      hothers, rfl, rfl, ⟨rfl, rfl, rfl, rfl⟩, rfl⟩
    rw [if_neg hnot, if_pos hfits]
  · obtain ⟨hin, -, rfl⟩ := incomingOf_eq_some.mp hinc
    have hnot : ¬inc.snapshot.isSome = true := by simp [hnone]
    have hin' : (s.taken (.fetchAccept inc.giver snap)).xfer.incoming = some inc := hin
    refine ⟨_, (exec_fetchAccept hact hinc).trans ?_, incomingFail_failed hin' hx (some .noMemory) .noMemory,
      incomingFail_cancels hin' (Bus.accepts_of_room hroom) .noMemory .noMemory⟩
    rw [if_neg hnot, if_neg (show ¬snap.blocks ≤ s.seg.common by omega)]
  · obtain ⟨hin, -, -⟩ := incomingOf_eq_some.mp hinc
    refine ⟨_, (exec_fetchAccept hact hinc).trans ?_,
      restartReceive_xfer (s := s.taken (.fetchAccept sender snap)) hin, rfl, ⟨rfl, rfl, rfl, rfl⟩, rfl, rfl, rfl, rfl⟩
    rw [if_pos (Option.isSome_iff_ne_none.mpr hsome)]
  · exact ⟨_, exec_fetchAccept_none hact hinc, placed_of_room (s := s.taken _) hroom _ _, ⟨rfl, rfl, rfl, rfl⟩, rfl, rfl, rfl, rfl⟩

/-! ### Fetch (R159) -/

theorem exec_fetch_none {author : Nat} (hact : s.Active) (hn : s.findNumber n = none) : exec (.fetch sender n author) s =
    .next ((s.taken (.fetch sender n author)).place sender (.fetchRefuse n .unknown)) := by
  have hactive : (s.taken (.fetch sender n author)).isActive = true := by simpa [isActive] using hact
  have hn' : (s.taken (.fetch sender n author)).findNumber n = none := hn
  change execFetch sender n author s = _
  simp only [execFetch, if_pos hactive, hn', Option.bind_none]

theorem exec_fetch {author : Nat} (hact : s.Active) (hn : s.findNumber n = some i) (hx : s.letters[i] = some x) :
    exec (.fetch sender n author) s = .next (
      if x.author ≠ author then (s.taken (.fetch sender n author)).place sender (.fetchRefuse n .unknown)
      else match x.state with
        | .held => if s.xfer.outgoing.isSome then (s.taken (.fetch sender n author)).place sender (.fetchRefuse n .busy)
            else (s.taken (.fetch sender n author)).lendLetter i x sender
        | .open | .transitOut | .transitIn | .settling =>
            (s.taken (.fetch sender n author)).place sender (.fetchRefuse n .busy)
        | .closed | .delivering | .suspended | .stranded =>
            (s.taken (.fetch sender n author)).place sender (.fetchRefuse n .closed)) := by
  have hactive : (s.taken (.fetch sender n author)).isActive = true := by simpa [isActive] using hact
  have hn' : ((s.taken (.fetch sender n author)).findNumber n).bind
      (fun i => (s.taken (.fetch sender n author)).letters[i].map fun x => (i, x)) = some (i, x) := by
    change (s.findNumber n).bind (fun i => s.letters[i].map fun x => (i, x)) = _
    rw [hn, Option.bind_some, hx]
    rfl
  change execFetch sender n author s = _
  simp only [execFetch, if_pos hactive, hn']
  rfl

/-- Settles O39: the branches of the row, by the letter's state. -/
theorem fetchAnswered : Obligations.FetchAnswered := by
  unfold Obligations.FetchAnswered
  refine ⟨fun s x => rfl, fun s sender n author hact hroom => ?_⟩
  have hplaced : ∀ r, Placed sender (.fetchRefuse n r) s ((s.taken (.fetch sender n author)).place sender (.fetchRefuse n r)) :=
    fun r => placed_of_room (s := s.taken (.fetch sender n author)) hroom _ _
  have hsame : ∀ r, SameWork s ((s.taken (.fetch sender n author)).place sender (.fetchRefuse n r)) :=
    fun r => ⟨⟨rfl, rfl, rfl, rfl⟩, rfl, rfl, rfl, rfl⟩
  refine ⟨fun hn => ⟨_, exec_fetch_none hact hn, hplaced _, hsame _, rfl, rfl⟩, fun i x hn hx => ?_⟩
  have hexec := exec_fetch (sender := sender) (author := author) hact hn hx
  refine ⟨fun hother => ?_, fun hown hbusy => ?_, fun hown hclosed => ?_, fun hown hheld hnone => ?_⟩
  · rw [if_pos hother] at hexec
    exact ⟨_, hexec, hplaced _, hsame _, rfl⟩
  · rw [if_neg (not_not.mpr hown)] at hexec
    refine ⟨_, hexec.trans ?_, hplaced .busy, hsame _, rfl⟩
    rcases hbusy with h | h | h | h | ⟨h, hout⟩
    · rw [h]
    · rw [h]
    · rw [h]
    · rw [h]
    · rw [h]
      dsimp only
      rw [if_pos (Option.isSome_iff_ne_none.mpr hout)]
  · rw [if_neg (not_not.mpr hown)] at hexec
    refine ⟨_, hexec.trans ?_, hplaced .closed, hsame _, rfl⟩
    rcases hclosed with h | h | h | h <;> rw [h]
  · have hnot : ¬s.xfer.outgoing.isSome = true := by simp [hnone]
    rw [if_neg (not_not.mpr hown), hheld] at hexec
    dsimp only at hexec
    rw [if_neg hnot] at hexec
    obtain ⟨hletter, hothers⟩ := onLetter_spec hx fun y =>
      { y with state := .transitOut, held := none, partner := some sender }
    have hok : s.bus.accepts = true := Bus.accepts_of_room hroom
    have hlend : (s.taken (.fetch sender n author)).lendLetter i x sender =
        ({ (s.taken (.fetch sender n author)).onLetter i (fun y =>
            { y with state := .transitOut, held := none, partner := some sender }) with
          streamId := s.streamId + 1
          xfer := { s.xfer with
            outgoing := some ⟨i, x.number, sender, .accepted, 0, 0, 0xFFFFFFFF#32, none, false, s.streamId⟩ } }).onBus
          (Bus.place ⟨sender, .fetchAccept (s.snapshotOf x), s.streamId⟩) := if_pos hok
    rw [hlend] at hexec
    refine ⟨_, hexec, hletter, hothers, ⟨rfl, rfl, rfl, rfl⟩, rfl, rfl, rfl, rfl, Bus.place_room _ _ hroom⟩

end Sys2Proof.Machine.State
end

section
/-! The giver's stream, and Transfer End at the taker, settled (R79, R161, R162, R164). -/

namespace Sys2Proof.Machine.State

variable {s t u : State} {l : LineNo} {i : LetterIx} {x : Letter} {inc : Incoming} {snap : Snapshot} {sender : Station}
  {n : Nat} {o : Outgoing}

/-! ### The outgoing transfer changed (R161) -/

theorem onOutgoing_xfer (ho : s.xfer.outgoing = some o) (f : Outgoing → Outgoing) :
    (s.onOutgoing f).xfer = { s.xfer with outgoing := some (f o) } := by
  change ({ s.xfer with outgoing := s.xfer.outgoing.map f } : Transfer) = _
  rw [ho]
  rfl

/-- The frame at the resume cursor is offered to the link. -/
theorem offerTransfer_eq (ho : s.xfer.outgoing = some o) (hx : s.letters[o.letter] = some x) :
    s.offerTransfer = s.onBus (Bus.onLink fun k => { k with offTransfer := some (s.transferFrame o x) }) := by
  simp only [offerTransfer, ho, hx]

/-- A transfer changed, and the frame at its resume cursor offered. -/
theorem onOutgoing_offerTransfer (ho : s.xfer.outgoing = some o) (hx : s.letters[o.letter] = some x)
    {f : Outgoing → Outgoing} (hf : (f o).letter = o.letter) :
    (s.onOutgoing f).offerTransfer = { s with
      xfer := { s.xfer with outgoing := some (f o) }
      bus := { s.bus with link := { s.bus.link with offTransfer := some (s.transferFrame (f o) x) } } } := by
  have hxfer := onOutgoing_xfer ho f
  have hout : (s.onOutgoing f).xfer.outgoing = some (f o) := by rw [hxfer]
  have hletter : (s.onOutgoing f).letters[(f o).letter] = some x := by
    simp only [hf]
    exact hx
  rw [offerTransfer_eq hout hletter, ← hxfer]
  rfl

/-! ### The giver's stream (R161) -/

theorem exec_fetchAcceptCompletes (ho : s.xfer.outgoing = some o) (hphase : o.phase = .accepted) :
    exec (.fetchAcceptCompletes o.name) s = .next (s.taken (.fetchAcceptCompletes o.name)).startStream := by
  have ho' : (s.taken (.fetchAcceptCompletes o.name)).xfer.outgoing = some o := ho
  change execFetchAcceptCompletes o.name s = _
  simp only [execFetchAcceptCompletes, ho', hphase, true_or, and_self, if_true]

theorem streamAfter_eq (r : SegRec) (record slice span : Nat) : streamAfter r record slice span =
    (if r.count ≤ slice + span then record + 1 else record, if r.count ≤ slice + span then 0 else slice + span) := by
  unfold streamAfter
  split <;> rfl

theorem exec_transferDataCompletes {d : DataBody} {r : SegRec} (ho : s.xfer.outgoing = some o)
    (hx : s.letters[o.letter] = some x) (hphase : o.phase = .streaming)
    (hnumber : d.number = o.number) (hrecord : d.record = o.record) (hslice : d.slice = o.slice)
    (hr : x.chain[o.record]? = some r) : exec (.transferDataCompletes o.name d) s =
      .next ((s.taken (.transferDataCompletes o.name d)).advanceOutgoing r d).offerTransfer := by
  have ho' : (s.taken (.transferDataCompletes o.name d)).xfer.outgoing = some o := ho
  have hr' : ((s.taken (.transferDataCompletes o.name d)).letters[o.letter].bind fun x => x.chain[o.record]?) = some r := by
    change (s.letters[o.letter].bind fun x => x.chain[o.record]?) = _
    rw [hx]
    exact hr
  change execTransferDataCompletes o.name d s = _
  simp only [execTransferDataCompletes, ho', hphase, hnumber, hrecord, hslice, and_self, if_true, hr']

theorem exec_transferEndCompletes (ho : s.xfer.outgoing = some o) (hphase : o.phase = .streaming) :
    exec (.transferEndCompletes o.name) s =
      .next (((s.taken (.transferEndCompletes o.name)).cancel .checkTimerExpiry).onOutgoing fun x =>
        { x with phase := .ended, timer := some Config.checkMs }) := by
  have ho' : (s.taken (.transferEndCompletes o.name)).xfer.outgoing = some o := ho
  change execTransferEndCompletes o.name s = _
  simp only [execTransferEndCompletes, ho', hphase, and_self, if_true]

/-- Settles O42: each completion moves the transfer on, and the next frame is offered. -/
theorem giverStreams : Obligations.GiverStreams := by
  unfold Obligations.GiverStreams
  intro s o x ho hx
  refine ⟨fun hphase => ?_, fun d r hphase hnumber hrecord hslice hr => ?_, fun hphase => ?_⟩
  · have hstream := onOutgoing_offerTransfer (s := s.taken (.fetchAcceptCompletes o.name)) ho hx
      (f := fun x => { x with phase := .streaming }) rfl
    refine ⟨_, (exec_fetchAcceptCompletes ho hphase).trans (congrArg Host.Outcome.next hstream), rfl, rfl,
      ⟨rfl, rfl, rfl, rfl⟩, rfl, rfl⟩
  · have hstream := onOutgoing_offerTransfer (s := s.taken (.transferDataCompletes o.name d)) ho hx
      (f := fun x => { x with
        record := (streamAfter r d.record d.slice (((s.sentItems r d).map (·.span)).sum)).1
        slice := (streamAfter r d.record d.slice (((s.sentItems r d).map (·.span)).sum)).2
        crc := crcItems x.crc (s.sentItems r d) }) rfl
    refine ⟨_, _, (exec_transferDataCompletes ho hx hphase hnumber hrecord hslice hr).trans
      (congrArg Host.Outcome.next hstream), rfl, ?_, rfl, ⟨rfl, rfl, rfl, rfl⟩, rfl, rfl⟩
    simp only [streamAfter_eq, sentItems, crcItems]
  · exact ⟨_, exec_transferEndCompletes ho hphase, onOutgoing_xfer (s := (s.taken _).cancel _) ho _, rfl,
      ⟨rfl, rfl, rfl, rfl⟩, rfl, rfl⟩

/-! ### Transfer End at the taker (R164) -/

theorem exec_transferEnd {check : Word32} (hact : s.Active) (hinc : s.incomingOf n sender = some inc)
    (hsnap : inc.snapshot = some snap) : exec (.transferEnd sender n check) s = .next (
      if s.endPasses inc snap check then (s.taken (.transferEnd sender n check)).finishIncoming inc snap
      else (s.taken (.transferEnd sender n check)).incomingFail (some .check) .check) := by
  have hactive : (s.taken (.transferEnd sender n check)).isActive = true := by simpa [isActive] using hact
  have hinc' : ((s.taken (.transferEnd sender n check)).incomingOf n sender).bind
      (fun c => c.snapshot.map fun p => (c, p)) = some (inc, snap) := by
    change (s.incomingOf n sender).bind (fun c => c.snapshot.map fun p => (c, p)) = _
    rw [hinc, Option.bind_some, hsnap]
    rfl
  change execTransferEnd sender n check s = _
  simp only [execTransferEnd, if_pos hactive, hinc']
  rfl

theorem endPasses_iff {check : Word32} (hx : s.letters[inc.letter] = some x) : s.endPasses inc snap check = true ↔
    check = ~~~inc.crc ∧ inc.record = snap.records ∧ inc.slice = 0 ∧ x.length = snap.length := by
  simp only [endPasses, hx, Option.any_some, Bool.and_eq_true, beq_iff_eq, and_assoc]
  rfl

/-- The station once a good Transfer End has been taken, before the line that waits hears of it (R164). -/
def incomingEnded (s : State) (inc : Incoming) (snap : Snapshot) : State :=
  ((((((s.sealOwned inc.letter).endIncoming).onLetter inc.letter fun x =>
    { x with state := .settling, cursor := min snap.cursor x.length }).cancel (.takeTimerExpiry inc.number)).onXfer fun x =>
    { x with settling := x.settling ++ [⟨inc.letter, inc.number, inc.giver, Config.takeMs⟩] }).place
      inc.giver (.take inc.number))

theorem finishIncoming_of_none (h : (s.incomingEnded inc snap).fetchingLine inc.letter = none) :
    s.finishIncoming inc snap = s.incomingEnded inc snap := by
  unfold incomingEnded at h
  simp only [finishIncoming, h]
  rfl

theorem finishIncoming_of_some (h : (s.incomingEnded inc snap).fetchingLine inc.letter = some l) :
    LineTold l (fun c => { c with waitTimer := some 10000 }) .wait
      ((s.incomingEnded inc snap).cancel (.waitTimerExpiry l)) (s.finishIncoming inc snap) := by
  have heq : s.finishIncoming inc snap = (((s.incomingEnded inc snap).cancel (.waitTimerExpiry l)).onLine l fun c =>
      { c with waitTimer := some 10000 }).prompt l .wait := by
    unfold incomingEnded at h ⊢
    simp only [finishIncoming, h]
    rfl
  rw [heq]
  exact lineTold _ l _ _

theorem sealOwned_work (s : State) (i : LetterIx) : Shrinks s (s.sealOwned i) ∧ OnlySeg s (s.sealOwned i) ∧
    (s.sealOwned i).seg.mem = s.seg.mem :=
  ⟨sealAll_shrinks _ s, sealAll_only _ s, mem_sealAll _ s⟩

/-- What a good Transfer End leaves before the line that waits hears of it. -/
structure IncomingEnded (inc : Incoming) (snap : Snapshot) (x : Letter) (s t : State) : Prop where
  letter : t.letters[inc.letter] = some { x with state := .settling, cursor := min snap.cursor x.length }
  others : OtherLetters inc.letter s t
  xfer : t.xfer = { s.xfer with
    incoming := none, settling := s.xfer.settling ++ [⟨inc.letter, inc.number, inc.giver, 2000⟩] }
  reservation : t.seg.reservation = 0
  bytes : SameBytes s t
  take : s.bus.accepts = true → t.InQueue inc.giver (.take inc.number)
  lines : SameLines s t

theorem incomingEnded_ended (hx : s.letters[inc.letter] = some x) : IncomingEnded inc snap x s (s.incomingEnded inc snap) := by
  obtain ⟨hshrinks, honly, hmem⟩ := sealOwned_work s inc.letter
  have hletters : (s.sealOwned inc.letter).letters = s.letters := by rw [honly]
  have hxfer : (s.sealOwned inc.letter).xfer = s.xfer := by rw [honly]
  have hlines : SameLines s (s.sealOwned inc.letter) := by rw [honly]; exact ⟨rfl, rfl, rfl, rfl⟩
  unfold incomingEnded
  generalize s.sealOwned inc.letter = r at *
  have hx' : r.endIncoming.letters[inc.letter] = some x := by
    change r.letters[inc.letter] = some x
    rw [hletters]
    exact hx
  obtain ⟨hletter, hothers⟩ := onLetter_spec hx' fun y => { y with state := .settling, cursor := min snap.cursor y.length }
  refine ⟨hletter, fun j hj => (hothers j hj).trans ?_, ?_, rfl, fun a => congrArg (Memory.read · a) hmem, fun hok => ?_, hlines⟩
  · change r.letters[j] = s.letters[j]
    rw [hletters]
  · rw [← hxfer]
    rfl
  · exact Bus.mem_place (hshrinks.raises.accepts hok) _

/-- Settles O44: the transfer ends well or fails, by the tests of its end. -/
theorem transferEndTaken : Obligations.TransferEndTaken := by
  unfold Obligations.TransferEndTaken
  intro s sender n check inc snap x hact hroom hinc hsnap hx
  have hexec := exec_transferEnd (check := check) hact hinc hsnap
  have hpasses := endPasses_iff (snap := snap) (check := check) hx
  have hok : s.bus.accepts = true := Bus.accepts_of_room hroom
  refine ⟨fun hcheck hrecord hslice hlen => ?_, fun hfails => ?_⟩
  · rw [if_pos (hpasses.mpr ⟨hcheck, hrecord, hslice, hlen⟩)] at hexec
    have hended : IncomingEnded inc snap x (s.taken (.transferEnd sender n check)) _ := incomingEnded_ended hx
    have hfetch := fetchingLine_of_lines hended.lines.1 inc.letter
    change _ = s.fetchingLine inc.letter at hfetch
    cases hl : s.fetchingLine inc.letter with
    | none =>
      rw [hl] at hfetch
      rw [finishIncoming_of_none hfetch] at hexec
      exact ⟨_, hexec, hended.letter, hended.others, hended.xfer, hended.reservation, hended.bytes, hended.take hok,
        (fun l h => by cases h), fun _ => hended.lines⟩
    | some l =>
      rw [hl] at hfetch
      have htold := finishIncoming_of_some hfetch
      have honly := htold.only
      unfold OnlyLines at honly
      refine ⟨_, hexec, ?_, ?_, ?_, ?_, ?_, ?_, ?_, fun h => by cases h⟩
      case refine_7 =>
        rintro _ ⟨⟩
        exact htold.of_lines (s := s) hended.lines
      all_goals rw [honly]
      · exact hended.letter
      · exact hended.others
      · exact hended.xfer
      · exact hended.reservation
      · exact hended.bytes
      · exact hended.take hok
  · obtain ⟨hin, hnumber, rfl⟩ := incomingOf_eq_some.mp hinc
    have hin' : (s.taken (.transferEnd inc.giver n check)).xfer.incoming = some inc := hin
    have hnot : ¬s.endPasses inc snap check = true := by
      intro hyes
      obtain ⟨h1, h2, h3, h4⟩ := hpasses.mp hyes
      rcases hfails with h | h | h | h <;> contradiction
    rw [if_neg hnot] at hexec
    exact ⟨_, hexec, incomingFail_failed hin' hx (some .check) .check, incomingFail_cancels hin' hok .check .check⟩

end Sys2Proof.Machine.State
end

section
/-! The giver lets its letter go, and the taker's letter settles, settled (R32, R164 to R169). -/

namespace Sys2Proof.Machine.State

variable {s t u : State} {l : LineNo} {i : LetterIx} {x : Letter} {sender : Station} {n : Nat} {o : Outgoing} {e : Settle}

/-! ### Letting go (R165, R167, R169) -/

theorem isActive_of (hact : s.Active) : s.isActive = true := by simpa [isActive] using hact

theorem exec_take_lent (hact : s.Active) (hi : s.lentTo n sender = some i) :
    exec (.take sender n) s = .next ((s.taken (.take sender n)).releaseLetter i n sender) := by
  have hactive : (s.taken (.take sender n)).isActive = true := isActive_of hact
  have hi' : (s.taken (.take sender n)).lentTo n sender = some i := hi
  change execTake sender n s = _
  simp only [execTake, if_pos hactive, hi']

theorem exec_take_none (hact : s.Active) (hi : s.lentTo n sender = none) : exec (.take sender n) s =
    .next ((s.taken (.take sender n)).place sender
      (if (n, sender) ∈ s.xfer.releases then .released n else .takeUnknown n)) := by
  have hactive : (s.taken (.take sender n)).isActive = true := isActive_of hact
  have hi' : (s.taken (.take sender n)).lentTo n sender = none := hi
  change execTake sender n s = _
  simp only [execTake, if_pos hactive, hi', List.contains_iff_mem, taken_xfer]
  split <;> rfl

theorem exec_fetchCancel {r : CancelReason} (hact : s.Active) : exec (.fetchCancel sender n r) s =
    .next ((s.lentTo n sender).elim (s.taken (.fetchCancel sender n r))
      fun i => (s.taken (.fetchCancel sender n r)).returnHeld i) := by
  have hactive : (s.taken (.fetchCancel sender n r)).isActive = true := isActive_of hact
  change execFetchCancel sender n r s = _
  simp only [execFetchCancel, if_pos hactive]
  change Host.Outcome.next (match s.lentTo n sender with
    | some i => (s.taken (.fetchCancel sender n r)).returnHeld i
    | none => s.taken (.fetchCancel sender n r)) = _
  cases s.lentTo n sender <;> rfl

/-- What a release leaves (R165). -/
structure LetterReleased (i : LetterIx) (x : Letter) (n : Nat) (taker : Station) (s t : State) : Prop where
  freed : Freed i x s t
  others : OtherLetters i s t
  lines : SameLines s t
  xfer : t.xfer = { s.xfer with
    outgoing := none
    releases := (if s.xfer.releases.length < 8 then s.xfer.releases else s.xfer.releases.drop 1) ++ [(n, taker)] }
  offered : t.bus.link.offTransfer = none
  told : s.bus.accepts = true → t.InQueue taker (.released n)

theorem releaseLetter_released (hx : s.letters[i] = some x) (n : Nat) (taker : Station) :
    LetterReleased i x n taker s (s.releaseLetter i n taker) := by
  have hfreed := freeLetter_freed hx
  have hshrinks := freeLetter_shrinks s i
  have hxfer := hfreed.xfer
  unfold releaseLetter
  generalize s.freeLetter i = r at *
  refine ⟨hfreed.freed, hfreed.others, hfreed.sameLines, ?_, ?_, fun hok => Bus.mem_place ?_ _⟩
  · rw [← hxfer]
    rfl
  · have hqueues := Bus.Queues.place ⟨taker, .released n, 0⟩ r.endOutgoing.bus
    exact congrArg (fun b : Bus => b.link.offTransfer) hqueues
  · exact hshrinks.raises.accepts hok

/-- The giver's letter is HELD again, and its transfer over (R32, R167). -/
theorem returnHeld_held (hx : s.letters[i] = some x) : NowHeld i x s (s.returnHeld i) := by
  obtain ⟨hletter, hothers, hlines, -, -⟩ := holdLetter_parts s i
  refine ⟨?_, hothers, hlines⟩
  rw [hx] at hletter
  exact hletter

theorem exec_checkAnswer {reply : CheckReply} (hact : s.Active) (ho : s.xfer.outgoing = some o) (htaker : o.taker = sender)
    (hnumber : o.number = n) (hmark : o.outstanding = true) : exec (.checkAnswer sender n reply) s = .next (
      match reply with
      | .settling => ((s.taken (.checkAnswer sender n reply)).onOutgoing fun x =>
          { x with outstanding := false, timer := none }).releaseLetter o.letter n sender
      | .receiving => ((s.taken (.checkAnswer sender n reply)).onOutgoing fun x =>
          { x with outstanding := false, timer := none }).startStream
      | .notHeld => ((s.taken (.checkAnswer sender n reply)).onOutgoing fun x =>
          { x with outstanding := false, timer := none }).returnHeld o.letter) := by
  have hactive : (s.taken (.checkAnswer sender n reply)).isActive = true := isActive_of hact
  have ho' : (s.taken (.checkAnswer sender n reply)).xfer.outgoing = some o := ho
  change execCheckAnswer sender n reply s = _
  cases reply <;> simp only [execCheckAnswer, ho', hactive, htaker, hnumber, hmark, and_self, if_true]

/-- A Check Answer's transfer streams from its resume cursor (R169). -/
theorem startStream_answered (ho : s.xfer.outgoing = some o) (hx : s.letters[o.letter] = some x) :
    (s.onOutgoing fun x => { x with outstanding := false, timer := none }).startStream = { s with
      xfer := { s.xfer with outgoing := some { o with phase := .streaming, timer := none, outstanding := false } }
      bus := { s.bus with link := { s.bus.link with offTransfer := some (s.transferFrame o x) } } } := by
  have hxfer := onOutgoing_xfer ho fun x => { x with outstanding := false, timer := none }
  have hstream := onOutgoing_offerTransfer (s := s.onOutgoing fun x => { x with outstanding := false, timer := none })
    (o := { o with outstanding := false, timer := none }) (x := x) (by rw [hxfer]) hx
    (f := fun x => { x with phase := .streaming }) rfl
  rw [startStream, hstream, hxfer]
  rfl

/-- Settles O45: Take, Fetch Cancel and Check Answer, each by what the giver still lends. -/
theorem lettingGo : Obligations.LettingGo := by
  unfold Obligations.LettingGo
  intro s sender n hact
  refine ⟨fun i x hi hx hroom => ?take, fun hi hroom hmem => ?again, fun hi hroom hnot => ?unknown, fun i x r hi hx => ?cancel,
    fun r hi => ?ignored, fun o x ho htaker hnumber hmark hx => ⟨fun hroom => ?settling, ?receiving, ?notHeld⟩⟩
  case take =>
    have hdone := releaseLetter_released (s := s.taken (.take sender n)) hx n sender
    exact ⟨_, exec_take_lent hact hi, hdone.freed, hdone.others, hdone.lines, hdone.xfer, hdone.offered,
      hdone.told (Bus.accepts_of_room hroom)⟩
  case again =>
    have hexec := exec_take_none hact hi
    rw [if_pos hmem] at hexec
    exact ⟨_, hexec, placed_of_room (s := s.taken _) hroom _ _, ⟨rfl, rfl, rfl, rfl⟩, rfl, rfl, rfl, rfl⟩
  case unknown =>
    have hexec := exec_take_none hact hi
    rw [if_neg hnot] at hexec
    exact ⟨_, hexec, placed_of_room (s := s.taken _) hroom _ _, ⟨rfl, rfl, rfl, rfl⟩, rfl, rfl, rfl, rfl⟩
  case cancel =>
    have hexec := exec_fetchCancel (n := n) (sender := sender) (r := r) hact
    rw [hi] at hexec
    exact ⟨_, hexec, returnHeld_held (s := s.taken _) hx, rfl, rfl, rfl⟩
  case ignored =>
    have hexec := exec_fetchCancel (n := n) (sender := sender) (r := r) hact
    rw [hi] at hexec
    exact hexec
  case settling =>
    have hexec := exec_checkAnswer (reply := .settling) hact ho htaker hnumber hmark
    have hdone := releaseLetter_released (s := (s.taken (.checkAnswer sender n .settling)).onOutgoing fun x =>
      { x with outstanding := false, timer := none }) hx n sender
    exact ⟨_, hexec, hdone.freed, hdone.others, by rw [hdone.xfer], by rw [hdone.xfer]; simp,
      hdone.told (Bus.accepts_of_room hroom), hdone.lines⟩
  case receiving =>
    have hexec := exec_checkAnswer (reply := .receiving) hact ho htaker hnumber hmark
    dsimp only at hexec
    rw [startStream_answered (s := s.taken _) ho hx] at hexec
    exact ⟨_, hexec, rfl, rfl, rfl, ⟨rfl, rfl, rfl, rfl⟩, rfl⟩
  case notHeld =>
    have hexec := exec_checkAnswer (reply := .notHeld) hact ho htaker hnumber hmark
    exact ⟨_, hexec, returnHeld_held (s := (s.taken _).onOutgoing _) hx, rfl, rfl, rfl, rfl⟩

/-! ### Settling (R164, R166) -/

theorem exec_released (hact : s.Active) (he : s.settlingOf n sender = some e) :
    exec (.released sender n) s = .next ((s.taken (.released sender n)).settle e) := by
  have hactive : (s.taken (.released sender n)).isActive = true := isActive_of hact
  have he' : (s.taken (.released sender n)).settlingOf n sender = some e := he
  change execReleased sender n s = _
  simp only [execReleased, settleAnswer, if_pos hactive, he']

theorem exec_takeUnknown (hact : s.Active) (he : s.settlingOf n sender = some e) :
    exec (.takeUnknown sender n) s = .next ((s.taken (.takeUnknown sender n)).settle e) := by
  have hactive : (s.taken (.takeUnknown sender n)).isActive = true := isActive_of hact
  have he' : (s.taken (.takeUnknown sender n)).settlingOf n sender = some e := he
  change execTakeUnknown sender n s = _
  simp only [execTakeUnknown, settleAnswer, if_pos hactive, he']

/-- A letter lands on a line (R34, R78). -/
theorem landOn_landed (hx : s.letters[i] = some x) (l : LineNo) :
    LineTold l (fun c => { c with fetchRef := none, waitTimer := none, attached := some i, state := .ready }) .ready
      (s.onLetter i fun x => { x with state := .open, line := some l, partner := none, held := none }) (s.landOn l i) ∧
    (s.onLetter i fun x => { x with state := .open, line := some l, partner := none, held := none }).letters[i] =
      some { x with state := .open, line := some l, partner := none, held := none } ∧
    OtherLetters i s (s.onLetter i fun x => { x with state := .open, line := some l, partner := none, held := none }) := by
  obtain ⟨hletter, hothers⟩ := onLetter_spec hx fun x =>
    { x with state := .open, line := some l, partner := none, held := none }
  refine ⟨?_, hletter, hothers⟩
  have htwice : (s.onLine l fun c => { c with fetchRef := none, waitTimer := none }).attachLetter i l =
      (s.onLetter i fun x => { x with state := .open, line := some l, partner := none, held := none }).onLine l fun c =>
        { c with fetchRef := none, waitTimer := none, attached := some i, state := .ready } := by
    simp [attachLetter, onLine, onLetter]
  rw [landOn, htwice]
  exact lineTold _ l _ _

/-- A settled letter is OPEN on the line that waits for it (R166, R33). -/
structure SettledOn (l : LineNo) (e : Settle) (x : Letter) (s t : State) : Prop where
  line : t.lines[l] = { s.lines[l] with
    state := .ready, attached := some e.letter, fetchRef := none, waitTimer := none }
  sounds : t.Sounds l .ready
  otherLines : OtherLines l s t
  letter : t.letters[e.letter] = some { x with state := .open, line := some l, partner := none, held := none }
  others : OtherLetters e.letter s t
  xfer : t.xfer = { s.xfer with settling := s.xfer.settling.filter (·.letter ≠ e.letter) }
  bus : t.bus = s.bus
  seg : t.seg = s.seg

theorem settle_lands (hx : s.letters[e.letter] = some x) (hl : s.attachingLine e.letter = some l) :
    SettledOn l e x s (s.settle e) := by
  have hl' : (s.onXfer fun y => { y with settling := y.settling.filter (·.letter ≠ e.letter) }).attachingLine e.letter = some l := hl
  have heq : s.settle e = (s.onXfer fun y => { y with settling := y.settling.filter (·.letter ≠ e.letter) }).landOn l e.letter := by
    simp only [settle, hl']
  obtain ⟨htold, hletter, hothers⟩ := landOn_landed
    (s := s.onXfer fun y => { y with settling := y.settling.filter (·.letter ≠ e.letter) }) hx l
  have honly := htold.only
  unfold OnlyLines at honly
  rw [heq]
  obtain ⟨hline, hsounds, hlines⟩ := htold.of_lines (s := s) ⟨rfl, rfl, rfl, rfl⟩
  refine ⟨hline, hsounds, hlines, ?_, ?_, ?_, ?_, ?_⟩ <;> rw [honly]
  · exact hletter
  · exact hothers
  · rfl
  · rfl
  · rfl

theorem settle_holds (hx : s.letters[e.letter] = some x) (hl : s.attachingLine e.letter = none) :
    NowHeld e.letter x s (s.settle e) ∧
    (s.settle e).xfer = { s.xfer with settling := s.xfer.settling.filter (·.letter ≠ e.letter) } ∧
    (s.settle e).bus = s.bus ∧ (s.settle e).seg = s.seg := by
  have hl' : (s.onXfer fun y => { y with settling := y.settling.filter (·.letter ≠ e.letter) }).attachingLine e.letter = none := hl
  have heq : s.settle e = (s.onXfer fun y => { y with settling := y.settling.filter (·.letter ≠ e.letter) }).holdLetter e.letter := by
    simp only [settle, hl']
  obtain ⟨hletter, hothers, hlines, -, -⟩ := holdLetter_parts
    (s.onXfer fun y => { y with settling := y.settling.filter (·.letter ≠ e.letter) }) e.letter
  rw [heq]
  rw [show (s.onXfer fun y => { y with settling := y.settling.filter (·.letter ≠ e.letter) }).letters[e.letter] = some x from hx]
    at hletter
  exact ⟨⟨hletter, hothers, hlines⟩, rfl, rfl, rfl⟩

/-- The take timer of a settling entry starts again (R166). -/
def takeAgain (s : State) (e : Settle) : State :=
  s.onXfer fun x => { x with settling := x.settling.map fun y => if y = e then { y with timer := 2000 } else y }

theorem exec_takeTimerExpiry (he : s.xfer.settling.find? (fun y => y.number == n) = some e) :
    exec (.takeTimerExpiry n) s = .next (if s.isPresent e.giver then
      ((s.taken (.takeTimerExpiry n)).takeAgain e).place e.giver (.take n) else (s.taken (.takeTimerExpiry n)).takeAgain e) := by
  have he' : (s.taken (.takeTimerExpiry n)).xfer.settling.find? (fun y => y.number == n) = some e := he
  change execTakeTimerExpiry n s = _
  simp only [execTakeTimerExpiry, he']
  rfl

theorem exec_transferCheck (hact : s.Active) : exec (.transferCheck sender n) s =
    .next ((s.taken (.transferCheck sender n)).place sender (.checkAnswer n (s.checkReply sender n))) := by
  have hactive : (s.taken (.transferCheck sender n)).isActive = true := isActive_of hact
  exact congrArg Host.Outcome.next (if_pos hactive)

theorem exec_checkTimerExpiry (ho : s.xfer.outgoing = some o) (htimer : o.timer ≠ none) :
    exec .checkTimerExpiry s = .next (s.taken .checkTimerExpiry).makeCheck := by
  have hany : (s.taken .checkTimerExpiry).xfer.outgoing.any (·.timer.isSome) = true := by
    simpa [ho, Option.isSome_iff_ne_none] using htimer
  exact congrArg Host.Outcome.next (if_pos hany)

theorem makeCheck_eq (ho : s.xfer.outgoing = some o) : s.makeCheck =
    if s.isDetached = false ∧ s.isPresent o.taker = true then
      ((s.cancel .checkTimerExpiry).onOutgoing fun x => { x with timer := some 2000, outstanding := true }).place
        o.taker (.transferCheck o.number)
    else (s.cancel .checkTimerExpiry).onOutgoing fun x => { x with timer := some 2000 } := by
  have ho' : (s.cancel .checkTimerExpiry).xfer.outgoing = some o := ho
  simp only [makeCheck, ho']
  rfl

/-- Settles O46: the answers to a Take, the take timer, and the Transfer Check on both sides. -/
theorem settles : Obligations.Settles := by
  unfold Obligations.Settles
  intro s sender n
  refine ⟨fun e x hact he hx => ⟨fun l hl => ⟨?_, ?_⟩, fun hl => ⟨?_, ?_⟩⟩, fun e he => ?timer, fun hact hroom => ?check,
    fun o ho htimer => ⟨fun hattached hpresent hroom => ?made, fun hnot => ?putOff⟩⟩
  · have hdone := settle_lands (s := s.taken (.released sender n)) hx hl
    exact ⟨_, exec_released hact he, hdone.line, hdone.sounds, hdone.otherLines, hdone.letter, hdone.others, hdone.xfer,
      hdone.bus, hdone.seg⟩
  · have hdone := settle_lands (s := s.taken (.takeUnknown sender n)) hx hl
    exact ⟨_, exec_takeUnknown hact he, hdone.line, hdone.sounds, hdone.otherLines, hdone.letter, hdone.others, hdone.xfer,
      hdone.bus, hdone.seg⟩
  · exact ⟨_, exec_released hact he, settle_holds (s := s.taken (.released sender n)) hx hl⟩
  · exact ⟨_, exec_takeUnknown hact he, settle_holds (s := s.taken (.takeUnknown sender n)) hx hl⟩
  case timer =>
    have hexec := exec_takeTimerExpiry he
    cases hpresent : s.isPresent e.giver with
    | true =>
      rw [if_pos hpresent] at hexec
      exact ⟨_, hexec, rfl, fun _ hroom => placed_of_room (s := (s.taken _).takeAgain e) hroom _ _, (fun h => by cases h), rfl,
        ⟨rfl, rfl, rfl, rfl⟩, rfl⟩
    | false =>
      rw [hpresent] at hexec
      exact ⟨_, hexec, rfl, (fun h => by cases h), fun _ => rfl, rfl, ⟨rfl, rfl, rfl, rfl⟩, rfl⟩
  case check =>
    exact ⟨_, exec_transferCheck hact, placed_of_room (s := s.taken _) hroom _ _, ⟨rfl, rfl, rfl, rfl⟩, rfl, rfl, rfl, rfl⟩
  case made =>
    have hexec := exec_checkTimerExpiry ho htimer
    rw [makeCheck_eq (s := s.taken _) ho, if_pos ⟨hattached, hpresent⟩] at hexec
    exact ⟨_, hexec, onOutgoing_xfer (s := (s.taken _).cancel _) ho _,
      placed_of_room (s := ((s.taken _).cancel _).onOutgoing _) hroom _ _, rfl, ⟨rfl, rfl, rfl, rfl⟩⟩
  case putOff =>
    have hexec := exec_checkTimerExpiry ho htimer
    have hboth : ¬((s.taken .checkTimerExpiry).isDetached = false ∧ (s.taken .checkTimerExpiry).isPresent o.taker = true) := by
      rintro ⟨hattached, hpresent⟩
      rcases hnot with h | h
      · exact absurd (hattached.symm.trans h) (by decide)
      · exact absurd (hpresent.symm.trans h) (by decide)
    rw [makeCheck_eq (s := s.taken _) ho, if_neg hboth] at hexec
    exact ⟨_, hexec, onOutgoing_xfer (s := (s.taken _).cancel _) ho _, rfl, rfl, ⟨rfl, rfl, rfl, rfl⟩⟩

end Sys2Proof.Machine.State
end

section
/-! Collected pairs and their ranking (R156, R157). -/

namespace Sys2Proof.Machine

variable {p q r : Station × Nat} {ps qs : List (Station × Nat)}

/-! ### The ranking (R157) -/

/-- A pair stands before another in a ranking. -/
def Ranks (p q : Station × Nat) : Prop := q.2 < p.2 ∨ (p.2 = q.2 ∧ p.1 ≤ q.1)

theorem ranksBefore_iff : ranksBefore p q = true ↔ Ranks p q := by
  rw [ranksBefore, Bool.or_eq_true, Bool.and_eq_true, decide_eq_true_iff, beq_iff_eq, decide_eq_true_iff]
  exact Iff.rfl

theorem Ranks.trans (h : Ranks p q) (k : Ranks q r) : Ranks p r := by
  rcases h with h | ⟨heq, hle⟩
  · rcases k with k | ⟨keq, -⟩
    · exact .inl (Nat.lt_trans k h)
    · exact .inl (keq ▸ h)
  · rcases k with k | ⟨keq, kle⟩
    · exact .inl (heq ▸ k)
    · exact .inr ⟨heq.trans keq, Nat.le_trans hle kle⟩

theorem Ranks.total (h : ¬Ranks p q) : Ranks q p := by
  rcases Nat.lt_trichotomy q.2 p.2 with hlt | heq | hgt
  · exact absurd (.inl hlt) h
  · rcases Nat.le_total p.1 q.1 with hle | hge
    · exact absurd (.inr ⟨heq.symm, hle⟩) h
    · exact .inr ⟨heq, hge⟩
  · exact .inl hgt

theorem rankInsert_perm (p : Station × Nat) (ps : List (Station × Nat)) : (rankInsert p ps).Perm (p :: ps) := by
  induction ps with
  | nil => exact .refl _
  | cons q ps ih =>
    simp only [rankInsert]
    split
    · exact .refl _
    · exact (ih.cons q).trans (.swap p q ps)

theorem rankInsert_pairwise (h : ps.Pairwise Ranks) (p : Station × Nat) : (rankInsert p ps).Pairwise Ranks := by
  induction ps with
  | nil => exact List.pairwise_singleton _ _
  | cons q ps ih =>
    obtain ⟨hq, hps⟩ := List.pairwise_cons.mp h
    simp only [rankInsert]
    split
    case isTrue hbefore =>
      have hpq := ranksBefore_iff.mp hbefore
      refine List.pairwise_cons.mpr ⟨fun r hr => ?_, h⟩
      rcases List.mem_cons.mp hr with rfl | hr
      · exact hpq
      · exact hpq.trans (hq r hr)
    case isFalse hafter =>
      refine List.pairwise_cons.mpr ⟨fun r hr => ?_, ih hps⟩
      rcases List.mem_cons.mp ((rankInsert_perm p ps).mem_iff.mp hr) with rfl | hr
      · exact Ranks.total fun h => hafter (ranksBefore_iff.mpr h)
      · exact hq r hr

theorem foldl_rankInsert (ps acc : List (Station × Nat)) (h : acc.Pairwise Ranks) :
    (ps.foldl (fun acc p => rankInsert p acc) acc).Perm (acc ++ ps) ∧
      (ps.foldl (fun acc p => rankInsert p acc) acc).Pairwise Ranks := by
  induction ps generalizing acc with
  | nil => exact ⟨by simp, h⟩
  | cons p ps ih =>
    obtain ⟨hperm, hpairwise⟩ := ih (rankInsert p acc) (rankInsert_pairwise h p)
    refine ⟨hperm.trans ?_, hpairwise⟩
    exact ((rankInsert_perm p acc).append_right ps).trans List.perm_middle.symm

theorem ranking_perm (ps : List (Station × Nat)) : (ranking ps).Perm ps := (foldl_rankInsert ps [] .nil).1

theorem ranking_pairwise (ps : List (Station × Nat)) : (ranking ps).Pairwise Ranks := (foldl_rankInsert ps [] .nil).2

/-- The numbers of pairs of one station, ranked, are the numbers in falling order. -/
theorem ranking_numbers (ns : List Nat) (st : Station) :
    (ranking (ns.map fun n => (st, n))).map (·.2) = ns.mergeSort fun a b => decide (b ≤ a) := by
  have hperm : ((ranking (ns.map fun n => (st, n))).map (·.2)).Perm (ns.mergeSort fun a b => decide (b ≤ a)) := by
    refine (((ranking_perm _).map (·.2)).trans ?_).trans (List.mergeSort_perm _ _).symm
    rw [List.map_map]
    exact .of_eq (List.map_id ns)
  have hranked : ((ranking (ns.map fun n => (st, n))).map (·.2)).Pairwise (· ≥ ·) := by
    refine List.pairwise_map.mpr ((ranking_pairwise _).imp fun {p q} h => ?_)
    rcases h with h | ⟨h, -⟩
    · exact Nat.le_of_lt h
    · exact Nat.le_of_eq h.symm
  have hsorted : (ns.mergeSort fun a b => decide (b ≤ a)).Pairwise (· ≥ ·) := List.pairwise_mergeSort' (· ≥ ·) ns
  exact List.Perm.eq_of_pairwise (fun a b _ _ h k => Nat.le_antisymm k h) hranked hsorted hperm

/-! ### Pairs joined (R157) -/

theorem mem_addPair : q ∈ addPair ps p ↔ q ∈ ps ∨ q = p := by
  unfold addPair
  split
  · next h =>
    have hp : p ∈ ps := by simpa using h
    constructor
    · exact .inl
    · rintro (hq | rfl)
      · exact hq
      · exact hp
  · rw [List.mem_append, List.mem_singleton]

theorem nodup_addPair (h : ps.Nodup) (p : Station × Nat) : (addPair ps p).Nodup := by
  unfold addPair
  split
  · exact h
  · next hnot =>
    have hp : p ∉ ps := by simpa using hnot
    exact List.nodup_append.mpr ⟨h, List.nodup_singleton p, fun a ha b hb heq => hp (by
      rw [List.mem_singleton.mp hb] at heq
      rwa [← heq])⟩

theorem mem_foldl_addPair (qs ps : List (Station × Nat)) : p ∈ qs.foldl addPair ps ↔ p ∈ ps ∨ p ∈ qs := by
  induction qs generalizing ps with
  | nil => simp
  | cons q qs ih => rw [List.foldl_cons, ih, mem_addPair, List.mem_cons, or_assoc]

theorem nodup_foldl_addPair (h : ps.Nodup) (qs : List (Station × Nat)) : (qs.foldl addPair ps).Nodup := by
  induction qs generalizing ps with
  | nil => exact h
  | cons q qs ih => exact ih (nodup_addPair h q)

end Sys2Proof.Machine

namespace Sys2Proof.Machine.State

variable {s t : State} {l : LineNo} {i : LetterIx} {x : Letter} {c : Collection} {sender : Station} {author k n : Nat}
  {tag : BitVec 8}

theorem mem_heldNumbers : n ∈ s.heldNumbers author ↔ ∃ (i : LetterIx) (x : Letter),
    s.letters[i] = some x ∧ x.state = .held ∧ x.author = author ∧ x.number = n ∧ x.number ≠ 0 := by
  simp only [heldNumbers, List.mem_filterMap, Option.bind_eq_some_iff]
  constructor
  · rintro ⟨y, hy, x, rfl, hx⟩
    obtain ⟨j, hj, hget⟩ := List.getElem_of_mem hy
    split at hx
    case isFalse => cases hx
    case isTrue hheld =>
      obtain ⟨hstate, hauthor, hnumber⟩ := hheld
      cases hx
      refine ⟨⟨j, by simpa using hj⟩, x, by simpa using hget, hstate, hauthor, rfl, hnumber⟩
  · rintro ⟨i, x, hx, hstate, hauthor, rfl, hnumber⟩
    refine ⟨some x, ?_, x, rfl, by rw [if_pos ⟨hstate, hauthor, hnumber⟩]⟩
    rw [← hx, Vector.mem_toList_iff]
    exact Vector.getElem_mem i.isLt

theorem locateNumbers_eq (s : State) (author k : Nat) : s.locateNumbers author k =
    ((s.heldNumbers author).mergeSort fun a b => decide (b ≤ a)).take (min k 8) := by
  rw [locateNumbers, ranking_numbers]

end Sys2Proof.Machine.State
end

section
/-! Locates and picks, settled (R33, R77, R155 to R158). -/

namespace Sys2Proof.Machine.State

variable {s t : State} {l : LineNo} {i : LetterIx} {x : Letter} {c : Collection} {sender : Station} {author k n : Nat}
  {tag : BitVec 8} {st : Station}

/-! ### A pick given (R77, R158) -/

/-- The pick is for the line's locate in progress (R77). -/
theorem givePick_of_wanted (h : s.lines[c.line].locate = some c.tag) (p : Pick) : s.givePick c p =
    (s.onLine c.line fun x => { x with locate := none }).actOnPick c.line c.author p := by
  simp only [givePick, h, if_true]

theorem onLine_backToSelect (s : State) (l : LineNo) :
    (s.onLine l fun x => { x with locate := none }).backToSelect l =
      (s.onLine l fun x => { x with locate := none, state := .select }).prompt l .refused := by
  simp [backToSelect, goto, onLine]

/-- A line whose locate ends without a letter is in SELECT, with the Refused prompt (R77). -/
structure LocateRefused (l : LineNo) (s t : State) : Prop where
  line : t.lines[l] = { s.lines[l] with state := .select, locate := none }
  sounds : t.Sounds l .refused
  others : OtherLines l s t
  only : OnlyLines s t

theorem locateRefused (s : State) (l : LineNo) :
    LocateRefused l s ((s.onLine l fun x => { x with locate := none }).backToSelect l) := by
  rw [onLine_backToSelect]
  have htold := lineTold s l (fun x => { x with locate := none, state := .select }) .refused
  exact ⟨htold.line, htold.sounds, htold.others, htold.only⟩

namespace LocateRefused

theorem letters (h : LocateRefused l s t) : t.letters = s.letters := by rw [h.only]
theorem bus (h : LocateRefused l s t) : t.bus = s.bus := by rw [h.only]
theorem seg (h : LocateRefused l s t) : t.seg = s.seg := by rw [h.only]
theorem nums (h : LocateRefused l s t) : t.nums = s.nums := by rw [h.only]
theorem xfer (h : LocateRefused l s t) : t.xfer = s.xfer := by rw [h.only]

theorem sameOutside (h : LocateRefused l s t) : SameOutside s t := by
  rw [h.only]
  exact ⟨rfl, rfl, rfl, rfl, rfl, rfl, rfl, rfl, rfl⟩

end LocateRefused

/-! ### The rows of a Locate, settled (R155 to R157) -/

/-- A collection found by its line is that line's. -/
theorem line_of_find {cs : List Collection} {p : Collection → Bool}
    (h : (cs.find? fun y => y.line == l && p y) = some c) : c.line = l := by
  have hboth : (c.line == l && p c) = true := List.find?_some (p := fun y : Collection => y.line == l && p y) h
  simpa using (Bool.and_eq_true_iff.mp hboth).1

theorem exec_locateCompletes (hc : (s.xfer.collections.find? fun y => y.tag == tag && !y.collecting) = some c) :
    exec (.locateCompletes tag) s = .next ((s.taken (.locateCompletes tag)).onCollection c
      { c with collecting := true, timer := 150 }) := by
  have hc' : ((s.taken (.locateCompletes tag)).xfer.collections.find? fun y => y.tag == tag && !y.collecting) = some c := hc
  change execLocateCompletes tag s = _
  simp only [execLocateCompletes, hc']
  rfl

theorem exec_locateQueuedTimeout (hc : (s.xfer.collections.find? fun y => y.line == l && !y.collecting) = some c) :
    exec (.locateQueuedTimeout l) s = .next (((s.taken (.locateQueuedTimeout l)).dropCollection c).givePick c .none) := by
  have hc' : ((s.taken (.locateQueuedTimeout l)).xfer.collections.find? fun y => y.line == l && !y.collecting) = some c := hc
  change execLocateQueuedTimeout l s = _
  simp only [execLocateQueuedTimeout, hc']

theorem exec_locate (hact : s.Active) : exec (.locate sender author k tag) s =
    .next (if s.locateNumbers author k ≠ [] then (s.taken (.locate sender author k tag)).place sender
      (.locateAnswer tag author (s.locateNumbers author k)) else s.taken (.locate sender author k tag)) := by
  have hactive : s.isActive = true := isActive_of hact
  change execLocate sender author k tag s = _
  unfold execLocate
  change Host.Outcome.next (if s.isActive = true ∧ s.locateNumbers author k ≠ [] then _ else _) = _
  simp only [hactive, true_and]
  rfl

theorem exec_locate_nothing (h : s.locateNumbers author k = []) :
    exec (.locate sender author k tag) s = .next (s.taken (.locate sender author k tag)) := by
  have hnot : ¬(s.isActive = true ∧ s.locateNumbers author k ≠ []) := fun ⟨_, hne⟩ => hne h
  exact congrArg Host.Outcome.next (if_neg hnot)

theorem exec_locateAnswer {numbers : List Nat} (hact : s.Active)
    (hc : (s.xfer.collections.find? fun y => y.tag == tag && y.author == author && y.collecting) = some c) :
    exec (.locateAnswer sender tag author numbers) s = .next ((s.taken (.locateAnswer sender tag author numbers)).onCollection c
      { c with pairs := (numbers.map fun n => (sender, n)).foldl addPair c.pairs }) := by
  have hactive : (s.taken (.locateAnswer sender tag author numbers)).isActive = true := isActive_of hact
  have hc' : ((s.taken (.locateAnswer sender tag author numbers)).xfer.collections.find? fun y =>
      y.tag == tag && y.author == author && y.collecting) = some c := hc
  change execLocateAnswer sender tag author numbers s = _
  simp only [execLocateAnswer, if_pos hactive, hc']

/-- Settles O37: the collection, the line and the answer of each row. -/
theorem locateRows : Obligations.LocateRows := by
  unfold Obligations.LocateRows
  intro s
  refine ⟨fun tag c hc => ?_, fun l c hc hlocate => ?_, fun sender author k tag hact hroom hk hheld => ?_,
    fun sender author k tag hnone => ?_, fun sender tag author numbers c hact hc => ?_⟩
  · exact ⟨_, exec_locateCompletes hc, rfl, ⟨rfl, rfl, rfl, rfl⟩, rfl, rfl, rfl, rfl, rfl, rfl, rfl, rfl, rfl, rfl, rfl, rfl⟩
  · obtain rfl := line_of_find hc
    have hexec := exec_locateQueuedTimeout hc
    rw [givePick_of_wanted (s := (s.taken _).dropCollection c) hlocate] at hexec
    have hrefused := locateRefused ((s.taken (.locateQueuedTimeout c.line)).dropCollection c) c.line
    exact ⟨_, hexec, hrefused.line, hrefused.sounds, hrefused.xfer, hrefused.others, hrefused.letters, hrefused.bus,
      hrefused.seg, hrefused.sameOutside⟩
  · have hne : s.locateNumbers author k ≠ [] := by
      rw [locateNumbers_eq]
      intro h
      have hlen := congrArg List.length h
      have hpos := List.length_pos_iff.mpr hheld
      simp only [List.length_take, List.length_mergeSort, List.length_nil] at hlen
      omega
    have hexec := exec_locate (sender := sender) (author := author) (k := k) (tag := tag) hact
    rw [if_pos hne, locateNumbers_eq] at hexec
    exact ⟨_, hexec, placed_of_room (s := s.taken _) hroom _ _, ⟨⟨rfl, rfl, rfl, rfl⟩, rfl, rfl, rfl, rfl⟩, rfl, rfl⟩
  · refine exec_locate_nothing ?_
    rw [locateNumbers_eq, hnone]
    simp
  · exact ⟨_, exec_locateAnswer hact hc, rfl, ⟨rfl, rfl, rfl, rfl⟩, rfl, rfl, rfl⟩

/-! ### The picks, settled (R33, R77, R157, R158) -/

theorem exec_collectionWindowExpiry (hc : (s.xfer.collections.find? fun y => y.line == l && y.collecting) = some c)
    (hlocate : s.lines[l].locate = some c.tag) : exec (.collectionWindowExpiry l) s =
      .next ((((s.taken (.collectionWindowExpiry l)).dropCollection c).onLine l fun x => { x with locate := none }).actOnPick l
        c.author (s.pickOf c)) := by
  obtain rfl := line_of_find hc
  have hc' : ((s.taken (.collectionWindowExpiry c.line)).xfer.collections.find? fun y =>
    y.line == c.line && y.collecting) = some c := hc
  rw [← givePick_of_wanted (s := (s.taken _).dropCollection c) hlocate]
  change execCollectionWindowExpiry c.line s = _
  simp only [execCollectionWindowExpiry, hc']
  rfl

/-- The pairs a pick is made from: those collected, and the station's own (R157). -/
def pairsOf (s : State) (c : Collection) : List (Station × Nat) :=
  ((s.heldNumbers c.author).map fun n => (s.bus.ctl.number.getD 0, n)).foldl addPair c.pairs

theorem mem_pairsOf {q : Station × Nat} : q ∈ s.pairsOf c ↔ q ∈ c.pairs ∨ (q.1 = s.bus.ctl.number.getD 0 ∧
    ∃ (i : LetterIx) (x : Letter), s.letters[i] = some x ∧ x.state = .held ∧ x.author = c.author ∧ x.number = q.2 ∧
      x.number ≠ 0) := by
  rw [pairsOf, mem_foldl_addPair, List.mem_map, ← mem_heldNumbers]
  refine or_congr_right ⟨?_, fun ⟨hst, hn⟩ => ⟨q.2, hn, by rw [← hst]⟩⟩
  rintro ⟨n, hn, rfl⟩
  exact ⟨rfl, hn⟩

theorem startFetch_of_none (h : s.fetchEntry st n = none) (l : LineNo) (author : Nat) :
    s.startFetch l st n author = s.backToSelect l := by
  simp only [startFetch, h]

theorem fetchEntry_of_present (hinc : s.xfer.incoming = none) (hn : s.findNumber n = none) (hpresent : s.isPresent st = true) :
    s.fetchEntry st n = s.freeEntry := by
  simp [fetchEntry, hinc, hn, hpresent]

theorem fetchEntry_eq_none (h : s.xfer.incoming ≠ none ∨ s.findNumber n ≠ none ∨ s.isPresent st = false ∨ s.freeEntry = none) :
    s.fetchEntry st n = none := by
  unfold fetchEntry
  split
  · rfl
  · next hnot =>
    simp only [Bool.or_eq_true, Option.isSome_iff_ne_none, Bool.not_eq_true', not_or] at hnot
    obtain ⟨⟨hinc, hn⟩, hpresent⟩ := hnot
    exact (h.resolve_left hinc).resolve_left hn |>.resolve_left hpresent

/-- A giver is asked for a letter (R33, R158). -/
def asking (s : State) (l : LineNo) (i : LetterIx) (st : Station) (n author : Nat) : State :=
  ((({ s with streamId := s.streamId + 1 }.setLetter i (some (.new n author .transitIn none (some st)))).raiseNext (n + 1)).onXfer
    fun x => { x with incoming := some ⟨i, n, st, none, 0, 0, none, 0xFFFFFFFF#32, 300, s.streamId⟩ }).cancel
    .acceptTimerExpiry |>.onLine l fun c => { c with state := .fetch, fetchRef := some i }

theorem startFetch_of_room (h : s.fetchEntry st n = some i) (hroom : s.HasRoom) (l : LineNo) (author : Nat) :
    s.startFetch l st n author = (s.asking l i st n author).onBus (Bus.place ⟨st, .fetch n author, s.streamId⟩) := by
  have hok : (s.asking l i st n author).bus.accepts = true := Bus.accepts_of_room hroom
  unfold asking at hok ⊢
  simp only [startFetch, h]
  exact if_pos hok

/-- Settles O38: the ranking, the pick it gives, and what the line does with each. -/
theorem picksTaken : Obligations.PicksTaken := by
  unfold Obligations.PicksTaken
  refine ⟨fun pairs => ⟨ranking_perm pairs, ranking_pairwise pairs⟩, fun s c hnodup => ?pairs, fun s l c hc hlocate => ?_⟩
  case pairs => exact ⟨s.pairsOf c, nodup_foldl_addPair hnodup _, fun q => mem_pairsOf, rfl⟩
  have hexec := exec_collectionWindowExpiry hc hlocate
  refine ⟨fun hpick => ?_, fun i x hpick hx hheld => ?_, fun st n i hpick hinc hn hpresent hfree hroom => ?_,
    fun st n hpick hfails => ?_⟩ <;> rw [hpick] at hexec
  · have hrefused := locateRefused ((s.taken (.collectionWindowExpiry l)).dropCollection c) l
    exact ⟨_, hexec, hrefused.line, hrefused.sounds, hrefused.xfer, hrefused.others, hrefused.letters, hrefused.bus,
      hrefused.seg⟩
  · have hstate : s.stateOf i = some .held := by rw [stateOf, hx]; exact congrArg some hheld
    have hlands : (((s.taken (.collectionWindowExpiry l)).dropCollection c).onLine l fun x => { x with locate := none }).actOnPick l
        c.author (.own i) = (((s.taken (.collectionWindowExpiry l)).dropCollection c).onLine l fun x =>
          { x with locate := none }).landOn l i := if_pos hstate
    rw [hlands] at hexec
    obtain ⟨htold, hletter, hothers⟩ := landOn_landed
      (s := ((s.taken (.collectionWindowExpiry l)).dropCollection c).onLine l fun x => { x with locate := none }) hx l
    have honly := htold.only
    unfold OnlyLines at honly
    have hline := htold.line
    refine ⟨_, hexec, ⟨?_, htold.sounds, ?_, ?_, fun m hm => ?_⟩, ?_, ?_, ?_, ?_⟩
    · rw [hline]
      simp [dropCollection]
    · rw [honly]
      exact hletter
    · rw [honly]
      exact hothers
    · obtain ⟨kline, kcoder, ktone, kport⟩ := htold.others m hm
      have hother := onLine_other (s := (s.taken (.collectionWindowExpiry l)).dropCollection c) hm fun x => { x with locate := none }
      exact ⟨kline.trans hother, kcoder, ktone, kport⟩
    all_goals
      rw [honly]
      rfl
  · have hentry : (((s.taken (.collectionWindowExpiry l)).dropCollection c).onLine l fun x =>
        { x with locate := none }).fetchEntry st n = some i := (fetchEntry_of_present hinc hn hpresent).trans hfree
    have hasks := startFetch_of_room hentry hroom l c.author
    change exec (.collectionWindowExpiry l) s = .next ((((s.taken (.collectionWindowExpiry l)).dropCollection c).onLine l
      fun x => { x with locate := none }).startFetch l st n c.author) at hexec
    rw [hasks] at hexec
    refine ⟨_, hexec, setLetter_same _ i _, fun j hj => setLetter_other _ hj _, ?_, fun m hm => ?_, rfl, rfl, rfl, rfl,
      Bus.place_room _ _ hroom, rfl, rfl, rfl⟩
    · simp [asking, dropCollection, raiseNext]
    · have hnot := Fin.val_inj.not.mpr hm.symm
      simp [asking, dropCollection, raiseNext, hnot]
  · have hentry : (((s.taken (.collectionWindowExpiry l)).dropCollection c).onLine l fun x =>
        { x with locate := none }).fetchEntry st n = none := fetchEntry_eq_none hfails
    have hback := startFetch_of_none hentry l c.author
    change exec (.collectionWindowExpiry l) s = .next ((((s.taken (.collectionWindowExpiry l)).dropCollection c).onLine l
      fun x => { x with locate := none }).startFetch l st n c.author) at hexec
    rw [hback] at hexec
    have hrefused := locateRefused ((s.taken (.collectionWindowExpiry l)).dropCollection c) l
    exact ⟨_, hexec, hrefused.line, hrefused.sounds, hrefused.others, hrefused.letters, hrefused.bus, hrefused.seg,
      hrefused.nums⟩

end Sys2Proof.Machine.State
end

section
/-! The slice records a block's bytes spell, and what is written at its end (R39, R42, R61, R163). -/

namespace Sys2Proof.Machine.Memory

variable {mem mem' : List Host.Cell} {a n m : Nat}

@[simp] theorem length_readBytes (mem : List Host.Cell) (a n : Nat) : (readBytes mem a n).length = n := by
  induction n generalizing a with
  | zero => rfl
  | succ n ih => rw [readBytes, List.length_cons, ih]

theorem readBytes_add (mem : List Host.Cell) (a n m : Nat) :
    readBytes mem a (n + m) = readBytes mem a n ++ readBytes mem (a + n) m := by
  induction n generalizing a with
  | zero => simp [readBytes]
  | succ n ih => rw [Nat.succ_add, readBytes, readBytes, ih, List.cons_append, Nat.add_assoc, Nat.add_comm 1 n]

theorem readBytes_congr (h : ∀ b, a ≤ b → b < a + n → read mem' b = read mem b) :
    readBytes mem' a n = readBytes mem a n := by
  induction n generalizing a with
  | zero => rfl
  | succ n ih =>
    rw [readBytes, readBytes, h a (Nat.le_refl a) (by omega), ih fun b hlow hhigh => h b (by omega) (by omega)]

theorem readBytes_two : readBytes mem a 2 = [read mem a, read mem (a + 1)] := rfl

end Sys2Proof.Machine.Memory

namespace Sys2Proof.Machine

variable {mem mem' : List Host.Cell} {base off ix fuel used : Nat} {r : Stored} {rs qs : List Stored}

/-- The record that starts at an offset, if its first byte starts one (R39). -/
def recordAt (mem : List Host.Cell) (base off ix : Nat) : Option Stored :=
  match itemKind (Memory.read mem (base + off)) with
  | .voiced => some ⟨off, ix, 1, ((headTier (Memory.read mem (base + off))).getD .c).stored, true⟩
  | .silence => some ⟨off, ix, (Memory.read mem (base + off + 1)).toNat, 2, false⟩
  | _ => none

/-- The bytes and the slices of records. -/
def sizes (rs : List Stored) : Nat := (rs.map (·.size)).sum
def spans (rs : List Stored) : Nat := (rs.map (·.span)).sum

@[simp] theorem sizes_nil : sizes [] = 0 := rfl
@[simp] theorem sizes_cons (r : Stored) (rs : List Stored) : sizes (r :: rs) = r.size + sizes rs := rfl
@[simp] theorem sizes_append (rs qs : List Stored) : sizes (rs ++ qs) = sizes rs + sizes qs := by simp [sizes]
@[simp] theorem spans_nil : spans [] = 0 := rfl
@[simp] theorem spans_cons (r : Stored) (rs : List Stored) : spans (r :: rs) = r.span + spans rs := rfl
@[simp] theorem spans_append (rs qs : List Stored) : spans (rs ++ qs) = spans rs + spans qs := by simp [spans]

/-- The bytes from an offset on spell these records. -/
def Spells (mem : List Host.Cell) (base : Nat) : Nat → Nat → List Stored → Prop
  | _, _, [] => True
  | off, ix, r :: rs => recordAt mem base off ix = some r ∧ Spells mem base (off + r.size) (ix + r.span) rs

theorem stored_ge (tier : Tier) : 2 ≤ tier.stored := by cases tier <;> decide

theorem recordAt_size (h : recordAt mem base off ix = some r) : 2 ≤ r.size := by
  unfold recordAt at h
  split at h
  · cases h
    exact stored_ge _
  · cases h
    exact Nat.le_refl 2
  · cases h

theorem recordAt_congr (h : ∀ a, base + off ≤ a → a < base + off + 2 → Memory.read mem' a = Memory.read mem a) :
    recordAt mem' base off ix = recordAt mem base off ix := by
  unfold recordAt
  rw [h _ (Nat.le_refl _) (by omega), h (base + off + 1) (by omega) (by omega)]

theorem Spells.append : Spells mem base off ix (rs ++ qs) ↔
    Spells mem base off ix rs ∧ Spells mem base (off + sizes rs) (ix + spans rs) qs := by
  induction rs generalizing off ix with
  | nil => simp [Spells]
  | cons r rs ih => simp only [List.cons_append, Spells, ih, sizes_cons, spans_cons, and_assoc, Nat.add_assoc]

theorem Spells.sizes_ge (h : Spells mem base off ix rs) : 2 * rs.length ≤ sizes rs := by
  induction rs generalizing off ix with
  | nil => simp
  | cons r rs ih =>
    obtain ⟨hr, hrest⟩ := h
    have := recordAt_size hr
    have := ih hrest
    rw [List.length_cons, sizes_cons]
    omega

/-- Bytes that read the same spell the same records. -/
theorem Spells.congr (h : Spells mem base off ix rs)
    (hsame : ∀ a, base + off ≤ a → a < base + off + sizes rs → Memory.read mem' a = Memory.read mem a) :
    Spells mem' base off ix rs := by
  induction rs generalizing off ix with
  | nil => trivial
  | cons r rs ih =>
    obtain ⟨hr, hrest⟩ := h
    have hsize := recordAt_size hr
    rw [sizes_cons] at hsame
    refine ⟨(recordAt_congr fun a hlow hhigh => hsame a hlow (by omega)).trans hr, ih hrest fun a hlow hhigh => ?_⟩
    exact hsame a (by omega) (by omega)

theorem Spells.congr_front (h : Spells mem base 0 ix rs)
    (hsame : ∀ a, a < base + sizes rs → Memory.read mem' a = Memory.read mem a) : Spells mem' base 0 ix rs :=
  h.congr fun a _ hhigh => hsame a hhigh

theorem walkBlock_succ (mem : List Host.Cell) (base used fuel off ix : Nat) : walkBlock mem base used (fuel + 1) off ix =
    if off < used then (recordAt mem base off ix).elim []
      fun r => r :: walkBlock mem base used fuel (off + r.size) (ix + r.span)
    else [] := by
  rw [walkBlock]
  split
  · unfold recordAt
    dsimp only
    cases itemKind (Memory.read mem (base + off)) <;> rfl
  · rfl

/-- The walk of a block reads what its bytes spell. -/
theorem spells_walkBlock (mem : List Host.Cell) (base used fuel off ix : Nat) :
    Spells mem base off ix (walkBlock mem base used fuel off ix) := by
  induction fuel generalizing off ix with
  | zero => trivial
  | succ fuel ih =>
    rw [walkBlock_succ]
    split
    · cases hr : recordAt mem base off ix with
      | none => trivial
      | some r => exact ⟨hr, ih _ _⟩
    · trivial

/-- Records spelled up to the bytes used are those the walk gives. -/
theorem walkBlock_of_spells (h : Spells mem base off ix rs) (hused : off + sizes rs = used) (hfuel : rs.length ≤ fuel) :
    walkBlock mem base used fuel off ix = rs := by
  induction rs generalizing off ix fuel with
  | nil =>
    have hnot : ¬off < used := by rw [sizes_nil] at hused; omega
    cases fuel with
    | zero => rfl
    | succ fuel => rw [walkBlock_succ, if_neg hnot]
  | cons r rs ih =>
    obtain ⟨hr, hrest⟩ := h
    have hsize := recordAt_size hr
    rw [sizes_cons] at hused
    rw [List.length_cons] at hfuel
    obtain ⟨fuel, rfl⟩ : ∃ m, fuel = m + 1 := ⟨fuel - 1, by omega⟩
    have hlt : off < used := by omega
    rw [walkBlock_succ, if_pos hlt, hr]
    exact congrArg (r :: ·) (ih hrest (by omega) (by omega))

/-- An item as it was read: a voiced one is a whole record, a silence one counts at least one slice (R206). -/
def RxItem.Whole : RxItem → Prop
  | .header .. => True
  | .voiced bytes => ∃ head rest tier, bytes = head :: rest ∧ itemKind head = .voiced ∧ headTier head = some tier ∧
      tier.stored = bytes.length
  | .silence n => 1 ≤ n

theorem readItem_whole {bytes rest : List Byte} {it : RxItem} (h : readItem bytes = some (it, rest)) : it.Whole := by
  unfold readItem at h
  split at h
  case h_1 => cases h
  case h_2 head tail =>
    split at h
    case h_1 hkind =>
      obtain ⟨tier, htier, h⟩ := Option.bind_eq_some_iff.mp h
      split at h
      case isFalse => cases h
      case isTrue hfits =>
        obtain ⟨-, hlen, -⟩ := hfits
        cases h
        have hpos := stored_ge tier
        refine ⟨head, tail.take (tier.stored - 1), tier, ?_, hkind, htier, ?_⟩
        · obtain ⟨m, hm⟩ : ∃ m, tier.stored = m + 1 := ⟨tier.stored - 1, by omega⟩
          rw [hm]
          rfl
        · rw [List.length_take, Nat.min_eq_left hlen]
    case h_2 =>
      split at h
      · next n rest' =>
        split at h
        · next hn =>
          cases h
          exact hn.1
        · cases h
      · cases h
    case h_3 =>
      split at h
      · cases h
        trivial
      · cases h
    case h_4 => cases h

theorem readItems_whole {fuel : Nat} {bytes : List Byte} {items : List RxItem} (h : readItems fuel bytes = some items) :
    ∀ it ∈ items, it.Whole := by
  induction fuel generalizing bytes items with
  | zero =>
    cases bytes with
    | nil =>
      cases h
      simp
    | cons => cases h
  | succ fuel ih =>
    cases bytes with
    | nil =>
      cases h
      simp
    | cons b bytes =>
      rw [readItems] at h
      obtain ⟨x, hx, h⟩ := Option.bind_eq_some_iff.mp h
      obtain ⟨rest, hrest, rfl⟩ := Option.map_eq_some_iff.mp h
      intro it hit
      rcases List.mem_cons.mp hit with rfl | hit
      · exact readItem_whole hx
      · exact ih hrest it hit

end Sys2Proof.Machine
end

section
/-! A block filled by items, one after another (R39, R61, R163). -/

namespace Sys2Proof.Machine.Segment

variable {g g' g'' : Segment} {b k : Nat} {e : Block} {rs : List Stored} {pre : List Byte} {it : RxItem} {items : List RxItem}

/-- Bytes of a block that lie within it. -/
theorem outside_block {base a n m : Nat} (h : a < base ∨ base + 1024 ≤ a) (hfits : n + m ≤ 1024) :
    a < base + n ∨ base + n + m ≤ a := by omega

theorem ne_of_outside_block {base a n : Nat} (h : a < base ∨ base + 1024 ≤ a) (hfits : n + 1 < 1024) :
    a ≠ base + n + 1 := by omega

/-! ### The end of a block -/

/-- The silence record of `k` slices at the end of a block; none where `k` is 0. -/
def silentTail (rs : List Stored) (k : Nat) : List Stored :=
  if k = 0 then [] else [⟨sizes rs, spans rs, k, 2, false⟩]

/-- Its bytes. -/
def tailBytes (k : Nat) : List Byte := if k = 0 then [] else silenceRecord k

/-- The block holds the records `rs`, whose bytes are `pre`, and at their end `k` slices of silence. -/
structure Holding (g : Segment) (b : Nat) (e : Block) (rs : List Stored) (k : Nat) (pre : List Byte) : Prop where
  found : g.find b = some e
  spells : Spells g.mem (b * 1024) 0 0 rs
  content : Memory.readBytes g.mem (b * 1024) (sizes rs) = pre
  bytes : e.bytes = sizes rs + (if k = 0 then 0 else 2)
  silence : k ≠ 0 → Memory.readBytes g.mem (b * 1024 + sizes rs) 2 = silenceRecord k
  small : k ≤ 250
  last : k = 0 → ∀ r, rs.getLast? = some r → r.voiced = true

theorem recordAt_silence {mem : List Host.Cell} {base off : Nat} (ix : Nat) (hk : k ≤ 250)
    (hbytes : Memory.readBytes mem (base + off) 2 = silenceRecord k) : recordAt mem base off ix = some ⟨off, ix, k, 2, false⟩ := by
  rw [Memory.readBytes_two, silenceRecord] at hbytes
  obtain ⟨hhead, htail⟩ := List.cons.inj hbytes
  obtain ⟨hcount, -⟩ := List.cons.inj htail
  have hmod : k % 2 ^ 8 = k := Nat.mod_eq_of_lt (by omega)
  have hkind : itemKind 0x80#8 = .silence := rfl
  simp only [recordAt, hhead, hkind, hcount, BitVec.toNat_ofNat, hmod]

theorem recordAt_voiced {mem : List Host.Cell} {base off : Nat} (ix : Nat) {bytes : List Byte}
    (hwhole : (RxItem.voiced bytes).Whole) (hbytes : Memory.readBytes mem (base + off) bytes.length = bytes) :
    recordAt mem base off ix = some ⟨off, ix, 1, bytes.length, true⟩ := by
  obtain ⟨head, rest, tier, rfl, hkind, htier, hlen⟩ := hwhole
  rw [List.length_cons, Memory.readBytes] at hbytes
  obtain ⟨hhead, -⟩ := List.cons.inj hbytes
  simp only [recordAt, hhead, hkind, htier, Option.getD_some, hlen]

/-- A block's entry after an update of its fields. -/
theorem find_update_same {f : Block → Block} (h : g.find b = some e) (hf : ∀ y, (f y).num = y.num) :
    (g.update b f).find b = some (f e) := by
  rw [find_update hf, if_pos rfl, h]
  rfl

namespace Holding

theorem num (h : Holding g b e rs k pre) : e.num = b := find_num h.found

theorem length_pre (h : Holding g b e rs k pre) : pre.length = sizes rs := by rw [← h.content, Memory.length_readBytes]

theorem spellsAll (h : Holding g b e rs k pre) : Spells g.mem (b * 1024) 0 0 (rs ++ silentTail rs k) := by
  refine Spells.append.mpr ⟨h.spells, ?_⟩
  unfold silentTail
  split
  · trivial
  · next hk =>
    have hrecord := recordAt_silence (off := sizes rs) (spans rs) h.small (h.silence hk)
    rw [Nat.zero_add, Nat.zero_add]
    exact ⟨hrecord, trivial⟩

theorem sizes_all (h : Holding g b e rs k pre) : sizes (rs ++ silentTail rs k) = e.bytes := by
  rw [h.bytes, sizes_append]
  unfold silentTail
  split <;> rfl

theorem contentAll (h : Holding g b e rs k pre) : Memory.readBytes g.mem (b * 1024) e.bytes = pre ++ tailBytes k := by
  rw [h.bytes, Memory.readBytes_add, h.content]
  unfold tailBytes
  split
  · rfl
  · next hk => rw [h.silence hk]

theorem records (h : Holding g b e rs k pre) (hfits : e.bytes ≤ 1024) : g.records e = rs ++ silentTail rs k := by
  have hlen := h.spellsAll.sizes_ge
  rw [h.sizes_all] at hlen
  rw [Segment.records, h.num]
  refine walkBlock_of_spells h.spellsAll (by rw [Nat.zero_add]; exact h.sizes_all) ?_
  exact show _ ≤ 1024 by omega

theorem trailing (h : Holding g b e rs k pre) (hfits : e.bytes ≤ 1024) :
    g.trailingSilence e = if k = 0 then none else some ⟨sizes rs, spans rs, k, 2, false⟩ := by
  rw [trailingSilence, h.records hfits]
  unfold silentTail
  split
  · next hk =>
    rw [List.append_nil]
    cases hlast : rs.getLast? with
    | none => rfl
    | some r => simp [h.last hk r hlast]
  · simp

/-- Only the reference count of blocks has changed. -/
theorem incRef (h : Holding g b e rs k pre) :
    Holding (g.update b fun x => { x with refs := x.refs + 1 }) b { e with refs := e.refs + 1 } rs k pre where
  found := by
    refine find_update_same h.found ?_
    exact fun _ => rfl
  spells := h.spells
  content := h.content
  bytes := h.bytes
  silence := h.silence
  small := h.small
  last := h.last

end Holding

/-! ### What a write leaves -/

/-- Bytes and counts of block `b` were written, and no others. -/
structure BlockWritten (b : Nat) (g g' : Segment) : Prop where
  rest : g' = { g with mem := g'.mem, blocks := g'.blocks }
  outside : ∀ a, a < b * 1024 ∨ b * 1024 + 1024 ≤ a → Memory.read g'.mem a = Memory.read g.mem a
  wf : Memory.wf g'.mem = true

theorem BlockWritten.refl (b : Nat) (hwf : Memory.wf g.mem = true) : BlockWritten b g g := ⟨rfl, fun _ _ => rfl, hwf⟩

theorem BlockWritten.trans (h : BlockWritten b g g') (k : BlockWritten b g' g'') : BlockWritten b g g'' where
  rest := by
    have hrest := h.rest
    have krest := k.rest
    rw [krest, hrest]
  outside := fun a ha => (k.outside a ha).trans (h.outside a ha)
  wf := k.wf

/-- A voiced record written at the end of a block. -/
theorem Holding.appendVoiced {bytes : List Byte} (h : Holding g b e rs k pre) (hwf : Memory.wf g.mem = true)
    (hwhole : (RxItem.voiced bytes).Whole) (hfits : e.bytes + bytes.length ≤ 1024) :
    ∃ qs, Holding (g.appendVoiced b bytes) b { e with slices := e.slices + 1, bytes := e.bytes + bytes.length } qs 0
      (pre ++ tailBytes k ++ bytes) ∧ BlockWritten b g (g.appendVoiced b bytes) := by
  have heq : g.appendVoiced b bytes = { g with mem := Memory.writeBytes g.mem (b * 1024 + e.bytes) bytes }.update b
      fun y => { y with slices := y.slices + 1, bytes := y.bytes + bytes.length } := by
    simp only [Segment.appendVoiced, h.found]
    rfl
  have hread := Memory.readBytes_writeBytes hwf bytes (b * 1024 + e.bytes)
  have hout := Memory.read_writeBytes_outside hwf bytes (b * 1024 + e.bytes)
  have hwf' := Memory.wf_writeBytes hwf bytes (b * 1024 + e.bytes)
  rw [heq]
  have hsizes := h.sizes_all
  have hold := h.spellsAll.congr_front (mem' := Memory.writeBytes g.mem (b * 1024 + e.bytes) bytes) fun a hhigh => by
    rw [hsizes] at hhigh
    exact hout a (.inl hhigh)
  have hnew := recordAt_voiced (base := b * 1024) (off := e.bytes) (spans (rs ++ silentTail rs k)) hwhole hread
  refine ⟨(rs ++ silentTail rs k) ++ [⟨e.bytes, spans (rs ++ silentTail rs k), 1, bytes.length, true⟩],
    ⟨?found, ?spells, ?content, ?bytes, fun hk => absurd rfl hk, Nat.zero_le _, ?last⟩, rfl, ?outside, hwf'⟩
  case found =>
    refine find_update_same (g := { g with mem := _ }) h.found ?_
    exact fun _ => rfl
  case spells =>
    refine Spells.append.mpr ⟨hold, ?_⟩
    rw [Nat.zero_add, Nat.zero_add, hsizes]
    exact ⟨hnew, trivial⟩
  case content =>
    rw [sizes_append, hsizes, sizes_cons, sizes_nil, Nat.add_zero]
    refine (Memory.readBytes_add _ _ e.bytes bytes.length).trans ?_
    rw [← h.contentAll]
    refine congr_arg₂ _ (Memory.readBytes_congr fun a _ hhigh => hout a (.inl hhigh)) hread
  case bytes =>
    rw [sizes_append, hsizes, sizes_cons, sizes_nil]
    rfl
  case last =>
    intro _ r hr
    rw [List.getLast?_append, List.getLast?_singleton] at hr
    cases hr
    rfl
  case outside =>
    intro a ha
    exact hout a (outside_block ha hfits)

/-- A silence slice written at the end of a block (R61). -/
theorem Holding.appendSilence (h : Holding g b e rs k pre) (hwf : Memory.wf g.mem = true) (hsmall : k + 1 ≤ 250)
    (hfits : e.bytes ≤ 1024) (hopens : k = 0 → e.bytes + 2 ≤ 1024) :
    Holding (g.appendSilence b) b { e with
      slices := e.slices + 1, bytes := if k = 0 then e.bytes + 2 else e.bytes } rs (k + 1) pre ∧
    BlockWritten b g (g.appendSilence b) := by
  have htrail := h.trailing hfits
  have hbytes := h.bytes
  by_cases hk : k = 0
  · subst hk
    rw [if_pos rfl] at htrail hbytes
    have heq : g.appendSilence b = { g with mem := Memory.writeBytes g.mem (b * 1024 + e.bytes) (silenceRecord 1) }.update b
        fun y => { y with slices := y.slices + 1, bytes := y.bytes + 2 } := by
      simp only [Segment.appendSilence, h.found, htrail]
      rfl
    have hread := Memory.readBytes_writeBytes hwf (silenceRecord 1) (b * 1024 + e.bytes)
    have hout := Memory.read_writeBytes_outside hwf (silenceRecord 1) (b * 1024 + e.bytes)
    have hroom := hopens rfl
    rw [heq]
    have hbelow : ∀ a, a < b * 1024 + sizes rs → a < b * 1024 + e.bytes := fun a ha => by rw [hbytes]; exact ha
    refine ⟨⟨?_, h.spells.congr_front fun a hhigh => hout a (.inl (hbelow a hhigh)), ?_, ?_, fun _ => ?_, hsmall,
      fun hzero => absurd hzero (Nat.succ_ne_zero _)⟩, rfl, fun a ha =>
        hout a (outside_block ha hroom), Memory.wf_writeBytes hwf _ _⟩
    · refine find_update_same (g := { g with mem := _ }) h.found ?_
      exact fun _ => rfl
    · rw [← h.content]
      exact Memory.readBytes_congr fun a _ hhigh => hout a (.inl (hbelow a hhigh))
    · dsimp only
      rw [hbytes]
      rfl
    · rw [show sizes rs = e.bytes from hbytes.symm]
      exact hread
  · rw [if_neg hk] at htrail hbytes
    have hold := h.silence hk
    have hin : sizes rs + 1 < 1024 := by
      rw [hbytes] at hfits
      omega
    have heq : g.appendSilence b = { g with
        mem := Memory.write g.mem (b * 1024 + sizes rs + 1) (BitVec.ofNat 8 (k + 1)) }.update b
        fun y => { y with slices := y.slices + 1 } := by
      simp only [Segment.appendSilence, h.found, htrail]
      rfl
    have hwrite : ∀ a, Memory.read (Memory.write g.mem (b * 1024 + sizes rs + 1) (BitVec.ofNat 8 (k + 1))) a =
        if a = b * 1024 + sizes rs + 1 then BitVec.ofNat 8 (k + 1) else Memory.read g.mem a :=
      fun a => Memory.read_write hwf _ a _
    rw [heq]
    refine ⟨⟨?_, h.spells.congr_front fun a hhigh => ?_, ?_, ?_, fun _ => ?_, hsmall,
      fun hzero => absurd hzero (Nat.succ_ne_zero _)⟩, rfl, fun a ha => ?_, Memory.wf_write hwf _ _⟩
    · rw [if_neg hk]
      refine find_update_same (g := { g with mem := _ }) h.found ?_
      exact fun _ => rfl
    · exact (hwrite a).trans (if_neg (Nat.lt_succ_of_lt hhigh).ne)
    · rw [← h.content]
      exact Memory.readBytes_congr fun a _ hhigh => (hwrite a).trans (if_neg (Nat.lt_succ_of_lt hhigh).ne)
    · dsimp only
      rw [if_neg hk, hbytes]
      rfl
    · rw [Memory.readBytes_two, silenceRecord] at hold
      obtain ⟨hhead, -⟩ := List.cons.inj hold
      refine Memory.readBytes_two.trans ?_
      have hfirst := (hwrite (b * 1024 + sizes rs)).trans (if_neg (Nat.lt_succ_self _).ne)
      have hsecond := (hwrite (b * 1024 + sizes rs + 1)).trans (if_pos rfl)
      exact congr_arg₂ (fun u v => [u, v]) (hfirst.trans hhead) hsecond
    · exact (hwrite a).trans (if_neg (ne_of_outside_block ha hin))

end Sys2Proof.Machine.Segment
end

section
/-! The items of a frame written into a block (R39, R163). -/

namespace Sys2Proof.Machine.Segment

variable {g g' : Segment} {b k n : Nat} {e : Block} {rs : List Stored} {pre : List Byte} {it : RxItem} {items rest : List RxItem}

/-- A run of silence slices joins the end of a block. -/
theorem Holding.silences (h : Holding g b e rs k pre) (hwf : Memory.wf g.mem = true) (hsmall : k + n ≤ 250)
    (hfits : sizes rs + (if k + n = 0 then 0 else 2) ≤ 1024) :
    Holding ((List.range n).foldl (fun g _ => g.appendSilence b) g) b { e with
      slices := e.slices + n, bytes := sizes rs + (if k + n = 0 then 0 else 2) } rs (k + n) pre ∧
    BlockWritten b g ((List.range n).foldl (fun g _ => g.appendSilence b) g) := by
  induction n with
  | zero =>
    refine ⟨?_, .refl b hwf⟩
    have hbytes := h.bytes
    simp only [Nat.add_zero]
    rw [← hbytes]
    exact h
  | succ n ih =>
    have hfits' : sizes rs + 2 ≤ 1024 := by
      rw [if_neg (show ¬k + (n + 1) = 0 by omega)] at hfits
      exact hfits
    have hbefore : sizes rs + (if k + n = 0 then 0 else 2) ≤ 1024 := by
      split <;> omega
    obtain ⟨hold, hwritten⟩ := ih (by omega) hbefore
    rw [List.range_succ, List.foldl_append]
    generalize (List.range n).foldl (fun g _ => g.appendSilence b) g = g' at hold hwritten
    have hroom : k + n = 0 → sizes rs + (if k + n = 0 then 0 else 2) + 2 ≤ 1024 := by
      intro hzero
      rw [if_pos hzero]
      exact hfits'
    obtain ⟨hnew, hlast⟩ := hold.appendSilence hwritten.wf (show k + n + 1 ≤ 250 by omega) hbefore hroom
    have hbytes := hnew.bytes
    dsimp only at hbytes
    refine ⟨?_, hwritten.trans hlast⟩
    rw [hbytes] at hnew
    exact hnew

/-- The bytes of an item joined to a block. -/
def itemWritten (b : Nat) (g : Segment) : RxItem → Segment
  | .header .. => g
  | .voiced bytes => g.appendVoiced b bytes
  | .silence n => (List.range n).foldl (fun g _ => g.appendSilence b) g

theorem bytesAfter_ge (used : Nat) (silent : Bool) (items : List RxItem) : used ≤ bytesAfter used silent items := by
  induction items generalizing used silent with
  | nil => exact Nat.le_refl _
  | cons it items ih =>
    cases it with
    | header => exact ih used silent
    | voiced bytes => exact (Nat.le_add_right _ _).trans (ih _ _)
    | silence n =>
      refine Nat.le_trans ?_ (ih _ _)
      split <;> omega

/-- What a block holds after an item: the bytes that join it, and room for the items after it. -/
theorem Holding.item (h : Holding g b e rs k pre) (hwf : Memory.wf g.mem = true) (hwhole : it.Whole)
    (hsmall : k + ((it :: rest).map RxItem.span).sum ≤ 250)
    (hfits : bytesAfter e.bytes (decide (k ≠ 0)) (it :: rest) ≤ 1024) :
    ∃ w qs m post, Holding (itemWritten b g it) b { e with slices := e.slices + it.span, bytes := w } qs m post ∧
      BlockWritten b g (itemWritten b g it) ∧ m + (rest.map RxItem.span).sum ≤ 250 ∧
      bytesAfter w (decide (m ≠ 0)) rest ≤ 1024 ∧ post ++ joinedBytes m rest = pre ++ joinedBytes k (it :: rest) := by
  rw [List.map_cons, List.sum_cons] at hsmall
  cases it with
  | header => exact ⟨e.bytes, rs, k, pre, h, .refl b hwf, by omega, hfits, rfl⟩
  | voiced bytes =>
    have hroom : e.bytes + bytes.length ≤ 1024 := (bytesAfter_ge _ _ rest).trans hfits
    obtain ⟨qs, hnew, hwritten⟩ := h.appendVoiced hwf hwhole hroom
    exact ⟨_, qs, 0, _, hnew, hwritten, by omega, hfits, by simp [joinedBytes, tailBytes]⟩
  | silence n =>
    have hpos : 1 ≤ n := hwhole
    have hafter : (if k + n = 0 then 0 else 2) = 2 := if_neg (show ¬k + n = 0 by omega)
    have hjoined : (if decide (k ≠ 0) = true then e.bytes else e.bytes + 2) = sizes rs + 2 := by
      rw [h.bytes]
      by_cases hk : k = 0 <;> simp [hk]
    have hsilent : decide (k + n ≠ 0) = true := decide_eq_true (by omega)
    have hrest : bytesAfter (sizes rs + 2) true rest ≤ 1024 := by
      rw [← hjoined]
      exact hfits
    have hspan : k + n ≤ 250 := by
      have hn : (RxItem.silence n).span = n := rfl
      omega
    obtain ⟨hnew, hwritten⟩ := h.silences (n := n) hwf hspan (by
      rw [hafter]
      exact (bytesAfter_ge _ _ rest).trans hrest)
    rw [hafter] at hnew
    have hn : (RxItem.silence n).span = n := rfl
    exact ⟨_, rs, k + n, pre, hnew, hwritten, by omega, by rw [hsilent]; exact hrest, rfl⟩

/-- What a block holds after the items of a frame. -/
theorem Holding.all (h : Holding g b e rs k pre) (hwf : Memory.wf g.mem = true) (hwhole : ∀ it ∈ items, it.Whole)
    (hsmall : k + (items.map RxItem.span).sum ≤ 250) (hfits : bytesAfter e.bytes (decide (k ≠ 0)) items ≤ 1024) :
    ∃ w qs m post, Holding (items.foldl (itemWritten b) g) b
      { e with slices := e.slices + (items.map RxItem.span).sum, bytes := w } qs m post ∧
      BlockWritten b g (items.foldl (itemWritten b) g) ∧ w ≤ 1024 ∧ post ++ tailBytes m = pre ++ joinedBytes k items := by
  induction items generalizing g e rs k pre with
  | nil => exact ⟨e.bytes, rs, k, pre, h, .refl b hwf, hfits, rfl⟩
  | cons it items ih =>
    obtain ⟨w, qs, m, post, hnew, hwritten, hsmall', hfits', hcontent⟩ := h.item hwf (hwhole it (by simp)) hsmall hfits
    obtain ⟨w', qs', m', post', hlast, hwritten', hle, hcontent'⟩ :=
      ih hnew hwritten.wf (fun it hit => hwhole it (by simp [hit])) hsmall' hfits'
    refine ⟨w', qs', m', post', ?_, hwritten.trans hwritten', hle, hcontent'.trans hcontent⟩
    rw [List.map_cons, List.sum_cons, ← Nat.add_assoc]
    exact hlast

end Sys2Proof.Machine.Segment

namespace Sys2Proof.Machine.State

variable {s t : State} {i : LetterIx} {x : Letter} {b : Nat} {front : List SegRec} {r : SegRec} {it : RxItem}
  {items : List RxItem}

/-! ### The items of a frame, and the record they grow (R163) -/

theorem putItem_eq (s : State) (b : Nat) (it : RxItem) : s.putItem b it = s.onSeg fun g => Segment.itemWritten b g it := by
  cases it <;> rfl

/-- The last record of a letter grows by the slices of an item. -/
theorem writeItem_grows (hx : s.letters[i] = some x) (hchain : x.chain = front ++ [r]) (h : RepackHeader) (it : RxItem) :
    s.writeItem i b h false it = (s.onSeg fun g => Segment.itemWritten b g it).setLetter i
      (some { x with chain := front ++ [{ r with count := r.count + it.span }] }) := by
  have hlast : x.chain.getLast? = some r := by simp [hchain]
  have hdrop : x.chain.dropLast = front := by simp [hchain]
  rw [writeItem_eq, putItem_eq]
  simp only [Bool.false_eq_true, if_false]
  simp only [onLetter, setLetter, onSeg_letters, hx, Option.map_some, hlast, hdrop]

theorem writeItems_grow (hx : s.letters[i] = some x) (hchain : x.chain = front ++ [r]) (h : RepackHeader)
    (items : List RxItem) : writeItems i b h false items s =
      (s.onSeg fun g => items.foldl (Segment.itemWritten b) g).setLetter i
        (some { x with chain := front ++ [{ r with count := r.count + (items.map RxItem.span).sum }] }) := by
  induction items generalizing s x r with
  | nil =>
    simp only [writeItems, List.map_nil, List.sum_nil, Nat.add_zero, List.foldl_nil]
    rw [← hchain]
    have hset : s.letters.set i (some x) = s.letters := by
      rw [← hx]
      exact Vector.set_getElem_self _
    simp only [setLetter, onSeg_letters, hset]
    rfl
  | cons it items ih =>
    rw [writeItems, writeItem_grows hx hchain]
    rw [ih (x := { x with chain := front ++ [{ r with count := r.count + it.span }] }) (setLetter_same _ i _) rfl]
    simp only [List.map_cons, List.sum_cons, List.foldl_cons, Nat.add_assoc]
    simp [setLetter, onSeg]

/-- The first item of a record places it (R163). -/
theorem writeItem_places (hx : s.letters[i] = some x) (h : RepackHeader) (it : RxItem) :
    s.writeItem i b h true it = (((s.onSeg fun g => Segment.itemWritten b g it).setLetter i
      (some { x with chain := x.chain ++ [⟨b, 0, it.span, h.pass, h.kind⟩] })).onSeg (Segment.takeRecords 1)).incRef b := by
  have hsome : ((s.onSeg fun g => Segment.itemWritten b g it).letters[i].isSome) = true := by
    rw [onSeg_letters, hx]
    rfl
  rw [writeItem_eq, putItem_eq, if_pos rfl, hsome]
  simp only [when, if_true, onLetter, setLetter, onSeg_letters, hx, Option.map_some]

theorem rising_sealAll (bs : List Nat) {s : State} (h : Rising s.seg.blocks) : Rising (sealAll bs s).seg.blocks := by
  induction bs generalizing s with
  | nil => exact h
  | cons b bs ih => exact ih (rising_sealBlock h b)

end Sys2Proof.Machine.State
end

section
/-! A frame repacked into a block (R37, R48, R163, R206). -/

namespace Sys2Proof.Machine.State

variable {s t u v w : State} {i : LetterIx} {x : Letter} {b : Nat} {e : Block} {front : List SegRec} {r : SegRec} {it : RxItem}
  {items : List RxItem} {inc : Incoming} {snap : Snapshot} {d : DataBody} {p : Repack} {bytes : List Byte}

/-! ### What a frame's items leave (R163) -/

/-- Items have been written into block `b`, whose entry and bytes are given, and letter `i` is `x`. -/
structure ItemsWritten (i : LetterIx) (x : Letter) (b : Nat) (e : Block) (bytes : List Byte) (v w : State) : Prop where
  rest : w = { v with seg := w.seg, letters := w.letters }
  letter : w.letters[i] = some x
  others : OtherLetters i v w
  found : w.seg.find b = some e
  content : Memory.readBytes w.seg.mem (b * 1024) e.bytes = bytes
  outside : OtherBlocks b v w

theorem ItemsWritten.length (h : ItemsWritten i x b e bytes v w) : e.bytes = bytes.length := by
  rw [← h.content, Memory.length_readBytes]

/-- Items that grow the last record of a letter (R163). -/
theorem writeItems_grown {rs : List Stored} {k : Nat} {pre : List Byte} (hx : v.letters[i] = some x)
    (hchain : x.chain = front ++ [r]) (hhold : v.seg.Holding b e rs k pre) (hwf : v.MemoryCanonical)
    (hwhole : ∀ it ∈ items, it.Whole) (hsmall : k + (items.map RxItem.span).sum ≤ 250)
    (hfits : bytesAfter e.bytes (decide (k ≠ 0)) items ≤ 1024) (h : RepackHeader) :
    ∃ n, ItemsWritten i { x with chain := front ++ [{ r with count := r.count + (items.map RxItem.span).sum }] } b
      { e with slices := e.slices + (items.map RxItem.span).sum, bytes := n } (pre ++ joinedBytes k items) v
      (writeItems i b h false items v) ∧ (writeItems i b h false items v).seg.poolFree = v.seg.poolFree := by
  obtain ⟨n, qs, m, post, hnew, hwritten, -, hcontent⟩ := hhold.all hwf hwhole hsmall hfits
  rw [writeItems_grow hx hchain]
  refine ⟨n, ⟨rfl, setLetter_same _ i _, fun j hj => setLetter_other _ hj _, hnew.found, ?_, hwritten.outside⟩, ?_⟩
  · rw [← hcontent]
    exact hnew.contentAll
  · have hrest := congrArg Segment.poolFree hwritten.rest
    exact hrest

/-- A new block holds nothing. -/
theorem holding_empty (hfind : v.seg.find b = some e) (hbytes : e.bytes = 0) : v.seg.Holding b e [] 0 [] :=
  ⟨hfind, trivial, rfl, hbytes, fun hk => absurd rfl hk, Nat.zero_le _, fun _ r hr => by cases hr⟩

theorem holding_takeRecords {g : Segment} {rs : List Stored} {k : Nat} {pre : List Byte} (h : g.Holding b e rs k pre) (n : Nat) :
    (Segment.takeRecords n g).Holding b e rs k pre :=
  ⟨h.found, h.spells, h.content, h.bytes, h.silence, h.small, h.last⟩

/-- Items that begin a record in a new block (R163). -/
theorem writeItems_placed (hx : v.letters[i] = some x) (hfind : v.seg.find b = some e) (hbytes : e.bytes = 0)
    (hwf : v.MemoryCanonical) (hwhole : ∀ q ∈ it :: items, q.Whole) (hsmall : ((it :: items).map RxItem.span).sum ≤ 250)
    (hfits : bytesAfter 0 false (it :: items) ≤ 1024) (h : RepackHeader) :
    ∃ n, ItemsWritten i { x with
        chain := x.chain ++ [⟨b, 0, ((it :: items).map RxItem.span).sum, h.pass, h.kind⟩] } b
      { e with refs := e.refs + 1, slices := e.slices + ((it :: items).map RxItem.span).sum, bytes := n }
      (joinedBytes 0 (it :: items)) v (writeItems i b h true (it :: items) v) ∧
      (writeItems i b h true (it :: items) v).seg.poolFree = v.seg.poolFree - 1 := by
  have hempty := holding_empty hfind hbytes
  obtain ⟨n, qs, k, pre, hfirst, hwritten, hsmall', hfits', hcontent⟩ :=
    hempty.item hwf (hwhole it (by simp)) (by rw [Nat.zero_add]; exact hsmall) (by rw [hbytes]; exact hfits)
  have hplaced := (holding_takeRecords hfirst 1).incRef
  have hchain : ({ x with chain := x.chain ++ [⟨b, 0, it.span, h.pass, h.kind⟩] } : Letter).chain =
      x.chain ++ [⟨b, 0, it.span, h.pass, h.kind⟩] := rfl
  obtain ⟨m, hdone, hpool⟩ := writeItems_grown (i := i) (v := (((v.onSeg fun g => Segment.itemWritten b g it).setLetter i
    (some { x with chain := x.chain ++ [⟨b, 0, it.span, h.pass, h.kind⟩] })).onSeg (Segment.takeRecords 1)).incRef b)
    (setLetter_same _ i _) hchain hplaced hwritten.wf (fun q hq => hwhole q (by simp [hq])) hsmall' hfits' h
  rw [hcontent] at hdone
  rw [writeItems, writeItem_places hx]
  have hsum : ((it :: items).map RxItem.span).sum = it.span + (items.map RxItem.span).sum := rfl
  rw [hsum]
  refine ⟨m, ⟨?_, hdone.letter, fun j hj => (hdone.others j hj).trans (setLetter_other _ hj _), ?_, hdone.content,
    fun a ha => (hdone.outside a ha).trans (hwritten.outside a ha)⟩, ?_⟩
  · have hrest := hdone.rest
    exact hrest
  · rw [← Nat.add_assoc]
    exact hdone.found
  · have hrest := congrArg Segment.poolFree hwritten.rest
    exact hpool.trans (congrArg (· - 1) hrest)

/-! ### The expected position moves, and a full record's block is sealed (R163) -/

/-- The position after `n` slices more of a record. -/
def movedOn (inc : Incoming) (p : Repack) : Incoming :=
  let n := inc.slice + (p.slices.map RxItem.span).sum
  { inc with
    record := if p.header.count ≤ n then inc.record + 1 else inc.record
    slice := if p.header.count ≤ n then 0 else n
    header := if p.header.count ≤ n then none else some p.header
    crc := p.slices.foldl (fun k it => crc32 k it.checkBytes) inc.crc }

theorem sealBlock_entry (hfind : s.seg.find b = some e) (hrefs : e.refs ≠ 0) :
    (s.sealBlock b).seg.find b = some { e with filler := none } := by
  have hnot : (e.refs == 0) = false := by simpa using hrefs
  simp only [sealBlock, hfind, hnot, when_false]
  split
  · exact Segment.find_update_same (f := fun y => { y with filler := none }) hfind fun _ => rfl
  · next hnone =>
    have hfiller : e.filler = none := by simpa using hnone
    rw [← hfiller]
    exact hfind

/-- The frame has been written into block `b`: its entry, its bytes, the letter and the position are given. -/
structure FrameWritten (i : LetterIx) (x : Letter) (b : Nat) (e : Block) (bytes : List Byte) (after : Incoming) (v t : State) :
    Prop where
  xfer : t.xfer = { v.xfer with incoming := some after }
  letter : t.letters[i] = some x
  others : OtherLetters i v t
  found : t.seg.find b = some e
  content : Memory.readBytes t.seg.mem (b * 1024) e.bytes = bytes
  outside : OtherBlocks b v t
  lines : SameLines v t
  nums : t.nums = v.nums

/-- What `repackInto` does after the items were written. -/
theorem positionMoved {c : Incoming} (hinc : v.xfer.incoming = some c) (hslice : c.slice = inc.slice)
    (hitems : ItemsWritten i x b e bytes v (writeItems inc.letter b p.header (inc.slice == 0) p.slices v))
    (hrefs : p.header.count ≤ inc.slice + (p.slices.map RxItem.span).sum → e.refs ≠ 0) :
    FrameWritten i x b { e with
      filler := if p.header.count ≤ inc.slice + (p.slices.map RxItem.span).sum then none else e.filler } bytes (movedOn c p) v
      (v.repackInto inc b p) ∧
    (v.repackInto inc b p).seg.poolFree =
      (writeItems inc.letter b p.header (inc.slice == 0) p.slices v).seg.poolFree := by
  have hrest := hitems.rest
  obtain ⟨q, hq⟩ : ∃ q, q = (writeItems inc.letter b p.header (inc.slice == 0) p.slices v).onXfer fun x =>
      { x with incoming := some (movedOn c p) } := ⟨_, rfl⟩
  have hxfer : (writeItems inc.letter b p.header (inc.slice == 0) p.slices v).xfer = v.xfer := by rw [hrest]
  have heq : v.repackInto inc b p =
      when (decide (p.header.count ≤ inc.slice + (p.slices.map RxItem.span).sum)) (·.sealBlock b) q := by
    have hmap : (writeItems inc.letter b p.header (inc.slice == 0) p.slices v).xfer.incoming = some c := by rw [hxfer, hinc]
    rw [hq, repackInto]
    simp only [onXfer, hmap, Option.map_some, movedOn, hslice, decide_eq_true_eq]
  have hwritten : FrameWritten i x b e bytes (movedOn c p) v q := by
    rw [hq]
    refine ⟨?_, hitems.letter, hitems.others, hitems.found, hitems.content, hitems.outside, ?_, ?_⟩
    · rw [← hxfer]
      rfl
    · rw [hrest]
      exact ⟨rfl, rfl, rfl, rfl⟩
    · rw [hrest]
      rfl
  have hpool : q.seg.poolFree = (writeItems inc.letter b p.header (inc.slice == 0) p.slices v).seg.poolFree := by rw [hq]; rfl
  rw [heq]
  by_cases hfull : p.header.count ≤ inc.slice + (p.slices.map RxItem.span).sum
  · have hseal := sealBlock_work q b
    obtain ⟨klines, kcoders, ktones, kports⟩ := hwritten.lines
    simp only [if_pos hfull, decide_eq_true hfull, when_true]
    refine ⟨⟨hseal.xfer.trans hwritten.xfer, by rw [hseal.letters]; exact hwritten.letter,
      fun j hj => by rw [hseal.letters]; exact hwritten.others j hj, sealBlock_entry hwritten.found (hrefs hfull), ?_,
      fun a ha => ?_, ⟨hseal.lines.trans klines, hseal.coders.trans kcoders, hseal.tones.trans ktones,
        hseal.ports.trans kports⟩, hseal.nums.trans hwritten.nums⟩, (sealBlock_poolFree q b).trans hpool⟩
    · rw [mem_sealBlock]
      exact hwritten.content
    · rw [mem_sealBlock]
      exact hwritten.outside a ha
  · simp only [if_neg hfull, decide_eq_false hfull, when_false]
    exact ⟨hwritten, hpool⟩

end Sys2Proof.Machine.State
end

section
/-! Transfer Data taken, settled (R37, R39, R48, R162, R163, R206). -/

namespace Sys2Proof.Machine.State

variable {s t u v : State} {i : LetterIx} {x : Letter} {b e : Block} {front : List SegRec} {r : SegRec}
  {inc : Incoming} {snap : Snapshot} {d : DataBody} {p : Repack} {sender : Station}

/-! ### The frame's position (R163) -/

theorem positionBefore_iff (r k r' k' : Nat) : positionBefore r k r' k' = true ↔ r < r' ∨ (r = r' ∧ k < k') := by
  simp [positionBefore]

theorem exec_transferData (hact : s.Active) (hinc : s.incomingOf d.number sender = some inc) (hsnap : inc.snapshot = some snap) :
    exec (.transferData sender d) s = .next ((s.taken (.transferData sender d)).takeData snap inc d) := by
  have hactive : (s.taken (.transferData sender d)).isActive = true := isActive_of hact
  have hinc' : ((s.taken (.transferData sender d)).incomingOf d.number sender).bind
      (fun c => c.snapshot.map fun p => (c, p)) = some (inc, snap) := by
    change (s.incomingOf d.number sender).bind (fun c => c.snapshot.map fun p => (c, p)) = _
    rw [hinc, Option.bind_some, hsnap]
    rfl
  change execTransferData sender d s = _
  simp only [execTransferData, if_pos hactive, hinc']

theorem takeData_past (h : inc.record < d.record ∨ (inc.record = d.record ∧ inc.slice < d.slice)) :
    s.takeData snap inc d = s.incomingFail (some .check) .check :=
  if_pos ((positionBefore_iff _ _ _ _).mpr h)

theorem takeData_before (h : d.record < inc.record ∨ (d.record = inc.record ∧ d.slice < inc.slice)) :
    s.takeData snap inc d = s.restartReceive := by
  have hnot : ¬positionBefore inc.record inc.slice d.record d.slice = true := by
    rw [positionBefore_iff]
    omega
  simp only [takeData, if_neg hnot, if_pos ((positionBefore_iff _ _ _ _).mpr h)]

theorem takeData_at (hrecord : inc.record = d.record) (hslice : inc.slice = d.slice) : s.takeData snap inc d =
    (s.checkItems snap inc d).elim (s.restartReceive.incomingFail (some .check) .check) (s.restartReceive.repack inc d) := by
  have hpast : ¬positionBefore inc.record inc.slice d.record d.slice = true := by
    rw [positionBefore_iff]
    omega
  have hbefore : ¬positionBefore d.record d.slice inc.record inc.slice = true := by
    rw [positionBefore_iff]
    omega
  simp only [takeData, if_neg hpast, if_neg hbefore]
  change (match s.checkItems snap inc d with
    | none => s.restartReceive.incomingFail (some .check) .check
    | some p => s.restartReceive.repack inc d p) = _
  cases s.checkItems snap inc d <;> rfl

/-! ### The frame's items, checked (R163, R206) -/

/-- The bytes used of the block a frame goes on filling, and whether it ends with silence. -/
def usedBy (s : State) (inc : Incoming) : Nat × Bool :=
  match (if inc.slice = 0 then none else s.repackBlock inc.letter) with
  | some x => (x.bytes, (s.seg.trailingSilence x).isSome)
  | none => (0, false)

/-- What a frame that passes its checks has. -/
structure FrameChecked (s : State) (inc : Incoming) (p : Repack) : Prop where
  whole : ∀ it ∈ p.slices, it.Whole
  count : inc.slice + (p.slices.map RxItem.span).sum ≤ p.header.count
  fits : bytesAfter (s.usedBy inc).1 (s.usedBy inc).2 p.slices ≤ 1024
  header : inc.slice = 0 → 1 ≤ p.header.count ∧ p.header.count ≤ 250

theorem splitItems_spec {items : List RxItem} (h : splitItems snap inc items = some p) :
    (∀ it ∈ p.slices, it ∈ items) ∧ (inc.slice = 0 → 1 ≤ p.header.count ∧ p.header.count ≤ 250) := by
  unfold splitItems at h
  split at h
  case isTrue =>
    split at h
    · next pass count kind rest =>
      split at h
      · next hfits =>
        obtain ⟨hheader, -⟩ := hfits
        cases h
        simp only [headerFits, Bool.and_eq_true, decide_eq_true_eq] at hheader
        obtain ⟨⟨⟨-, hpos⟩, hle⟩, -⟩ := hheader
        exact ⟨fun it hit => List.mem_cons_of_mem _ hit, fun _ => ⟨hpos, hle⟩⟩
      · cases h
    · cases h
  case isFalse hslice =>
    split at h
    · obtain ⟨q, -, rfl⟩ := Option.map_eq_some_iff.mp h
      exact ⟨fun it hit => hit, fun hzero => absurd hzero hslice⟩
    · cases h

theorem checkItems_spec (h : s.checkItems snap inc d = some p) (hitems : d.items ≠ 0) : FrameChecked s inc p := by
  unfold checkItems at h
  obtain ⟨items, hread, h⟩ := Option.bind_eq_some_iff.mp h
  split at h
  case isTrue => cases h
  case isFalse hlen =>
    split at h
    case isTrue hempty =>
      rw [List.isEmpty_iff.mp hempty] at hlen
      exact absurd (not_not.mp hlen).symm hitems
    case isFalse =>
      obtain ⟨q, hsplit, h⟩ := Option.bind_eq_some_iff.mp h
      obtain ⟨hsub, hheader⟩ := splitItems_spec hsplit
      change (if q.header.count < inc.slice + (q.slices.map RxItem.span).sum then none
        else if Config.blockBytes < bytesAfter (s.usedBy inc).1 (s.usedBy inc).2 q.slices then none else some q) = some p at h
      split at h
      case isTrue => cases h
      case isFalse hcount =>
        split at h
        case isTrue => cases h
        case isFalse hfits =>
          cases h
          exact ⟨fun it hit => readItems_whole hread it (hsub it hit), Nat.le_of_not_lt hcount, Nat.le_of_not_lt hfits, hheader⟩

/-! ### A record's first frame (R37, R48) -/

/-- Sealing reads and changes no transfer and no step owed. -/
theorem freeBlock_moved (s : State) (n : Nat) (y : Transfer) (is : List Instr) :
    ({ s with xfer := y, reports := is } : State).freeBlock n = { s.freeBlock n with xfer := y, reports := is } := by
  unfold freeBlock
  dsimp only
  split <;> rfl

theorem sealBlock_moved (s : State) (n : Nat) (y : Transfer) (is : List Instr) :
    ({ s with xfer := y, reports := is } : State).sealBlock n = { s.sealBlock n with xfer := y, reports := is } := by
  unfold sealBlock
  dsimp only
  split
  · rfl
  · split
    · unfold when
      split
      · exact freeBlock_moved (s.onSeg (·.update n fun z => { z with filler := none })) n y is
      · rfl
    · rfl

theorem sealAll_moved (bs : List Nat) (s : State) (y : Transfer) (is : List Instr) :
    sealAll bs ({ s with xfer := y, reports := is } : State) = { sealAll bs s with xfer := y, reports := is } := by
  induction bs generalizing s with
  | nil => rfl
  | cons n bs ih =>
    rw [sealAll, sealAll, sealBlock_moved]
    exact ih (s.sealBlock n)

theorem sealOwned_moved (s : State) (i : LetterIx) (y : Transfer) (is : List Instr) :
    ({ s with xfer := y, reports := is } : State).sealOwned i = { s.sealOwned i with xfer := y, reports := is } :=
  sealAll_moved _ s y is

theorem sealOwned_of_none (h : ∀ b ∈ s.seg.blocks, b.owner = i → b.filler = none) : s.sealOwned i = s := by
  have hfilter : (s.seg.blocks.filter fun b => b.owner == i && b.filler.isSome) = [] := by
    refine List.filter_eq_nil_iff.mpr fun b hb hfills => ?_
    obtain ⟨howner, hfiller⟩ := Bool.and_eq_true_iff.mp hfills
    rw [h b hb (by simpa using howner)] at hfiller
    cases hfiller
  rw [sealOwned, hfilter]
  rfl

/-- A transfer that fails after blocks were sealed fails as it would have before (R167). -/
theorem TransferFailed.of_sealed (h : TransferFailed inc x u t) (honly : OnlySeg s u)
    (hmem : u.seg.mem = s.seg.mem) (hpool : u.seg.poolFree = s.seg.poolFree) : TransferFailed inc x s t := by
  unfold OnlySeg at honly
  rw [honly] at h
  obtain ⟨⟨hnone, hbytes, hfree, hwaiting, hwindow⟩, hothers, hxfer, hreservation, hdeliv, hpeers, htold, hsame⟩ := h
  refine ⟨⟨hnone, fun a => ?_, ?_, hwaiting, hwindow⟩, hothers, hxfer, hreservation, hdeliv, hpeers, htold, hsame⟩
  · rw [← hmem]
    exact hbytes a
  · rw [← hpool]
    exact hfree

/-- The new block of a record's first frame. -/
theorem given_block (hrise : Rising u.seg.blocks) (pass : Nat) :
    (u.chargeTransfer.giveBlock i .transfer pass 0).seg.find (Segment.lowestFrom 0 u.seg.blocks) =
      some ⟨Segment.lowestFrom 0 u.seg.blocks, 0, pass, 0, 0, 0, i, some .transfer⟩ := by
  have hgive := giveBlock_entry (s := u.chargeTransfer) hrise i .transfer pass 0 (Segment.lowestFrom 0 u.seg.blocks)
  exact hgive.trans (if_pos rfl)

/-! ### A record's later frame (R39, R42) -/

/-- A block whose records fill its bytes holds them, the silence that ends it apart. -/
theorem holding_of_walk (hfind : s.seg.find b.num = some b) (hwhole : s.WalkWhole b)
    (htail : ∀ q, s.seg.trailingSilence b = some q → 0 < q.span ∧ q.span ≤ 250 ∧ s.seg.bytesOf b q = silenceRecord q.span) :
    ∃ rs, s.seg.Holding b.num b rs ((s.seg.trailingSilence b).elim 0 (·.span))
      (Memory.readBytes s.seg.mem (b.num * 1024) ((s.seg.trailingSilence b).elim b.bytes (·.offset))) := by
  have hspells : Spells s.seg.mem (b.num * 1024) 0 0 (s.seg.records b) := spells_walkBlock _ _ _ _ _ _
  have hsizes : sizes (s.seg.records b) = b.bytes := hwhole
  cases htrail : s.seg.trailingSilence b with
  | none =>
    refine ⟨s.seg.records b, hfind, hspells, by rw [hsizes]; rfl, by rw [hsizes]; rfl, fun hk => absurd rfl hk, Nat.zero_le _,
      fun _ r hr => ?_⟩
    rw [Segment.trailingSilence, hr] at htrail
    by_contra hvoiced
    have hsilent : (!r.voiced) = true := by simpa using hvoiced
    rw [Option.filter_some, if_pos hsilent] at htrail
    cases htrail
  | some q =>
    obtain ⟨hpos, hsmall, hbytes⟩ := htail q htrail
    rw [Segment.trailingSilence] at htrail
    obtain ⟨hlast, hsilent⟩ := Option.filter_eq_some_iff.mp htrail
    obtain ⟨rs, hrs⟩ := List.getLast?_eq_some_iff.mp hlast
    rw [hrs] at hspells hsizes
    obtain ⟨hfront, hq, -⟩ := Spells.append.mp hspells
    rw [Nat.zero_add, Nat.zero_add] at hq
    have hrecord : q.offset = sizes rs ∧ q.size = 2 := by
      unfold recordAt at hq
      split at hq
      · cases hq
        cases hsilent
      · cases hq
        exact ⟨rfl, rfl⟩
      · cases hq
    obtain ⟨hoffset, hsize⟩ := hrecord
    have hk : q.span ≠ 0 := Nat.pos_iff_ne_zero.mp hpos
    refine ⟨rs, hfind, hfront, by rw [← hoffset]; rfl, ?_, fun _ => ?_, hsmall, fun hzero => absurd hzero hk⟩
    · rw [sizes_append, sizes_cons, sizes_nil, hsize] at hsizes
      exact hsizes.symm.trans (congrArg (sizes rs + ·) (if_neg hk).symm)
    · rw [Segment.bytesOf, hsize, hoffset] at hbytes
      exact hbytes

/-- The block a later frame goes on filling is in the table (R163). -/
theorem repackBlock_found (hblock : s.repackBlock i = some b) : s.seg.find b.num = some b := by
  obtain ⟨r, -, hfind⟩ := Option.bind_eq_some_iff.mp hblock
  rw [Segment.find_num hfind]
  exact hfind

end Sys2Proof.Machine.State
end

section
/-! Transfer Data taken: the first frame of a record, a later one, and the row, settled (R163). -/

namespace Sys2Proof.Machine.State

variable {s t u v : State} {i : LetterIx} {x : Letter} {b e : Block} {front : List SegRec} {r : SegRec}
  {inc c : Incoming} {snap : Snapshot} {d : DataBody} {p : Repack} {sender : Station}

/-! ### The first frame of a record (R37, R48) -/

/-- The station that writes a record's first frame: blocks still open are sealed, and a new one is given. -/
def firstBlock (s : State) (inc : Incoming) (p : Repack) : State :=
  (s.sealOwned inc.letter).chargeTransfer.giveBlock inc.letter .transfer p.header.pass 0

theorem repack_first (hitems : d.items ≠ 0) (hslice : inc.slice = 0) : s.repack inc d p =
    if 0 < (s.sealOwned inc.letter).seg.poolFree ∧ (s.sealOwned inc.letter).transferMayTake = true then
      (s.firstBlock inc p).repackInto inc (Segment.lowestFrom 0 (s.sealOwned inc.letter).seg.blocks) p
    else (s.sealOwned inc.letter).incomingFail (some .noMemory) .noMemory := by
  rw [repack, if_neg hitems, if_pos hslice]
  rfl

/-- What the station that writes a first frame has of the one before. -/
structure FirstBlock (s : State) (inc : Incoming) (p : Repack) (v : State) : Prop where
  found : v.seg.find (Segment.lowestFrom 0 (s.sealOwned inc.letter).seg.blocks) =
    some ⟨Segment.lowestFrom 0 (s.sealOwned inc.letter).seg.blocks, 0, p.header.pass, 0, 0, 0, inc.letter, some .transfer⟩
  mem : v.seg.mem = s.seg.mem
  pool : v.seg.poolFree = s.seg.poolFree
  letters : v.letters = s.letters
  lines : SameLines s v
  xfer : v.xfer = s.xfer
  nums : v.nums = s.nums

theorem sealOwned_poolFree (s : State) (i : LetterIx) : (s.sealOwned i).seg.poolFree = s.seg.poolFree := sealAll_poolFree _ s

theorem firstBlock_has (hrise : s.TableRising) (inc : Incoming) (p : Repack) : FirstBlock s inc p (s.firstBlock inc p) := by
  have hrise' : Rising (s.sealOwned inc.letter).seg.blocks := rising_sealAll _ hrise
  have hpool := sealOwned_poolFree s inc.letter
  have hwork := (sealAll_work s ((s.seg.blocks.filter fun b => b.owner == inc.letter && b.filler.isSome).map (·.num)))
  have hmem := mem_sealAll ((s.seg.blocks.filter fun b => b.owner == inc.letter && b.filler.isSome).map (·.num)) s
  exact ⟨given_block hrise' p.header.pass, hmem, hpool, hwork.letters,
    ⟨hwork.lines, hwork.coders, hwork.tones, hwork.ports⟩, hwork.xfer, hwork.nums⟩

/-- A first frame with slices begins its record (R163). -/
theorem repackInto_begins (hblock : FirstBlock s inc p v) (hwf : s.MemoryCanonical) (hx : s.letters[inc.letter] = some x)
    (hinc : s.xfer.incoming = some c) (hsame : c.slice = inc.slice) (hslice : inc.slice = 0) (hchecked : FrameChecked s inc p)
    (hslices : p.slices ≠ []) :
    FrameWritten inc.letter { x with chain := x.chain ++ [⟨Segment.lowestFrom 0 (s.sealOwned inc.letter).seg.blocks, 0,
        inc.slice + (p.slices.map RxItem.span).sum, p.header.pass, p.header.kind⟩] }
      (Segment.lowestFrom 0 (s.sealOwned inc.letter).seg.blocks)
      ⟨Segment.lowestFrom 0 (s.sealOwned inc.letter).seg.blocks, 1, p.header.pass, 0,
        inc.slice + (p.slices.map RxItem.span).sum, (joinedBytes 0 p.slices).length, inc.letter,
        if p.header.count ≤ inc.slice + (p.slices.map RxItem.span).sum then none else some .transfer⟩
      (joinedBytes 0 p.slices) (movedOn c p) v
      (v.repackInto inc (Segment.lowestFrom 0 (s.sealOwned inc.letter).seg.blocks) p) ∧
    (v.repackInto inc (Segment.lowestFrom 0 (s.sealOwned inc.letter).seg.blocks) p).seg.poolFree = v.seg.poolFree - 1 := by
  obtain ⟨hpos, hcount⟩ := hchecked.header hslice
  have hsum := hchecked.count
  have hused : s.usedBy inc = (0, false) := by rw [usedBy, if_pos hslice]
  have hfits := hchecked.fits
  have hfirst : (inc.slice == 0) = true := by simpa using hslice
  rw [hused] at hfits
  obtain ⟨it, items, hp⟩ := List.exists_cons_of_ne_nil hslices
  have hwhole := hchecked.whole
  rw [hp] at hwhole hfits
  have hspan : ((it :: items).map RxItem.span).sum ≤ 250 := by
    rw [← hp]
    omega
  obtain ⟨n, hitems, hpool⟩ := writeItems_placed (v := v) (i := inc.letter) (x := x) (by rw [hblock.letters]; exact hx)
    hblock.found rfl (by unfold MemoryCanonical; rw [hblock.mem]; exact hwf) hwhole hspan hfits p.header
  have hlen := hitems.length
  dsimp only at hlen
  subst hlen
  rw [← hp] at hitems hpool
  have hw : inc.slice + (p.slices.map RxItem.span).sum = (p.slices.map RxItem.span).sum := by rw [hslice, Nat.zero_add]
  obtain ⟨hdone, hdonePool⟩ := positionMoved (inc := inc) (p := p) (c := c) (v := v) (by rw [hblock.xfer]; exact hinc) hsame
    (by rw [hfirst]; exact hitems) (fun _ => Nat.succ_ne_zero _)
  rw [hfirst] at hdonePool
  refine ⟨?_, hdonePool.trans hpool⟩
  simp only [Nat.zero_add] at hdone
  rw [hw] at hdone ⊢
  exact hdone

/-- A header alone writes nothing, and its block stays open (log 18). -/
theorem repackInto_nothing (hnothing : p.slices = []) (hslice : inc.slice = 0) (hpos : 1 ≤ p.header.count) (n : Nat)
    (hinc : v.xfer.incoming = some c) (hsame : c.slice = inc.slice) :
    v.repackInto inc n p = { v with xfer := { v.xfer with incoming := some (movedOn c p) } } := by
  have hnot : ¬p.header.count ≤ inc.slice + 0 := by omega
  simp only [repackInto, hnothing, writeItems, List.map_nil, List.sum_nil, if_neg hnot, decide_eq_false hnot, when_false, onXfer,
    hinc, Option.map_some, List.foldl_nil, movedOn, hsame]
  simp

/-! ### A later frame of a record (R163) -/

theorem repack_later (hitems : d.items ≠ 0) (hslice : 0 < inc.slice) (hblock : s.repackBlock inc.letter = some b) :
    s.repack inc d p = s.repackInto inc b.num p := by
  have hnot : ¬inc.slice = 0 := by omega
  simp only [repack, if_neg hitems, if_neg hnot, hblock]

theorem repackInto_goesOn (hwf : s.MemoryCanonical) (hx : s.letters[inc.letter] = some x) (hinc : s.xfer.incoming = some c)
    (hsame : c.slice = inc.slice) (hslice : 0 < inc.slice) (hchecked : FrameChecked s inc p)
    (hblock : s.repackBlock inc.letter = some b) (hchain : x.chain = front ++ [r]) (hwalk : s.WalkWhole b)
    (hspans : ((s.seg.records b).map (·.span)).sum = inc.slice) (hcount : p.header.count ≤ 250) (hrefs : b.refs ≠ 0)
    (htail : ∀ q, s.seg.trailingSilence b = some q → 0 < q.span ∧ s.seg.bytesOf b q = silenceRecord q.span) :
    ∃ n, FrameWritten inc.letter
        { x with chain := front ++ [{ r with count := r.count + (p.slices.map RxItem.span).sum }] } b.num
        { b with
          slices := b.slices + (p.slices.map RxItem.span).sum
          bytes := n
          filler := if p.header.count ≤ inc.slice + (p.slices.map RxItem.span).sum then none else b.filler }
        (Memory.readBytes s.seg.mem (b.num * 1024) ((s.seg.trailingSilence b).elim b.bytes (·.offset)) ++
          joinedBytes ((s.seg.trailingSilence b).elim 0 (·.span)) p.slices) (movedOn c p) s (s.repackInto inc b.num p) ∧
      (s.repackInto inc b.num p).seg.poolFree = s.seg.poolFree := by
  have hnot : ¬inc.slice = 0 := by omega
  have hlater : (inc.slice == 0) = false := by simpa using hnot
  have hsum := hchecked.count
  have hused : s.usedBy inc = (b.bytes, (s.seg.trailingSilence b).isSome) := by
    rw [usedBy, if_neg hnot, hblock]
  have hfits := hchecked.fits
  rw [hused] at hfits
  have hspan : ∀ q, s.seg.trailingSilence b = some q → q.span ≤ inc.slice := by
    intro q hq
    rw [Segment.trailingSilence] at hq
    obtain ⟨hlast, -⟩ := Option.filter_eq_some_iff.mp hq
    rw [← hspans]
    exact List.le_sum_of_mem (List.mem_map_of_mem (List.mem_of_getLast? hlast))
  have htail' : ∀ q, s.seg.trailingSilence b = some q →
      0 < q.span ∧ q.span ≤ 250 ∧ s.seg.bytesOf b q = silenceRecord q.span := by
    intro q hq
    obtain ⟨hpos, hbytes⟩ := htail q hq
    have := hspan q hq
    exact ⟨hpos, by omega, hbytes⟩
  obtain ⟨rs, hhold⟩ := holding_of_walk (repackBlock_found hblock) hwalk htail'
  have hsmall : (s.seg.trailingSilence b).elim 0 (·.span) + (p.slices.map RxItem.span).sum ≤ 250 := by
    cases hq : s.seg.trailingSilence b with
    | none =>
      rw [Option.elim_none]
      omega
    | some q =>
      have := hspan q hq
      rw [Option.elim_some]
      omega
  have hsilent : decide ((s.seg.trailingSilence b).elim 0 (·.span) ≠ 0) = (s.seg.trailingSilence b).isSome := by
    cases hq : s.seg.trailingSilence b with
    | none => rfl
    | some q =>
      obtain ⟨hpos, -⟩ := htail q hq
      exact decide_eq_true (Nat.pos_iff_ne_zero.mp hpos)
  obtain ⟨n, hitems, hpool⟩ := writeItems_grown hx hchain hhold hwf hchecked.whole hsmall (by rw [hsilent]; exact hfits) p.header
  rw [← hlater] at hitems hpool
  obtain ⟨hdone, hdonePool⟩ := positionMoved hinc hsame hitems (fun _ => hrefs)
  exact ⟨n, hdone, hdonePool.trans hpool⟩

/-! ### The row, settled -/

theorem restartReceive_eq (hinc : s.xfer.incoming = some inc) : s.restartReceive = { s with
    xfer := { s.xfer with incoming := some { inc with timer := 500 } }, reports := s.restartReceive.reports } := by
  rw [← restartReceive_xfer hinc]
  rfl

theorem letters_eq_of_others (hx : s.letters[i] = some x) (ht : t.letters[i] = some x) (h : OtherLetters i s t) :
    t.letters = s.letters := by
  refine Vector.ext fun j hj => ?_
  by_cases hij : (⟨j, hj⟩ : LetterIx) = i
  · subst hij
    exact ht.trans hx.symm
  · exact h ⟨j, hj⟩ hij

/-- The station `r` is `s` with the receive timer of its transfer started again. -/
structure Restarted (s : State) (inc : Incoming) (r : State) : Prop where
  rest : r = { s with xfer := r.xfer, reports := r.reports }
  xfer : r.xfer = { s.xfer with incoming := some { inc with timer := 500 } }

/-- A record's first frame with room for it (R37, R48). -/
theorem firstFrame_taken {r : State} (hr : Restarted s inc r) (hchecked : FrameChecked r inc p)
    (hx : s.letters[inc.letter] = some x) (hwf : s.MemoryCanonical) (hrise : s.TableRising) (hzero : inc.slice = 0)
    (hpool : 0 < s.seg.poolFree) {n : Nat}
    (hn : n = Segment.lowestFrom 0 (s.sealOwned inc.letter).seg.blocks)
    (ht : t = (r.firstBlock inc p).repackInto inc n p) :
    ∃ e, t.xfer = { s.xfer with incoming := some (movedOn { inc with timer := 500 } p) } ∧ t.seg.find n = some e ∧
      (p.slices ≠ [] →
        t.letters[inc.letter] = some { x with chain := x.chain ++ [⟨n, 0, inc.slice + (p.slices.map RxItem.span).sum,
          p.header.pass, p.header.kind⟩] } ∧ t.seg.poolFree + 1 = s.seg.poolFree ∧
        e = ⟨n, 1, p.header.pass, 0, inc.slice + (p.slices.map RxItem.span).sum, (joinedBytes 0 p.slices).length, inc.letter,
          if p.header.count ≤ inc.slice + (p.slices.map RxItem.span).sum then none else some .transfer⟩ ∧
        Memory.readBytes t.seg.mem (n * 1024) e.bytes = joinedBytes 0 p.slices) ∧
      (p.slices = [] → t.letters = s.letters ∧ t.seg.poolFree = s.seg.poolFree ∧
        e = ⟨n, 0, p.header.pass, 0, 0, 0, inc.letter, some .transfer⟩ ∧ SameBytes s t) ∧
      OtherBlocks n s t ∧ OtherLetters inc.letter s t ∧ SameLines s t ∧ t.nums = s.nums := by
  obtain ⟨hrest, hxfer⟩ := hr
  have hseg : r.seg = s.seg := by rw [hrest]
  have hletters : r.letters = s.letters := by rw [hrest]
  have hnums : r.nums = s.nums := by rw [hrest]
  have hlines : SameLines s r := by rw [hrest]; exact ⟨rfl, rfl, rfl, rfl⟩
  have hrinc : r.xfer.incoming = some { inc with timer := 500 } := by rw [hxfer]
  have hrx : r.letters[inc.letter] = some x := by rw [hletters]; exact hx
  have hrwf : r.MemoryCanonical := by unfold MemoryCanonical; rw [hseg]; exact hwf
  have hseal : Segment.lowestFrom 0 (r.sealOwned inc.letter).seg.blocks = n := by
    rw [hn, hrest, sealOwned_moved]
  have hblock := firstBlock_has (s := r) (by unfold TableRising; rw [hseg]; exact hrise) inc p
  obtain ⟨hpos, -⟩ := hchecked.header hzero
  have hvinc : (r.firstBlock inc p).xfer.incoming = some { inc with timer := 500 } := by rw [hblock.xfer, hrinc]
  by_cases hslices : p.slices = []
  · rw [repackInto_nothing hslices hzero hpos n hvinc rfl] at ht
    have hfound := hblock.found
    rw [hseal] at hfound
    subst ht
    refine ⟨_, ?_, hfound, fun hne => absurd hslices hne, fun _ => ⟨?_, ?_, rfl, fun a => ?_⟩, fun a _ => ?_, fun j _ => ?_, ?_, ?_⟩
    · dsimp only
      rw [hblock.xfer, hxfer]
    · exact hblock.letters.trans hletters
    · exact hblock.pool.trans (congrArg Segment.poolFree hseg)
    · exact congrArg (Memory.read · a) (hblock.mem.trans (congrArg Segment.mem hseg))
    · exact congrArg (Memory.read · a) (hblock.mem.trans (congrArg Segment.mem hseg))
    · exact congrArg (fun ls => ls[j]) (hblock.letters.trans hletters)
    · exact hlines.trans hblock.lines
    · exact hblock.nums.trans hnums
  · obtain ⟨hdone, hdonePool⟩ := repackInto_begins hblock hrwf hrx hrinc rfl hzero hchecked hslices
    rw [hseal, ← ht] at hdone hdonePool
    refine ⟨_, ?_, hdone.found, fun _ => ⟨hdone.letter, ?_, rfl, hdone.content⟩, fun hnone => absurd hnone hslices,
      fun a ha => ?_, fun j hj => ?_, hlines.trans (hblock.lines.trans hdone.lines), ?_⟩
    · rw [hdone.xfer, hblock.xfer, hxfer]
    · rw [hdonePool, hblock.pool, hseg]
      omega
    · exact (hdone.outside a ha).trans (congrArg (Memory.read · a) (hblock.mem.trans (congrArg Segment.mem hseg)))
    · exact (hdone.others j hj).trans (congrArg (fun ls => ls[j]) (hblock.letters.trans hletters))
    · exact hdone.nums.trans (hblock.nums.trans hnums)

/-- Settles O43: by the frame's position, then by its items, then by the room for its record. -/
theorem transferDataTaken : Obligations.TransferDataTaken := by
  unfold Obligations.TransferDataTaken
  intro s sender d inc snap x hact hroom hrise hwf hof hsnap hx
  obtain ⟨hinc, -, -⟩ := incomingOf_eq_some.mp hof
  have hexec := exec_transferData hact hof hsnap
  have hok : s.bus.accepts = true := Bus.accepts_of_room hroom
  obtain ⟨r, hr⟩ : ∃ r, r = (s.taken (.transferData sender d)).restartReceive := ⟨_, rfl⟩
  have hrec := restartReceive_eq (s := s.taken (.transferData sender d)) hinc
  rw [← hr] at hrec
  have hrinc : r.xfer.incoming = some { inc with timer := 500 } := by rw [hrec]
  have hat : inc.record = d.record → inc.slice = d.slice → exec (.transferData sender d) s =
      .next ((s.checkItems snap inc d).elim (r.incomingFail (some .check) .check) (r.repack inc d)) := by
    intro hrecord hslice
    rw [hexec, takeData_at hrecord hslice, ← hr]
    rfl
  refine ⟨fun hcase => ?failed, fun hcase => ?repeated, fun p hrecord hslice hcheck hitems => ?taken⟩
  case failed =>
    have hpast : inc.record < d.record ∨ (inc.record = d.record ∧ inc.slice < d.slice) →
        ∃ t, exec (.transferData sender d) s = .next t ∧ TransferFailed inc x s t ∧
          t.InQueue inc.giver (.fetchCancel inc.number .check) := by
      intro h
      rw [takeData_past h] at hexec
      have hinc' : (s.taken (.transferData sender d)).xfer.incoming = some inc := hinc
      exact ⟨_, hexec, incomingFail_failed hinc' hx (some .check) .check, incomingFail_cancels hinc' hok .check .check⟩
    rcases hcase with h | h | ⟨hrecord, hslice, hcheck⟩
    · exact hpast (.inl h)
    · exact hpast (.inr h)
    · have hexec' := hat hrecord hslice
      rw [hcheck] at hexec'
      have hfailed := incomingFail_failed (s := r) (x := x) hrinc (by rw [hrec]; exact hx) (some .check) .check
      have hcancels := incomingFail_cancels (s := r) hrinc (by rw [hrec]; exact hok) .check .check
      rw [hrec] at hfailed hcancels hexec'
      exact ⟨_, hexec', hfailed, hcancels⟩
  case repeated =>
    have hdone : ∀ t, exec (.transferData sender d) s = .next t → t = r → ∃ t, exec (.transferData sender d) s = .next t ∧
        t.xfer = { s.xfer with incoming := some { inc with timer := 500 } } ∧ t.letters = s.letters ∧ SameLines s t ∧
        t.seg = s.seg ∧ t.bus = s.bus := by
      rintro t ht rfl
      refine ⟨_, ht, ?_⟩
      rw [hrec]
      exact ⟨rfl, rfl, ⟨rfl, rfl, rfl, rfl⟩, rfl, rfl⟩
    have hbefore : d.record < inc.record ∨ (d.record = inc.record ∧ d.slice < inc.slice) →
        exec (.transferData sender d) s = .next r := fun h => by rw [hexec, takeData_before h, ← hr]
    rcases hcase with h | ⟨hrecord, hslice⟩ | ⟨hrecord, hslice, hcheck, hitems⟩
    · exact hdone r (hbefore (.inl h)) rfl
    · exact hdone r (hbefore (.inr ⟨hrecord.symm, hslice⟩)) rfl
    · obtain ⟨p, hp⟩ := Option.ne_none_iff_exists'.mp hcheck
      have hexec' := hat hrecord hslice
      rw [hp] at hexec'
      exact hdone r (hexec'.trans (congrArg Host.Outcome.next (if_pos hitems))) rfl
  case taken =>
    have hexec' := hat hrecord hslice
    rw [hcheck] at hexec'
    change exec (.transferData sender d) s = .next (r.repack inc d p) at hexec'
    have hchecked : FrameChecked r inc p := by
      have hspec := checkItems_spec hcheck hitems
      rw [hrec]
      exact ⟨hspec.whole, hspec.count, hspec.fits, hspec.header⟩
    have hrestarted : Restarted s inc r := by
      rw [hrec]
      exact ⟨rfl, rfl⟩
    intro written full after
    refine ⟨fun u hu hzero => ⟨fun hpool hmay => ?begins, fun hlacks => ?noRoom, fun hsealed => ?sealed⟩,
      fun b front q hpos hblock hchain hwalk hspans hcount hrefs htail => ?goesOn⟩
    case sealed => rw [hu, sealOwned_of_none hsealed]
    case begins =>
      subst hu
      have hseal : r.sealOwned inc.letter = { s.sealOwned inc.letter with xfer := r.xfer, reports := r.reports } := by
        rw [hrec]
        exact sealOwned_moved s inc.letter _ _
      have hroom' : 0 < (r.sealOwned inc.letter).seg.poolFree ∧ (r.sealOwned inc.letter).transferMayTake = true := by
        rw [hseal]
        exact ⟨hpool, hmay⟩
      rw [repack_first hitems hzero, if_pos hroom', hseal] at hexec'
      rw [sealOwned_poolFree] at hpool
      exact ⟨_, (firstFrame_taken hrestarted hchecked hx hwf hrise hzero hpool rfl rfl).imp fun e he => ⟨hexec', he⟩⟩
    case noRoom =>
      subst hu
      have hseal : r.sealOwned inc.letter = { s.sealOwned inc.letter with xfer := r.xfer, reports := r.reports } := by
        rw [hrec]
        exact sealOwned_moved s inc.letter _ _
      have hnot : ¬(0 < (r.sealOwned inc.letter).seg.poolFree ∧ (r.sealOwned inc.letter).transferMayTake = true) := by
        rw [hseal]
        rintro ⟨hpos, hmay⟩
        rcases hlacks with h | h
        · exact absurd hpos (by rw [h]; exact Nat.lt_irrefl 0)
        · exact absurd (hmay.symm.trans h) (by decide)
      rw [repack_first hitems hzero, if_neg hnot] at hexec'
      obtain ⟨hshrinks, honly, hmem⟩ := sealOwned_work r inc.letter
      have hrx : (r.sealOwned inc.letter).letters[inc.letter] = some x := by
        rw [honly, hrec]
        exact hx
      have hinc' : (r.sealOwned inc.letter).xfer.incoming = some { inc with timer := 500 } := by rw [honly, hrinc]
      have hok' : (r.sealOwned inc.letter).bus.accepts = true := hshrinks.raises.accepts (by rw [hrec]; exact hok)
      have hfailed := (incomingFail_failed hinc' hrx (some .noMemory) .noMemory).of_sealed honly hmem (sealOwned_poolFree r _)
      have hcancels := incomingFail_cancels hinc' hok' .noMemory .noMemory
      refine ⟨_, hexec', ?_, hcancels⟩
      rw [hrec] at hfailed ⊢
      exact hfailed
    case goesOn =>
      have hrx : r.letters[inc.letter] = some x := by rw [hrec]; exact hx
      have hrwf : r.MemoryCanonical := by rw [hrec]; exact hwf
      have hrblock : r.repackBlock inc.letter = some b := by rw [hrec]; exact hblock
      rw [repack_later hitems hpos hrblock] at hexec'
      obtain ⟨n, hdone, hpool⟩ := repackInto_goesOn (s := r) hrwf hrx hrinc rfl hpos hchecked hrblock hchain
        (by rw [hrec]; exact hwalk) (by rw [hrec]; exact hspans) hcount hrefs (by rw [hrec]; exact htail)
      generalize r.repackInto inc b.num p = t at hexec' hdone hpool
      rw [hrec] at hdone hpool
      refine ⟨t, _, hexec', hdone.xfer, hdone.letter, hdone.found, rfl, ?_, hpool, hdone.outside, hdone.others, hdone.lines,
        hdone.nums⟩
      rw [hdone.content]
      change Memory.readBytes s.seg.mem (b.num * 1024) ((s.seg.trailingSilence b).elim b.bytes (·.offset)) ++
        joinedBytes ((s.seg.trailingSilence b).elim 0 (·.span)) p.slices = _
      cases s.seg.trailingSilence b <;> rfl

end Sys2Proof.Machine.State
end

section
/-! The head of the Delivery Queue (R30). -/

namespace Sys2Proof.Machine

variable {x y z : Letter}

/-! ### The queue's order (R30) -/

theorem before_iff (x y : Letter) : x.before y = true ↔
    (x.priority = .urgent ∧ y.priority = .normal) ∨ (x.priority = y.priority ∧ x.number < y.number) := by
  simp [Letter.before]

theorem before_asymm (h : x.before y = true) : ¬y.before x = true := by
  rw [before_iff] at h ⊢
  rintro (⟨hy, hx⟩ | ⟨heq, hlt⟩) <;> rcases h with ⟨kx, ky⟩ | ⟨keq, klt⟩
  · rw [hy] at ky
    cases ky
  · rw [hy, hx] at keq
    cases keq
  · rw [kx, ky] at heq
    cases heq
  · omega

/-- Two letters that stand no earlier than a third and its successor keep their order. -/
theorem not_before_trans (h : ¬x.before y = true) (k : ¬y.before z = true) : ¬x.before z = true := by
  rw [before_iff, not_or] at h k ⊢
  obtain ⟨hpri, hnum⟩ := h
  obtain ⟨kpri, knum⟩ := k
  refine ⟨fun ⟨hx, hz⟩ => ?_, fun ⟨heq, hlt⟩ => ?_⟩
  · cases hy : y.priority with
    | normal => exact hpri ⟨hx, hy⟩
    | urgent => exact kpri ⟨hy, hz⟩
  · by_cases hxy : x.priority = y.priority
    · have hle : ¬x.number < y.number := fun hlt => hnum ⟨hxy, hlt⟩
      have hle' : ¬y.number < z.number := fun hlt => knum ⟨hxy.symm.trans heq, hlt⟩
      omega
    · cases hx : x.priority with
      | normal =>
        cases hy : y.priority with
        | normal => exact hxy (hx.trans hy.symm)
        | urgent => exact kpri ⟨hy, heq.symm.trans hx⟩
      | urgent =>
        cases hy : y.priority with
        | normal => exact hpri ⟨hx, hy⟩
        | urgent => exact hxy (hx.trans hy.symm)

namespace State

variable {s t : State} {i j k : LetterIx} {best : Option LetterIx} {D : LetterIx → Prop}

/-! ### The head, by what it precedes -/

/-- Entry `j` stands in the queue, before every other entry of `D` there. -/
def LeadsIn (s : State) (D : LetterIx → Prop) (j : LetterIx) : Prop :=
  D j ∧ ∃ y, s.letters[j] = some y ∧ y.queued = true ∧
    ∀ (k : LetterIx) (z : Letter), D k → s.letters[k] = some z → z.queued = true → ¬z.before y = true ∧ (j < k → y.before z = true)

/-- The best of the entries looked at. -/
def BestIn (s : State) (D : LetterIx → Prop) (best : Option LetterIx) : Prop :=
  match best with
  | none => ∀ (k : LetterIx) (z : Letter), D k → s.letters[k] = some z → ¬z.queued = true
  | some j => s.LeadsIn D j

theorem earlier_best (h : s.BestIn D best) (hi : ∀ k, D k → k < i) :
    s.BestIn (fun k => D k ∨ k = i) (s.earlier best i) := by
  have hkeep : (∀ x, s.letters[i] = some x → ¬x.queued = true) → s.BestIn (fun k => D k ∨ k = i) best := by
    intro hnot
    cases best with
    | none =>
      rintro k z (hk | rfl) hz
      · exact h k z hk hz
      · exact hnot z hz
    | some j =>
      obtain ⟨hj, y, hy, hqueued, hleads⟩ := h
      refine ⟨.inl hj, y, hy, hqueued, ?_⟩
      rintro k z (hk | rfl) hz hzq
      · exact hleads k z hk hz hzq
      · exact absurd hzq (hnot z hz)
  unfold earlier
  cases hx : s.letters[i] with
  | none => exact hkeep fun x h => by rw [hx] at h; cases h
  | some x =>
    dsimp only
    by_cases hqueued : x.queued = true
    case neg =>
      rw [if_neg hqueued]
      exact hkeep fun z hz => by
        rw [hx] at hz
        cases hz
        exact hqueued
    case pos =>
      rw [if_pos hqueued]
      cases best with
      | none =>
        refine ⟨.inr rfl, x, hx, hqueued, ?_⟩
        rintro k z (hk | rfl) hz hzq
        · exact absurd hzq (h k z hk hz)
        · rw [hx] at hz
          cases hz
          exact ⟨fun hb => before_asymm hb hb, fun hlt => absurd hlt (lt_irrefl _)⟩
      | some j =>
        obtain ⟨hj, y, hy, hyq, hleads⟩ := h
        dsimp only
        have hany : s.letters[j].any (·.before x) = y.before x := by rw [hy]; rfl
        rw [hany]
        by_cases hbefore : y.before x = true
        · rw [if_pos hbefore]
          refine ⟨.inl hj, y, hy, hyq, ?_⟩
          rintro k z (hk | rfl) hz hzq
          · exact hleads k z hk hz hzq
          · rw [hx] at hz
            cases hz
            exact ⟨before_asymm hbefore, fun _ => hbefore⟩
        · rw [if_neg hbefore]
          refine ⟨.inr rfl, x, hx, hqueued, ?_⟩
          rintro k z (hk | rfl) hz hzq
          · obtain ⟨hnot, -⟩ := hleads k z hk hz hzq
            exact ⟨not_before_trans hnot hbefore, fun hlt => absurd (hi k hk) (lt_asymm hlt)⟩
          · rw [hx] at hz
            cases hz
            exact ⟨fun hb => before_asymm hb hb, fun hlt => absurd hlt (lt_irrefl _)⟩

theorem foldl_earlier_best (is : List LetterIx) (hsorted : is.Pairwise (· < ·)) (h : s.BestIn D best)
    (hlow : ∀ k, D k → ∀ i ∈ is, k < i) : s.BestIn (fun k => D k ∨ k ∈ is) (is.foldl s.earlier best) := by
  induction is generalizing D best with
  | nil =>
    have hsame : (fun k => D k ∨ k ∈ ([] : List LetterIx)) = D := by simp
    rw [hsame]
    exact h
  | cons i is ih =>
    obtain ⟨hi, hrest⟩ := List.pairwise_cons.mp hsorted
    have hstep := earlier_best h fun k hk => hlow k hk i (by simp)
    have hall := ih hrest hstep (by
      rintro k (hk | rfl) m hm
      · exact hlow k hk m (by simp [hm])
      · exact hi m hm)
    have hsame : (fun k => (D k ∨ k = i) ∨ k ∈ is) = fun k => D k ∨ k ∈ i :: is := by
      funext k
      simp [or_assoc]
    rw [hsame] at hall
    exact hall

theorem queueHead_best (s : State) : s.BestIn (fun _ => True) s.queueHead := by
  have hall := foldl_earlier_best (s := s) (D := fun _ => False) (best := none) allLetters
    (List.pairwise_lt_finRange 64) (fun _ _ hk => hk.elim) (fun _ hk => hk.elim)
  have hsame : (fun k => False ∨ k ∈ allLetters) = fun _ => True := by
    funext k
    simp [allLetters]
  rw [hsame] at hall
  exact hall

theorem leadsIn_unique (hi : s.LeadsIn D i) (hj : s.LeadsIn D j) : i = j := by
  obtain ⟨hDi, x, hx, hxq, hileads⟩ := hi
  obtain ⟨hDj, y, hy, hyq, hjleads⟩ := hj
  obtain ⟨hnot, hlater⟩ := hileads j y hDj hy hyq
  obtain ⟨knot, klater⟩ := hjleads i x hDi hx hxq
  rcases lt_trichotomy i j with hlt | heq | hgt
  · exact absurd (hlater hlt) knot
  · exact heq
  · exact absurd (klater hgt) hnot

theorem queueHead_eq_some : s.queueHead = some j ↔ s.LeadsIn (fun _ => True) j := by
  have hbest := queueHead_best s
  constructor
  · intro h
    rw [h] at hbest
    exact hbest
  · intro h
    cases hhead : s.queueHead with
    | none =>
      obtain ⟨-, y, hy, hyq, -⟩ := h
      rw [hhead] at hbest
      exact absurd hyq (hbest j y trivial hy)
    | some i =>
      rw [hhead] at hbest
      have hlead : s.LeadsIn (fun _ => True) i := hbest
      rw [leadsIn_unique hlead h]

theorem queueHead_eq_none : s.queueHead = none ↔ ∀ (k : LetterIx) (z : Letter), s.letters[k] = some z → ¬z.queued = true := by
  have hbest := queueHead_best s
  constructor
  · intro h k z hz
    rw [h] at hbest
    exact hbest k z trivial hz
  · intro h
    cases hhead : s.queueHead with
    | none => rfl
    | some i =>
      rw [hhead] at hbest
      obtain ⟨-, y, hy, hyq, -⟩ := hbest
      exact absurd hyq (h i y hy)

/-- The head stays the head where letters leave the queue and it does not. -/
theorem queueHead_of_fewer (h : s.queueHead = some j) (hj : t.letters[j] = s.letters[j])
    (hfewer : ∀ (k : LetterIx) (z : Letter), t.letters[k] = some z → z.queued = true → s.letters[k] = some z) :
    t.queueHead = some j := by
  obtain ⟨-, y, hy, hyq, hleads⟩ := queueHead_eq_some.mp h
  exact queueHead_eq_some.mpr ⟨trivial, y, hj.trans hy, hyq, fun k z _ hz hzq => hleads k z trivial (hfewer k z hz hzq) hzq⟩

/-- The only letter of the queue is its head. -/
theorem queueHead_of_only {x : Letter} (hx : s.letters[i] = some x) (hq : x.queued = true)
    (honly : ∀ (k : LetterIx) (z : Letter), k ≠ i → s.letters[k] = some z → ¬z.queued = true) : s.queueHead = some i := by
  refine queueHead_eq_some.mpr ⟨trivial, x, hx, hq, fun k z _ hz hzq => ?_⟩
  by_cases hk : k = i
  · subst hk
    rw [hx] at hz
    cases hz
    exact ⟨fun hb => before_asymm hb hb, fun hlt => absurd hlt (lt_irrefl _)⟩
  · exact absurd hzq (honly k z hk hz)

theorem queueHead_queued (h : s.queueHead = some j) : ∃ y, s.letters[j] = some y ∧ y.queued = true := by
  obtain ⟨-, y, hy, hyq, -⟩ := queueHead_eq_some.mp h
  exact ⟨y, hy, hyq⟩

end State

end Sys2Proof.Machine
end

section
/-! The delivery engine's operations, one equation each (R174, R176, R178, R185, R186). -/

namespace Sys2Proof.Machine.State

variable {s t u : State} {i j : LetterIx} {a : Machine.Active} {x y : Letter} {p q : Progress} {st : Station} {name : Nat}

/-! ### The active delivery -/

theorem activeOf_eq_some : s.activeOf = some (a, x, p) ↔
    s.deliv.active = some a ∧ s.letters[a.letter] = some x ∧ x.progress = some p := by
  unfold activeOf
  constructor
  · intro h
    obtain ⟨b, hb, h⟩ := Option.bind_eq_some_iff.mp h
    obtain ⟨y, hy, h⟩ := Option.bind_eq_some_iff.mp h
    obtain ⟨r, hr, h⟩ := Option.map_eq_some_iff.mp h
    simp only [Prod.mk.injEq] at h
    obtain ⟨rfl, rfl, rfl⟩ := h
    exact ⟨hb, hy, hr⟩
  · rintro ⟨ha, hx, hp⟩
    rw [ha, Option.bind_some, hx, Option.bind_some, hp]
    rfl

/-- The station with the next frame of its delivery offered (R178). -/
def withFrame (s : State) (f : QFrame) : State :=
  { s with bus := { s.bus with link := { s.bus.link with offDelivery := some f } } }

/-- The station with no delivery frame offered (R131). -/
def withoutFrame (s : State) : State := { s with bus := { s.bus with link := { s.bus.link with offDelivery := none } } }

theorem offerDelivery_of (h : s.activeOf = some (a, x, p)) (hphase : a.phase = .streaming) :
    s.offerDelivery = s.withFrame (s.deliveryFrame a x p) := by
  simp only [offerDelivery, h, hphase, if_true]
  rfl

theorem onActive_deliv (h : s.deliv.active = some a) (f : Machine.Active → Machine.Active) :
    (s.onActive f).deliv = { s.deliv with active := some (f a) } := by
  change ({ s.deliv with active := s.deliv.active.map f } : Delivery) = _
  rw [h]
  rfl

theorem setPhase_deliv (h : s.deliv.active = some a) (ph : DeliveryPhase) (timer : Option Nat) :
    (s.setPhase ph timer).deliv = { s.deliv with active := some { a with phase := ph, timer := timer } } :=
  onActive_deliv (s := (s.cancel .offerAnswerTimeout).cancel .letterEndAnswerTimeout) h _

/-! ### What a delivery can start with (R174) -/

theorem startable_eq_some : s.startable = some (j, st) ↔
    s.Active ∧ s.isDetached = false ∧ s.deliv.retry = none ∧ s.queueHead = some j ∧ s.chooseFiling = some st := by
  unfold startable
  split
  case isTrue h =>
    obtain ⟨hact, hattached, hretry⟩ := h
    have hact' : s.Active := by simpa [isActive] using hact
    rw [Option.bind_eq_some_iff]
    constructor
    · rintro ⟨k, hk, hmap⟩
      obtain ⟨st', hst, heq⟩ := Option.map_eq_some_iff.mp hmap
      cases heq
      exact ⟨hact', hattached, hretry, hk, hst⟩
    · rintro ⟨-, -, -, hj, hst⟩
      exact ⟨j, hj, by rw [hst]; rfl⟩
  case isFalse h =>
    constructor
    · intro hnone
      cases hnone
    · rintro ⟨hact, hattached, hretry, -⟩
      exact absurd ⟨isActive_of hact, hattached, hretry⟩ h

theorem startable_eq_none (h : ¬s.Active ∨ s.isDetached = true ∨ s.deliv.retry ≠ none ∨ s.queueHead = none ∨
    s.chooseFiling = none) : s.startable = none := by
  cases hstart : s.startable with
  | none => rfl
  | some e =>
    obtain ⟨hact, hattached, hretry, hhead, hfiling⟩ := startable_eq_some.mp hstart
    rcases h with h | h | h | h | h
    · exact absurd hact h
    · rw [hattached] at h
      cases h
    · exact absurd hretry h
    · rw [hhead] at h
      cases h
    · rw [hfiling] at h
      cases h

theorem isUrgent_of (hx : s.letters[i] = some x) : s.isUrgent i = true ↔ x.priority = .urgent := by
  rw [isUrgent, hx]
  simp

/-! ### A letter offered (R176) -/

/-- A letter has been offered to a filing station: its Offer waits at the link. -/
structure Offered (i : LetterIx) (x : Letter) (st : Station) (s t : State) : Prop where
  letter : t.letters[i] = some { x with progress := some ⟨0, 0, 0xFFFFFFFF#32, st, none⟩ }
  others : OtherLetters i s t
  deliv : t.deliv = { s.deliv with active := some ⟨i, s.streamId, .offered, none, false, false, none⟩ }
  bus : t.bus = s.bus.push ⟨st, .offer (s.offerBody x), s.streamId⟩
  streamId : t.streamId = s.streamId + 1
  only : OnlyDeliv s t

theorem offerLetter_offered (hx : s.letters[i] = some x) (hroom : s.HasRoom) (st : Station) :
    Offered i x st s (s.offerLetter i st) := by
  have hok : s.bus.accepts = true := Bus.accepts_of_room hroom
  obtain ⟨hletter, hothers⟩ := onLetter_spec hx fun y => { y with progress := some ⟨0, 0, crc32Start, st, none⟩ }
  rw [offerLetter_eq hx, if_pos hok]
  exact ⟨hletter, hothers, rfl, onBus_place_of_room (s := s.offering i st) hroom _, rfl, rfl⟩

theorem Offered.justOffered (h : Offered i x st s t) : JustOffered i st s.streamId t := by
  refine ⟨by rw [h.deliv], _, h.letter, rfl, ?_⟩
  have hbody : t.offerBody { x with progress := some ⟨0, 0, 0xFFFFFFFF#32, st, none⟩ } = s.offerBody x := by
    simp only [offerBody, h.only.seg]
    rfl
  rw [hbody, h.bus]
  simp

/-! ### A delivery suspended and resumed (R185, R186) -/

theorem suspendNow_of (h : s.deliv.active = some a) : s.suspendNow = { s.withoutFrame with
    letters := (s.onLetter a.letter fun x => { x with state := .suspended }).letters
    deliv := { s.deliv with active := none, suspended := some (a.letter, a.name) } } := by
  simp only [suspendNow, h]
  rfl

/-- A suspended delivery is the active one again, and its letter DELIVERING. -/
structure Resumed (i : LetterIx) (name : Nat) (y : Letter) (s t : State) : Prop where
  letter : t.letters[i] = some { y with state := .delivering }
  others : OtherLetters i s t
  deliv : t.deliv = { s.deliv with
    suspended := none, active := some ⟨i, name, .streaming, none, false, true, none⟩ }
  bus : ∀ q, y.progress = some q → t.bus = (s.withFrame (s.deliveryFrame ⟨i, name, .streaming, none, false, true, none⟩
    { y with state := .delivering } q)).bus
  ctl : t.bus.ctl = s.bus.ctl
  control : t.bus.link.control = s.bus.link.control
  current : t.bus.link.current = s.bus.link.current
  streamId : t.streamId = s.streamId
  only : OnlyDeliv s t

theorem offerDelivery_same (s : State) : ∃ f, s.offerDelivery = { s with
    bus := { s.bus with link := { s.bus.link with offDelivery := f } } } := by
  unfold offerDelivery
  split
  · split
    · exact ⟨_, rfl⟩
    · exact ⟨_, rfl⟩
  · exact ⟨_, rfl⟩

theorem resumeSuspended_resumed (hsuspended : s.deliv.suspended = some (i, name)) (hy : s.letters[i] = some y) :
    Resumed i name y s s.resumeSuspended := by
  obtain ⟨u, hu⟩ : ∃ u, u = (s.onLetter i fun x => { x with state := .delivering }).onDeliv fun d =>
    { d with suspended := none, active := some ⟨i, name, .streaming, none, false, true, none⟩ } := ⟨_, rfl⟩
  have heq : s.resumeSuspended = u.offerDelivery := by
    rw [hu]
    simp only [resumeSuspended, hsuspended]
  obtain ⟨hletter, hothers⟩ := onLetter_spec hy fun x => { x with state := .delivering }
  obtain ⟨f, hf⟩ := offerDelivery_same u
  have hbus : ∀ q, y.progress = some q → u.offerDelivery.bus = (s.withFrame
      (s.deliveryFrame ⟨i, name, .streaming, none, false, true, none⟩ { y with state := .delivering } q)).bus := by
    intro q hq
    have hactive : u.activeOf = some (⟨i, name, .streaming, none, false, true, none⟩, { y with state := .delivering }, q) := by
      rw [hu]
      exact activeOf_eq_some.mpr ⟨rfl, hletter, hq⟩
    rw [offerDelivery_of hactive rfl, hu]
    rfl
  rw [heq]
  refine ⟨?_, ?_, ?_, hbus, ?_, ?_, ?_, ?_, ?_⟩
  case refine_8 =>
    unfold OnlyDeliv
    rw [hf, hu]
    rfl
  all_goals rw [hf, hu]
  · exact hletter
  · exact hothers
  · rfl
  · rfl
  · rfl
  · rfl
  · rfl

theorem streamOn_of (h : s.deliv.active = some a) : s.streamOn =
    if a.suspendPending then s.suspendNow.afterSuspend else s.offerDelivery := by
  rw [streamOn, h]
  rfl

theorem afterSuspend_urgent (hstart : s.startable = some (j, st)) (hurgent : s.isUrgent j = true) :
    s.afterSuspend = s.offerLetter j st := by
  simp only [afterSuspend, hstart, hurgent, if_true]

theorem afterSuspend_normal (hstart : ∀ k st, s.startable = some (k, st) → s.isUrgent k = false) :
    s.afterSuspend = s.resumeSuspended := by
  unfold afterSuspend
  split
  · next k st hk => rw [hstart k st hk]; rfl
  · rfl

theorem afterEnd_of_none (h : s.deliv.suspended = none) : s.afterEnd = s.look := by
  rw [afterEnd, h]
  simp [when]

theorem afterEnd_of_some {e : LetterIx × Nat} (hactive : s.deliv.active = none) (h : s.deliv.suspended = some e) :
    s.afterEnd = s.resumeSuspended.look := by
  rw [afterEnd, hactive, h]
  rfl

end Sys2Proof.Machine.State
end

section
/-! Offers sent, accepted, refused and left unanswered, and the retry timer (R174 to R177, R185, R186). -/

namespace Sys2Proof.Machine.State

variable {s t u : State} {i j : LetterIx} {a : Machine.Active} {x y : Letter} {p q : Progress} {st : Station}
  {name tag : Nat}

/-! ### The active delivery suspended, and what follows (R185) -/

/-- The active delivery was suspended, and a letter offered in its place. -/
structure SuspendedFor (a : Machine.Active) (x : Letter) (j : LetterIx) (st : Station) (s t : State) : Prop where
  letter : t.letters[a.letter] = some { x with state := .suspended }
  offered : JustOffered j st s.streamId t
  others : ∀ k : LetterIx, k ≠ a.letter → k ≠ j → t.letters[k] = s.letters[k]
  deliv : t.deliv = { s.deliv with
    suspended := some (a.letter, a.name), active := some ⟨j, s.streamId, .offered, none, false, false, none⟩ }
  offDelivery : t.bus.link.offDelivery = none
  only : OnlyDeliv s t

/-- Letters that stand in the queue with the delivery suspended stood there before. -/
theorem suspendNow_letters (ha : s.deliv.active = some a) (hx : s.letters[a.letter] = some x) :
    s.suspendNow.letters[a.letter] = some { x with state := .suspended } ∧ OtherLetters a.letter s s.suspendNow := by
  rw [suspendNow_of ha]
  exact onLetter_spec hx fun x => { x with state := .suspended }

theorem suspendNow_fewer (ha : s.deliv.active = some a) (hx : s.letters[a.letter] = some x) (k : LetterIx) (z : Letter)
    (hz : s.suspendNow.letters[k] = some z) (hqueued : z.queued = true) : k ≠ a.letter ∧ s.letters[k] = some z := by
  obtain ⟨hletter, hothers⟩ := suspendNow_letters ha hx
  have hk : k ≠ a.letter := by
    rintro rfl
    rw [hletter] at hz
    cases hz
    simp [Letter.queued] at hqueued
  exact ⟨hk, (hothers k hk).symm.trans hz⟩

theorem suspendNow_offers (ha : s.deliv.active = some a) (hx : s.letters[a.letter] = some x)
    (hstart : s.startable = some (j, st)) (hurgent : s.isUrgent j = true) (hj : j ≠ a.letter) (hroom : s.HasRoom) :
    SuspendedFor a x j st s s.suspendNow.afterSuspend := by
  obtain ⟨hletter, hothers⟩ := suspendNow_letters ha hx
  have hfewer := suspendNow_fewer ha hx
  obtain ⟨hact, hattached, hretry, hhead, hfiling⟩ := startable_eq_some.mp hstart
  obtain ⟨y, hy, -⟩ := queueHead_queued hhead
  have hy' : s.suspendNow.letters[j] = some y := (hothers j hj).trans hy
  have hurgent' : s.suspendNow.isUrgent j = true := (isUrgent_of hy').mpr ((isUrgent_of hy).mp hurgent)
  have hhead' := queueHead_of_fewer hhead (hothers j hj) fun k z hz hq => (hfewer k z hz hq).2
  have hsuspend := suspendNow_of ha
  generalize s.suspendNow = v at *
  have hstart' : v.startable = some (j, st) := startable_eq_some.mpr
    ⟨by rw [hsuspend]; exact hact, by rw [hsuspend]; exact hattached, by rw [hsuspend]; exact hretry, hhead',
      by rw [hsuspend]; exact hfiling⟩
  have hoffer := offerLetter_offered hy' (by rw [hsuspend]; exact hroom) st
  rw [afterSuspend_urgent hstart' hurgent']
  have hname : v.streamId = s.streamId := by rw [hsuspend]; rfl
  refine ⟨(hoffer.others _ hj.symm).trans hletter, hname ▸ hoffer.justOffered,
    fun k hk hkj => (hoffer.others k hkj).trans (hothers k hk), ?_, ?_, ?_⟩
  · rw [hoffer.deliv, hname, hsuspend]
  · rw [hoffer.bus, hsuspend]
    rfl
  · have honly : OnlyDeliv s v := by
      unfold OnlyDeliv
      rw [hsuspend]
      rfl
    exact honly.trans hoffer.only

/-- With no urgent letter to offer the suspended delivery goes on at once. -/
theorem suspendNow_resumes (ha : s.deliv.active = some a) (hx : s.letters[a.letter] = some x)
    (hnone : s.isDetached = true ∨ s.deliv.retry ≠ none ∨ s.chooseFiling = none ∨
      ∀ (k : LetterIx) (z : Letter), k ≠ a.letter → s.letters[k] = some z → z.queued = true → z.priority = .normal) :
    Resumed a.letter a.name { x with state := .suspended } s.suspendNow s.suspendNow.afterSuspend := by
  obtain ⟨hletter, hothers⟩ := suspendNow_letters ha hx
  have hfewer := suspendNow_fewer ha hx
  have hsuspend := suspendNow_of ha
  generalize s.suspendNow = v at *
  have hnormal : ∀ k st, v.startable = some (k, st) → v.isUrgent k = false := by
    intro k st hstart
    obtain ⟨-, hattached, hretry, hhead, hfiling⟩ := startable_eq_some.mp hstart
    rw [hsuspend] at hattached hretry hfiling
    rcases hnone with hdetached | hrunning | hnowhere | hqueue
    · exact absurd (hdetached.symm.trans hattached) (by decide)
    · exact absurd hretry hrunning
    · exact absurd (hnowhere.symm.trans hfiling) (by simp)
    · obtain ⟨z, hz, hqueued⟩ := queueHead_queued hhead
      obtain ⟨hk, hz'⟩ := hfewer k z hz hqueued
      have hpriority := hqueue k z hk hz' hqueued
      rw [Bool.eq_false_iff, ne_eq, isUrgent_of hz, hpriority]
      decide
  rw [afterSuspend_normal hnormal]
  exact resumeSuspended_resumed (by rw [hsuspend]) hletter

/-! ### What the rows do (R176, R177) -/

theorem exec_offerCompletes (ha : s.deliv.active = some a) (hphase : a.phase = .offered) :
    exec (.offerCompletes a.name) s =
      .next ((s.taken (.offerCompletes a.name)).setPhase .offered (some Config.offerAnswerMs)) := by
  have ha' : (s.taken (.offerCompletes a.name)).deliv.active = some a := ha
  change execOfferCompletes a.name s = _
  simp only [execOfferCompletes, ha', hphase, and_self, if_true]

theorem offeredFor_of (h : s.activeOf = some (a, x, p)) (hphase : a.phase = .offered) :
    s.offeredFor p.filing x.number = some (a, x, p) := by
  simp [offeredFor, activeFor, h, hphase, Option.filter]

/-- The station when an Offer is accepted, before the stream goes on (R177). -/
def offerAccepted (s : State) (a : Machine.Active) (tag : Nat) : State :=
  (s.onLetter a.letter fun x =>
    { x with state := .delivering, progress := x.progress.map fun p => { p with tag := some tag } }).setPhase .streaming none

theorem exec_offerAccept (h : s.activeOf = some (a, x, p)) (hphase : a.phase = .offered) (hact : s.Active) (tag : Nat) :
    exec (.offerAccept p.filing x.number tag) s =
      .next ((s.taken (.offerAccept p.filing x.number tag)).offerAccepted a tag).streamOn := by
  have hfor := offeredFor_of (s := s.taken (.offerAccept p.filing x.number tag)) h hphase
  have hactive : (s.taken (.offerAccept p.filing x.number tag)).isActive = true := isActive_of hact
  change execOfferAccept p.filing x.number tag s = _
  simp only [execOfferAccept, hfor, hactive, if_true]
  rfl

/-- An Offer has been accepted: its letter is DELIVERING under the tag, its delivery STREAMING. -/
structure Accepted (a : Machine.Active) (x : Letter) (p : Progress) (tag : Nat) (s t : State) : Prop where
  letter : t.letters[a.letter] = some { x with state := .delivering, progress := some { p with tag := some tag } }
  others : OtherLetters a.letter s t
  active : t.deliv.active = some { a with phase := .streaming, timer := none }
  rest : t = { s with letters := t.letters, deliv := t.deliv, reports := t.reports }
  deliv : t.deliv = { s.deliv with active := t.deliv.active }

theorem offerAccepted_accepted (h : s.activeOf = some (a, x, p)) (tag : Nat) :
    Accepted a x p tag s (s.offerAccepted a tag) := by
  obtain ⟨ha, hx, hp⟩ := activeOf_eq_some.mp h
  obtain ⟨hletter, hothers⟩ := onLetter_spec hx fun x =>
    { x with state := .delivering, progress := x.progress.map fun p => { p with tag := some tag } }
  rw [hp] at hletter
  have hdeliv : (s.offerAccepted a tag).deliv = { s.deliv with active := some { a with phase := .streaming, timer := none } } :=
    setPhase_deliv (s := s.onLetter a.letter _) ha _ _
  exact ⟨hletter, hothers, by rw [hdeliv], rfl, by rw [hdeliv]⟩

namespace Accepted

theorem only (h : Accepted a x p tag s t) : OnlyDeliv s t := by
  unfold OnlyDeliv
  have hrest := h.rest
  generalize t.letters = ls at hrest
  rw [hrest]

theorem bus (h : Accepted a x p tag s t) : t.bus = s.bus := by rw [h.rest]

theorem streamId (h : Accepted a x p tag s t) : t.streamId = s.streamId := by rw [h.rest]

theorem chooseFiling (h : Accepted a x p tag s t) : t.chooseFiling = s.chooseFiling := by
  rw [h.rest]
  rfl

theorem activeOf (h : Accepted a x p tag s t) : t.activeOf = some ({ a with phase := .streaming, timer := none },
    { x with state := .delivering, progress := some { p with tag := some tag } }, { p with tag := some tag }) :=
  activeOf_eq_some.mpr ⟨h.active, h.letter, rfl⟩

end Accepted

theorem deliveryFrame_congr (hseg : t.seg = s.seg) (a : Machine.Active) (x : Letter) (p : Progress) :
    t.deliveryFrame a x p = s.deliveryFrame a x p := by
  simp only [deliveryFrame, letterData, hseg]

/-- The stream of an accepted Offer with no suspension pending (R177, R178). -/
theorem Accepted.streams (h : Accepted a x p tag s t) (hpending : a.suspendPending = false) :
    t.streamOn = t.withFrame (s.deliveryFrame a x { p with tag := some tag }) := by
  have hpending' : ({ a with phase := .streaming, timer := none } : Machine.Active).suspendPending = false := hpending
  rw [streamOn_of h.active, hpending', offerDelivery_of h.activeOf rfl, deliveryFrame_congr h.only.seg]
  rfl

theorem offerFailed_of (ha : s.deliv.active = some a) : s.offerFailed =
    ((((s.onLetter a.letter fun x => { x with progress := none }).clearActive).cancel .retryTimerExpiry).onDeliv fun d =>
      { d with retry := some Config.retryMs }).resumeSuspended := by
  rw [offerFailed, ha]

/-- A failed Offer with nothing suspended (R177). -/
theorem offerFailed_alone (h : s.activeOf = some (a, x, p)) (hsuspended : s.deliv.suspended = none) :
    s.offerFailed.letters[a.letter] = some { x with progress := none } ∧ OtherLetters a.letter s s.offerFailed ∧
      s.offerFailed.deliv = { s.deliv with active := none, retry := some 1000 } ∧
      s.offerFailed.bus = { s.bus with link := { s.bus.link with offDelivery := none } } ∧
      s.offerFailed.seg = s.seg ∧ SameLines s s.offerFailed := by
  obtain ⟨ha, hx, -⟩ := activeOf_eq_some.mp h
  obtain ⟨hletter, hothers⟩ := onLetter_spec hx fun x => { x with progress := none }
  rw [offerFailed_of_none ha hsuspended]
  exact ⟨hletter, hothers, rfl, rfl, rfl, rfl, rfl, rfl, rfl⟩

/-- A failed Offer with a delivery suspended, which goes on (R177, R186). -/
theorem offerFailed_resumes (h : s.activeOf = some (a, x, p)) (hsuspended : s.deliv.suspended = some (i, name))
    (hi : i ≠ a.letter) (hy : s.letters[i] = some y) :
    s.offerFailed.letters[a.letter] = some { x with progress := none } ∧
      s.offerFailed.letters[i] = some { y with state := .delivering } ∧
      s.offerFailed.deliv = { s.deliv with
        active := some ⟨i, name, .streaming, none, false, true, none⟩, suspended := none, retry := some 1000 } ∧
      s.offerFailed.seg = s.seg ∧ SameLines s s.offerFailed := by
  obtain ⟨ha, hx, -⟩ := activeOf_eq_some.mp h
  obtain ⟨hletter, hothers⟩ := onLetter_spec hx fun x => { x with progress := none }
  have hresumed := resumeSuspended_resumed (s := (((s.onLetter a.letter fun x => { x with progress := none }).clearActive).cancel
    .retryTimerExpiry).onDeliv fun d => { d with retry := some Config.retryMs }) hsuspended ((hothers i hi).trans hy)
  rw [offerFailed_of ha]
  exact ⟨(hresumed.others _ hi.symm).trans hletter, hresumed.letter, hresumed.deliv, hresumed.only.seg, hresumed.only.sameLines⟩

theorem exec_offerRefuse (h : s.activeOf = some (a, x, p)) (hphase : a.phase = .offered) (hact : s.Active) (reason : Nat) :
    exec (.offerRefuse p.filing x.number reason) s = .next (s.taken (.offerRefuse p.filing x.number reason)).offerFailed := by
  have hfor := offeredFor_of (s := s.taken (.offerRefuse p.filing x.number reason)) h hphase
  have hactive : (s.taken (.offerRefuse p.filing x.number reason)).isActive = true := isActive_of hact
  change execOfferRefuse p.filing x.number reason s = _
  simp only [execOfferRefuse, hfor, hactive, Option.isSome_some, and_self, if_true]

theorem exec_offerAnswerTimeout (ha : s.deliv.active = some a) (hphase : a.phase = .offered) (htimer : a.timer ≠ none) :
    exec .offerAnswerTimeout s = .next (s.taken .offerAnswerTimeout).offerFailed := by
  have hruns : (s.taken .offerAnswerTimeout).deliv.active.any (fun a => a.phase == .offered && a.timer.isSome) = true := by
    change s.deliv.active.any _ = true
    simp [ha, hphase, Option.isSome_iff_ne_none.mpr htimer]
  change execOfferAnswerTimeout s = _
  simp only [execOfferAnswerTimeout, hruns, if_true]

theorem exec_retryTimerExpiry (h : s.deliv.retry ≠ none) : exec .retryTimerExpiry s =
    .next ((s.taken .retryTimerExpiry).onDeliv fun d => { d with retry := none }).look := by
  have hruns : (s.taken .retryTimerExpiry).deliv.retry.isSome = true := Option.isSome_iff_ne_none.mpr h
  change execRetryTimerExpiry s = _
  simp only [execRetryTimerExpiry, hruns, if_true]

/-! ### An Offer accepted with a suspension pending (R177, R185) -/

theorem Accepted.suspends (h : Accepted a x p tag s t) (hpending : a.suspendPending = true) (hact : s.Active)
    (hattached : s.isDetached = false) (hretry : s.deliv.retry = none) (hhead : s.queueHead = some j) (hj : j ≠ a.letter)
    (hy : s.letters[j] = some y) (hurgent : y.priority = .urgent) (hfiling : s.chooseFiling = some st) (hroom : s.HasRoom) :
    SuspendedFor { a with phase := .streaming, timer := none }
      { x with state := .delivering, progress := some { p with tag := some tag } } j st t t.streamOn := by
  have hhead' : t.queueHead = some j := by
    refine queueHead_of_fewer hhead (h.others j hj) fun k z hz hqueued => ?_
    by_cases hk : k = a.letter
    · subst hk
      rw [h.letter] at hz
      cases hz
      simp [Letter.queued] at hqueued
    · exact (h.others k hk).symm.trans hz
  have hretry' : t.deliv.retry = none := by
    rw [h.deliv]
    exact hretry
  have hstart : t.startable = some (j, st) := startable_eq_some.mpr
    ⟨by rw [State.Active, h.bus]; exact hact, by rw [isDetached, h.bus]; exact hattached, hretry', hhead',
      h.chooseFiling.trans hfiling⟩
  have hpending' : ({ a with phase := .streaming, timer := none } : Machine.Active).suspendPending = true := hpending
  rw [streamOn_of h.active, if_pos hpending']
  exact suspendNow_offers h.active h.letter hstart ((isUrgent_of ((h.others j hj).trans hy)).mpr hurgent) hj
    (by rw [HasRoom, h.bus]; exact hroom)

theorem Accepted.resumes (h : Accepted a x p tag s t) (hpending : a.suspendPending = true)
    (hnone : s.isDetached = true ∨ s.deliv.retry ≠ none ∨ s.chooseFiling = none ∨
      ∀ (k : LetterIx) (z : Letter), k ≠ a.letter → s.letters[k] = some z → z.queued = true → z.priority = .normal) :
    Resumed a.letter a.name { x with state := .suspended, progress := some { p with tag := some tag } }
      t.suspendNow t.streamOn := by
  have hpending' : ({ a with phase := .streaming, timer := none } : Machine.Active).suspendPending = true := hpending
  rw [streamOn_of h.active, if_pos hpending']
  refine suspendNow_resumes h.active h.letter ?_
  rw [isDetached, h.bus, h.deliv, h.chooseFiling]
  exact hnone.imp_right (.imp_right (.imp_right fun hqueue k z hk hz => hqueue k z hk ((h.others k hk).symm.trans hz)))

end Sys2Proof.Machine.State
end

section
/-! What becomes of an Offer (R174 to R177, R185, R186). -/

namespace Sys2Proof.Machine.State

variable {s t u : State} {i j : LetterIx} {a : Machine.Active} {x y : Letter} {p q : Progress} {st : Station}
  {name tag : Nat}

/-- A suspended delivery that goes on at once leaves the station as one that was not suspended. -/
theorem Accepted.resumed_bus (h : Accepted a x p tag s t)
    (hresumed : Resumed a.letter a.name { x with state := .suspended, progress := some { p with tag := some tag } }
      t.suspendNow t.streamOn) :
    t.streamOn.bus = { s.bus with link := { s.bus.link with
      offDelivery := some (s.deliveryFrame ⟨a.letter, a.name, .streaming, none, false, true, none⟩
        { x with state := .delivering, progress := some { p with tag := some tag } } { p with tag := some tag }) } } := by
  have hsuspend := suspendNow_of h.active
  have hbus := hresumed.bus _ rfl
  have hseg : t.suspendNow.seg = s.seg := by
    rw [hsuspend]
    exact h.only.seg
  rw [hbus, deliveryFrame_congr hseg, hsuspend, ← h.bus]
  rfl

theorem retry_idle (hact : s.Active) (hattached : s.isDetached = false) (hactive : s.deliv.active = none)
    (hsuspended : s.deliv.suspended = none) (hhead : s.queueHead = some i) (hx : s.letters[i] = some x)
    (hfiling : s.chooseFiling = some st) (hroom : s.HasRoom) :
    Offered i x st (s.onDeliv fun d => { d with retry := none }) (s.onDeliv fun d => { d with retry := none }).look := by
  have hstart : (s.onDeliv fun d => { d with retry := none }).startable = some (i, st) :=
    startable_eq_some.mpr ⟨hact, hattached, rfl, hhead, hfiling⟩
  rw [look_of_idle hstart hactive hsuspended]
  exact offerLetter_offered (s := s.onDeliv fun d => { d with retry := none }) hx hroom st

/-- An accepted Offer streams (R177, R178). -/
theorem Accepted.streamed (h : Accepted a x p tag s t) (hpending : a.suspendPending = false) :
    t.streamOn.letters[a.letter] = some { x with state := .delivering, progress := some { p with tag := some tag } } ∧
      OtherLetters a.letter s t.streamOn ∧
      t.streamOn.deliv = { s.deliv with active := some { a with phase := .streaming, timer := none } } ∧
      t.streamOn.bus = { s.bus with link := { s.bus.link with
        offDelivery := some (s.deliveryFrame a x { p with tag := some tag }) } } ∧
      t.streamOn.seg = s.seg ∧ SameLines s t.streamOn := by
  rw [h.streams hpending]
  refine ⟨h.letter, h.others, ?_, ?_, h.only.seg, h.only.sameLines⟩
  · change t.deliv = _
    rw [h.deliv, h.active]
  · rw [← h.bus]
    rfl

/-- A suspended delivery that goes on at once (R177). -/
theorem Accepted.goesOn (h : Accepted a x p tag s t) (hpending : a.suspendPending = true)
    (hnone : s.isDetached = true ∨ s.deliv.retry ≠ none ∨ s.chooseFiling = none ∨
      ∀ (k : LetterIx) (z : Letter), k ≠ a.letter → s.letters[k] = some z → z.queued = true → z.priority = .normal) :
    t.streamOn.letters[a.letter] = some { x with state := .delivering, progress := some { p with tag := some tag } } ∧
      OtherLetters a.letter s t.streamOn ∧
      t.streamOn.deliv = { s.deliv with
        active := some ⟨a.letter, a.name, .streaming, none, false, true, none⟩, suspended := none } ∧
      t.streamOn.bus = { s.bus with link := { s.bus.link with
        offDelivery := some (s.deliveryFrame ⟨a.letter, a.name, .streaming, none, false, true, none⟩
          { x with state := .delivering, progress := some { p with tag := some tag } } { p with tag := some tag }) } } ∧
      t.streamOn.seg = s.seg ∧ SameLines s t.streamOn := by
  have hresumed := h.resumes hpending hnone
  obtain ⟨-, hothers⟩ := suspendNow_letters h.active h.letter
  have hsuspend := suspendNow_of h.active
  have hbus := h.resumed_bus hresumed
  have honly : OnlyDeliv s t.suspendNow := h.only.trans (suspendNow_only t)
  generalize t.streamOn = v at *
  refine ⟨hresumed.letter, h.others.trans (hothers.trans hresumed.others), ?_, hbus, hresumed.only.seg.trans honly.seg,
    honly.sameLines.trans hresumed.only.sameLines⟩
  rw [hresumed.deliv, hsuspend, h.deliv]

/-- The completion of an Offer starts the answer timer (R176). -/
theorem offerAnswer_awaited (ha : s.deliv.active = some a) (hphase : a.phase = .offered) :
    (s.setPhase .offered (some Config.offerAnswerMs)).deliv = { s.deliv with active := some { a with timer := some 500 } } := by
  rw [setPhase_deliv ha, ← hphase]
  rfl

theorem accept_pending (h : s.activeOf = some (a, x, p)) (hphase : a.phase = .offered) (hact : s.Active)
    (hpending : a.suspendPending = true) (tag : Nat) :
    (∀ j y st, s.isDetached = false → s.deliv.retry = none → s.queueHead = some j → j ≠ a.letter →
      s.letters[j] = some y → y.priority = .urgent → s.chooseFiling = some st → s.HasRoom →
      ∃ t, exec (.offerAccept p.filing x.number tag) s = .next t ∧
        t.letters[a.letter] = some { x with state := .suspended, progress := some { p with tag := some tag } } ∧
        t.deliv.suspended = some (a.letter, a.name) ∧ JustOffered j st s.streamId t ∧
        t.deliv.retry = none ∧ t.bus.link.offDelivery = none ∧ t.seg = s.seg ∧ SameLines s t) := by
  intro j y st hattached hretry hhead hj hy hurgent hfiling hroom
  have hexec := exec_offerAccept h hphase hact tag
  have haccept := offerAccepted_accepted (s := s.taken (.offerAccept p.filing x.number tag)) h tag
  have hsuspend := haccept.suspends hpending hact hattached hretry hhead hj hy hurgent hfiling hroom
  have hname := haccept.streamId
  have hdeliv := haccept.deliv
  have honly := haccept.only
  generalize (s.taken (.offerAccept p.filing x.number tag)).offerAccepted a tag = v at *
  refine ⟨_, hexec, hsuspend.letter, ?_, hname ▸ hsuspend.offered, ?_, hsuspend.offDelivery,
    hsuspend.only.seg.trans honly.seg, honly.sameLines.trans hsuspend.only.sameLines⟩
  · rw [hsuspend.deliv]
  · rw [hsuspend.deliv, hdeliv]
    exact hretry

/-- Settles O47: each answer to an Offer, and the retry timer, by what they do to the active delivery. -/
theorem offersAnswered : Obligations.OffersAnswered := by
  unfold Obligations.OffersAnswered
  refine ⟨fun s sender a x p h hphase => ?_, fun s hretry => ⟨fun hhead => ?_, fun i x st hact hattached hactive hsuspended
    hhead hx hfiling hroom => ?_⟩⟩
  · obtain ⟨ha, hx, hp⟩ := activeOf_eq_some.mp h
    refine ⟨?completes, ?accept, ?pending, fun hsuspended => ⟨?refuse, ?timeout⟩, ?suspended⟩
    case completes =>
      exact ⟨_, exec_offerCompletes ha hphase, offerAnswer_awaited (s := s.taken (.offerCompletes a.name)) ha hphase,
        rfl, rfl, rfl, rfl, rfl, rfl, rfl⟩
    case accept =>
      rintro tag hact rfl hpending
      exact ⟨_, exec_offerAccept h hphase hact tag, (offerAccepted_accepted
        (s := s.taken (.offerAccept p.filing x.number tag)) h tag).streamed hpending⟩
    case pending =>
      rintro tag hact rfl hpending
      exact ⟨accept_pending h hphase hact hpending tag, fun hnone => ⟨_, exec_offerAccept h hphase hact tag,
        (offerAccepted_accepted (s := s.taken (.offerAccept p.filing x.number tag)) h tag).goesOn hpending hnone⟩⟩
    case refuse =>
      rintro reason hact rfl
      exact ⟨_, exec_offerRefuse h hphase hact reason,
        offerFailed_alone (s := s.taken (.offerRefuse p.filing x.number reason)) h hsuspended⟩
    case timeout =>
      intro htimer
      exact ⟨_, exec_offerAnswerTimeout ha hphase htimer, offerFailed_alone (s := s.taken .offerAnswerTimeout) h hsuspended⟩
    case suspended =>
      rintro i name y hsuspended hi hy reason hact rfl
      exact ⟨_, exec_offerRefuse h hphase hact reason,
        offerFailed_resumes (s := s.taken (.offerRefuse p.filing x.number reason)) h hsuspended hi hy⟩
  · have hlook := look_of_not_startable (s := (s.taken .retryTimerExpiry).onDeliv fun d => { d with retry := none })
      (startable_eq_none (.inr (.inr (.inr (.inl hhead)))))
    exact ⟨_, (exec_retryTimerExpiry hretry).trans (congrArg Host.Outcome.next hlook), rfl, rfl, rfl, rfl, rfl, rfl, rfl, rfl⟩
  · have hoffer := retry_idle (s := s.taken .retryTimerExpiry) hact hattached hactive hsuspended hhead hx hfiling hroom
    exact ⟨_, exec_retryTimerExpiry hretry, hoffer.letter, hoffer.others, hoffer.deliv, hoffer.streamId, hoffer.bus,
      hoffer.only.seg, hoffer.only.sameLines⟩

end Sys2Proof.Machine.State
end

section
/-! A letter streams to its filing station, and the engine's look with a delivery active (R174, R180, R185). -/

namespace Sys2Proof.Machine.State

variable {s t u : State} {i j : LetterIx} {a b : Machine.Active} {x y : Letter} {p q : Progress} {st : Station}
  {name tag : Nat} {d : DataBody} {r : SegRec}

/-! ### Past a Letter Data frame (R180) -/

/-- A delivery's progress past a Letter Data frame (R180). -/
def progressPast (p : Progress) (r : SegRec) (d : DataBody) (items : List Item) : Progress :=
  { p with
    record := if r.count ≤ d.slice + (items.map (·.span)).sum then d.record + 1 else d.record
    slice := if r.count ≤ d.slice + (items.map (·.span)).sum then 0 else d.slice + (items.map (·.span)).sum
    crc := items.foldl (fun k it => crc32 k it.bytes) p.crc }

/-- The last item of a frame, as its delivery remembers it (R180). -/
def pastItem (a : Machine.Active) (it : Item) : Machine.Active :=
  { a with last := some ⟨it.block, it.slice + it.span - 1, it.voiced⟩, resume := false }

/-- A delivery stands past a Letter Data frame (R180). -/
structure Advanced (a b : Machine.Active) (x : Letter) (q : Progress) (s t : State) : Prop where
  letter : t.letters[a.letter] = some { x with progress := some q }
  others : OtherLetters a.letter s t
  active : t.deliv.active = some b
  same : b.letter = a.letter ∧ b.name = a.name ∧ b.phase = a.phase ∧ b.suspendPending = a.suspendPending
  deliv : t.deliv = { s.deliv with active := t.deliv.active }
  rest : t = { s with letters := t.letters, deliv := t.deliv }

/-- The station with a delivery's progress past a Letter Data frame (R180). -/
def progressed (s : State) (i : LetterIx) (r : SegRec) (d : DataBody) : State :=
  s.onLetter i fun x => { x with progress := x.progress.map fun p => progressPast p r d (s.sentItems r d) }

theorem advanceDelivery_eq (s : State) (a : Machine.Active) (r : SegRec) (d : DataBody) : s.advanceDelivery a r d =
    match (s.sentItems r d).getLast? with
    | some it => (s.progressed a.letter r d).onActive fun b => pastItem b it
    | none => s.progressed a.letter r d := by
  have hprogress : s.progressed a.letter r d = s.onLetter a.letter fun x => { x with
      progress := x.progress.map fun p => { p with
        record := (streamAfter r d.record d.slice ((s.sentItems r d).map (·.span)).sum).1
        slice := (streamAfter r d.record d.slice ((s.sentItems r d).map (·.span)).sum).2
        crc := crcItems p.crc (s.sentItems r d) } } := by
    simp only [streamAfter_eq]
    rfl
  rw [hprogress]
  rfl

theorem progressed_spec (h : s.activeOf = some (a, x, p)) (r : SegRec) (d : DataBody) :
    (s.progressed a.letter r d).letters[a.letter] = some { x with progress := some (progressPast p r d (s.sentItems r d)) } ∧
      OtherLetters a.letter s (s.progressed a.letter r d) := by
  obtain ⟨-, hx, hp⟩ := activeOf_eq_some.mp h
  obtain ⟨hletter, hothers⟩ := onLetter_spec hx fun x => { x with
    progress := x.progress.map fun p => progressPast p r d (s.sentItems r d) }
  rw [hp] at hletter
  exact ⟨hletter, hothers⟩

theorem advanceDelivery_advanced (h : s.activeOf = some (a, x, p)) (r : SegRec) (d : DataBody) :
    ∃ b, Advanced a b x (progressPast p r d (s.sentItems r d)) s (s.advanceDelivery a r d) ∧
      ∀ it, (s.sentItems r d).getLast? = some it → b = pastItem a it := by
  obtain ⟨ha, -⟩ := activeOf_eq_some.mp h
  obtain ⟨hletter, hothers⟩ := progressed_spec h r d
  have hactive : (s.progressed a.letter r d).deliv.active = some a := ha
  rw [advanceDelivery_eq]
  cases hlast : (s.sentItems r d).getLast? with
  | none => exact ⟨a, ⟨hletter, hothers, hactive, ⟨rfl, rfl, rfl, rfl⟩, rfl, rfl⟩, fun it hit => by cases hit⟩
  | some it =>
    refine ⟨pastItem a it, ⟨hletter, hothers, ?_, ⟨rfl, rfl, rfl, rfl⟩, rfl, rfl⟩, fun it' hit => by cases hit; rfl⟩
    change ((s.progressed a.letter r d).onActive fun b => pastItem b it).deliv.active = _
    rw [onActive_deliv hactive]

namespace Advanced

theorem only (h : Advanced a b x q s t) : OnlyDeliv s t := by
  unfold OnlyDeliv
  have hrest := h.rest
  generalize t.letters = ls at hrest
  rw [hrest]

theorem bus (h : Advanced a b x q s t) : t.bus = s.bus := by rw [h.rest]

theorem streamId (h : Advanced a b x q s t) : t.streamId = s.streamId := by rw [h.rest]

theorem chooseFiling (h : Advanced a b x q s t) : t.chooseFiling = s.chooseFiling := by
  rw [h.rest]
  rfl

theorem letterOf (h : Advanced a b x q s t) : t.letters[b.letter] = some { x with progress := some q } := by
  obtain ⟨hletter, -⟩ := h.same
  simp only [hletter]
  exact h.letter

/-- The next frame is offered (R178, R180). -/
theorem streamed (h : Advanced a b x q s t) (hphase : a.phase = .streaming) (hpending : a.suspendPending = false) :
    t.streamOn.letters[a.letter] = some { x with progress := some q } ∧ OtherLetters a.letter s t.streamOn ∧
      t.streamOn.deliv = { s.deliv with active := some b } ∧
      t.streamOn.bus = { s.bus with link := { s.bus.link with offDelivery := some (s.deliveryFrame b x q) } } ∧
      t.streamOn.seg = s.seg ∧ SameLines s t.streamOn := by
  obtain ⟨-, -, hphase', hpending'⟩ := h.same
  have hactive : t.activeOf = some (b, { x with progress := some q }, q) := activeOf_eq_some.mpr ⟨h.active, h.letterOf, rfl⟩
  have hstream : t.streamOn = t.withFrame (s.deliveryFrame b x q) := by
    rw [streamOn_of h.active, if_neg (by rw [hpending', hpending]; decide), offerDelivery_of hactive (hphase'.trans hphase),
      deliveryFrame_congr h.only.seg]
    rfl
  rw [hstream]
  refine ⟨h.letter, h.others, ?_, ?_, h.only.seg, h.only.sameLines⟩
  · change t.deliv = _
    rw [h.deliv, h.active]
  · rw [← h.bus]
    rfl

/-- The delivery is suspended, and the urgent head offered (R185). -/
theorem suspends (h : Advanced a b x q s t) (hpending : a.suspendPending = true) (hstate : x.state = .delivering)
    (hstart : s.startable = some (j, st)) (hurgent : s.isUrgent j = true) (hj : j ≠ a.letter) (hroom : s.HasRoom) :
    SuspendedFor b { x with progress := some q } j st t t.streamOn := by
  obtain ⟨hletter, -, -, hpending'⟩ := h.same
  obtain ⟨hact, hattached, hretry, hhead, hfiling⟩ := startable_eq_some.mp hstart
  obtain ⟨y, hy, -⟩ := queueHead_queued hhead
  have hhead' : t.queueHead = some j := by
    refine queueHead_of_fewer hhead (h.others j hj) fun k z hz hqueued => ?_
    by_cases hk : k = a.letter
    · subst hk
      rw [h.letter] at hz
      cases hz
      simp [Letter.queued, hstate] at hqueued
    · exact (h.others k hk).symm.trans hz
  have hretry' : t.deliv.retry = none := by
    rw [h.deliv]
    exact hretry
  have hstart' : t.startable = some (j, st) := startable_eq_some.mpr
    ⟨by rw [State.Active, h.bus]; exact hact, by rw [isDetached, h.bus]; exact hattached, hretry', hhead',
      h.chooseFiling.trans hfiling⟩
  have hurgent' : t.isUrgent j = true := (isUrgent_of ((h.others j hj).trans hy)).mpr ((isUrgent_of hy).mp hurgent)
  rw [streamOn_of h.active, if_pos (hpending'.trans hpending)]
  exact suspendNow_offers h.active h.letterOf hstart' hurgent' (by rw [hletter]; exact hj) (by rw [HasRoom, h.bus]; exact hroom)

end Advanced

/-! ### What the rows do (R180) -/

theorem exec_letterDataCompletes (h : s.activeOf = some (a, x, p)) (hphase : a.phase = .streaming)
    (hnumber : d.number = x.number) (hrecord : d.record = p.record) (hslice : d.slice = p.slice)
    (hr : x.chain[p.record]? = some r) : exec (.letterDataCompletes a.name d) s =
      .next ((s.taken (.letterDataCompletes a.name d)).advanceDelivery a r d).streamOn := by
  have h' : (s.taken (.letterDataCompletes a.name d)).activeOf = some (a, x, p) := h
  change execLetterDataCompletes a.name d s = _
  simp only [execLetterDataCompletes, h', hphase, hnumber, hrecord, hslice, and_self, if_true, hr]

theorem exec_letterEndCompletes (h : s.activeOf = some (a, x, p)) (hphase : a.phase = .streaming)
    (hend : x.chain.length ≤ p.record) : exec (.letterEndCompletes a.name) s =
      .next ((s.taken (.letterEndCompletes a.name)).setPhase .ended (some Config.endAnswerMs)) := by
  have h' : (s.taken (.letterEndCompletes a.name)).activeOf = some (a, x, p) := h
  have hend' : atEnd x p = true := decide_eq_true hend
  change execLetterEndCompletes a.name s = _
  simp only [execLetterEndCompletes, h', hphase, hend', and_self, if_true]

/-! ### The engine's look with a delivery active (R174, R185) -/

/-- The station with the active delivery marked for suspension (R185). -/
def marked (s : State) : State := s.onActive fun a => { a with suspendPending := true }

theorem marked_deliv (ha : s.deliv.active = some a) :
    s.marked.deliv = { s.deliv with active := some { a with suspendPending := true } } := onActive_deliv ha _

/-- An urgent head marks a normal delivery, and suspends it where none of its frames is current. -/
theorem look_of_urgent (hstart : s.startable = some (j, st)) (ha : s.deliv.active = some a) (hurgent : s.isUrgent j = true)
    (hnormal : s.isUrgent a.letter = false) (hsuspended : s.deliv.suspended = none) (hphase : a.phase ≠ .ended) :
    s.look = if a.phase = .streaming then
      (if s.deliveryCurrent a.name then s.marked.withoutFrame else s.marked.withoutFrame.suspendNow.afterSuspend)
    else s.marked := by
  have hcond : s.isUrgent j = true ∧ s.isUrgent a.letter = false ∧ s.deliv.suspended = none ∧ a.phase ≠ .ended :=
    ⟨hurgent, hnormal, hsuspended, hphase⟩
  rw [look, hstart]
  dsimp only
  rw [ha]
  dsimp only
  rw [if_pos hcond]
  rfl

theorem look_of_active (ha : s.deliv.active = some a) (hnone : ∀ j st, s.startable = some (j, st) →
    ¬(s.isUrgent j = true ∧ s.isUrgent a.letter = false ∧ s.deliv.suspended = none ∧ a.phase ≠ .ended)) : s.look = s := by
  cases hstart : s.startable with
  | none => exact look_of_not_startable hstart
  | some e =>
    obtain ⟨j, st⟩ := e
    rw [look, hstart]
    dsimp only
    rw [ha]
    dsimp only
    rw [if_neg (hnone j st hstart)]

end Sys2Proof.Machine.State
end

section
/-! Letter Data, the suspension for an urgent letter, and Letter End, settled (R180, R185). -/

namespace Sys2Proof.Machine.State

variable {s t u : State} {i j : LetterIx} {a b : Machine.Active} {x y : Letter} {p q : Progress} {st : Station}
  {name tag : Nat} {d : DataBody} {r : SegRec}

theorem deliveryCurrent_iff (s : State) (name : Nat) : s.deliveryCurrent name = true ↔
    ∃ c, s.bus.link.current = some c ∧ c.source = .delivery ∧ c.frame.owner = name := by
  simp only [deliveryCurrent, Option.any_eq_true, Bool.and_eq_true, beq_iff_eq]

/-- Past a frame the next one is offered (R180). -/
theorem letterData_streams (h : s.activeOf = some (a, x, p)) (hphase : a.phase = .streaming)
    (hnumber : d.number = x.number) (hrecord : d.record = p.record) (hslice : d.slice = p.slice)
    (hr : x.chain[p.record]? = some r) {it : Item} (hit : (s.sentItems r d).getLast? = some it)
    (hpending : a.suspendPending = false) :
    ∃ t b, exec (.letterDataCompletes a.name d) s = .next t ∧
      t.letters[a.letter] = some { x with progress := some (progressPast p r d (s.sentItems r d)) } ∧
      OtherLetters a.letter s t ∧ t.deliv = { s.deliv with active := some b } ∧ b = pastItem a it ∧
      t.bus = { s.bus with link := { s.bus.link with
        offDelivery := some (s.deliveryFrame b x (progressPast p r d (s.sentItems r d))) } } ∧
      t.seg = s.seg ∧ SameLines s t := by
  have hexec := exec_letterDataCompletes h hphase hnumber hrecord hslice hr
  obtain ⟨b, hadvanced, hlast⟩ := advanceDelivery_advanced (s := s.taken (.letterDataCompletes a.name d)) h r d
  obtain ⟨hletter, hothers, hdeliv, hbus, hseg, hlines⟩ := hadvanced.streamed hphase hpending
  exact ⟨_, b, hexec, hletter, hothers, hdeliv, hlast it hit, hbus, hseg, hlines⟩

/-- A pending suspension takes effect past a frame (R185). -/
theorem letterData_suspends (h : s.activeOf = some (a, x, p)) (hphase : a.phase = .streaming)
    (hnumber : d.number = x.number) (hrecord : d.record = p.record) (hslice : d.slice = p.slice)
    (hr : x.chain[p.record]? = some r) (hpending : a.suspendPending = true) (hstate : x.state = .delivering)
    (hstart : s.startable = some (j, st)) (hurgent : s.isUrgent j = true) (hj : j ≠ a.letter) (hroom : s.HasRoom) :
    ∃ t, exec (.letterDataCompletes a.name d) s = .next t ∧
      t.letters[a.letter] = some { x with state := .suspended, progress := some (progressPast p r d (s.sentItems r d)) } ∧
      t.deliv = { s.deliv with
        suspended := some (a.letter, a.name), active := some ⟨j, s.streamId, .offered, none, false, false, none⟩ } ∧
      t.bus.link.offDelivery = none ∧ t.seg = s.seg ∧ SameLines s t := by
  have hexec := exec_letterDataCompletes h hphase hnumber hrecord hslice hr
  obtain ⟨b, hadvanced, -⟩ := advanceDelivery_advanced (s := s.taken (.letterDataCompletes a.name d)) h r d
  have hsuspend := hadvanced.suspends hpending hstate hstart hurgent hj hroom
  obtain ⟨hletter, hname, -⟩ := hadvanced.same
  have hrest := hadvanced.only
  have hstream := hadvanced.streamId
  have hdeliv := hadvanced.deliv
  generalize (s.taken (.letterDataCompletes a.name d)).advanceDelivery a r d = v at *
  refine ⟨_, hexec, ?_, ?_, hsuspend.offDelivery, hsuspend.only.seg.trans hrest.seg,
    hrest.sameLines.trans hsuspend.only.sameLines⟩
  · have hsuspended := hsuspend.letter
    simp only [hletter] at hsuspended
    exact hsuspended
  · rw [hsuspend.deliv, hletter, hname, hstream, hdeliv]
    rfl

/-- What an urgent head does to an active normal delivery. -/
theorem look_urgent (ha : s.deliv.active = some a) (hx : s.letters[a.letter] = some x) (hstart : s.startable = some (j, st))
    (hy : s.letters[j] = some y) (hurgent : y.priority = .urgent) (hnormal : x.priority = .normal)
    (hsuspended : s.deliv.suspended = none) :
    (a.phase = .offered → s.look = s.marked) ∧
    (a.phase = .streaming → s.deliveryCurrent a.name = true → s.look = s.marked.withoutFrame) ∧
    (a.phase = .streaming → s.deliveryCurrent a.name = false → s.HasRoom →
      SuspendedFor { a with suspendPending := true } x j st s.marked.withoutFrame s.look) := by
  have hurgent' := (isUrgent_of hy).mpr hurgent
  have hnormal' : s.isUrgent a.letter = false := by
    rw [Bool.eq_false_iff, ne_eq, isUrgent_of hx, hnormal]
    decide
  refine ⟨fun hphase => ?_, fun hphase hcurrent => ?_, fun hphase hcurrent hroom => ?_⟩
  all_goals
    have hended : a.phase ≠ .ended := by
      rw [hphase]
      decide
    rw [look_of_urgent hstart ha hurgent' hnormal' hsuspended hended]
  · rw [if_neg (by rw [hphase]; decide)]
  · rw [if_pos hphase, if_pos hcurrent]
  · have hj : j ≠ a.letter := by
      rintro rfl
      rw [hx] at hy
      cases hy
      rw [hnormal] at hurgent
      cases hurgent
    obtain ⟨hact, hattached, hretry, hhead, hfiling⟩ := startable_eq_some.mp hstart
    have hstart' : s.marked.withoutFrame.startable = some (j, st) :=
      startable_eq_some.mpr ⟨hact, hattached, hretry, hhead, hfiling⟩
    have hactive : s.marked.withoutFrame.deliv.active = some { a with suspendPending := true } := by
      change s.marked.deliv.active = _
      rw [marked_deliv ha]
    rw [if_pos hphase, if_neg (by rw [hcurrent]; decide)]
    exact suspendNow_offers hactive hx hstart' hurgent' hj hroom

/-- The marked station, with the mark written out (R185). -/
theorem marked_eq (ha : s.deliv.active = some a) :
    s.marked = { s with deliv := { s.deliv with active := some { a with suspendPending := true } } } := by
  rw [← marked_deliv ha]
  rfl

theorem look_idles (ha : s.deliv.active = some a) (hx : s.letters[a.letter] = some x)
    (hnone : ¬s.Active ∨ s.isDetached = true ∨ s.deliv.retry ≠ none ∨ s.queueHead = none ∨ s.chooseFiling = none ∨
      s.deliv.suspended ≠ none ∨ a.phase = .ended ∨ x.priority = .urgent ∨
      ∀ j y, s.queueHead = some j → s.letters[j] = some y → y.priority = .normal) : s.look = s := by
  refine look_of_active ha fun j st hstart => ?_
  rintro ⟨hurgent, hnormal, hsuspended, hphase⟩
  obtain ⟨hact, hattached, hretry, hhead, hfiling⟩ := startable_eq_some.mp hstart
  obtain ⟨y, hy, -⟩ := queueHead_queued hhead
  rcases hnone with h | h | h | h | h | h | h | h | h
  · exact h hact
  · exact absurd (h.symm.trans hattached) (by decide)
  · exact h hretry
  · exact absurd (h.symm.trans hhead) (by simp)
  · exact absurd (h.symm.trans hfiling) (by simp)
  · exact h hsuspended
  · exact hphase h
  · rw [(isUrgent_of hx).mpr h] at hnormal
    cases hnormal
  · have hurgent' := (isUrgent_of hy).mp hurgent
    rw [h j y hhead hy] at hurgent'
    cases hurgent'

/-- Settles O48: each completion moves the delivery on, and an urgent head marks or suspends it. -/
theorem letterStreams : Obligations.LetterStreams := by
  unfold Obligations.LetterStreams
  refine ⟨fun s a x p h hphase => ⟨fun d r hnumber hrecord hslice hr => ?_, fun hend => ?_⟩,
    fun s a x ha hx => ⟨?_, look_idles ha hx⟩⟩
  · exact ⟨fun it hit hpending => letterData_streams h hphase hnumber hrecord hslice hr hit hpending,
      fun j st hpending hstate hstart hurgent hj hroom =>
        letterData_suspends h hphase hnumber hrecord hslice hr hpending hstate hstart hurgent hj hroom⟩
  · obtain ⟨ha, -⟩ := activeOf_eq_some.mp h
    exact ⟨_, exec_letterEndCompletes h hphase hend, setPhase_deliv (s := s.taken (.letterEndCompletes a.name)) ha _ _,
      rfl, rfl, rfl, rfl, rfl, rfl, rfl⟩
  · intro j y st hact hattached hretry hsuspended hhead hy hurgent hfiling hnormal
    obtain ⟨hoffered, hcurrent, hsuspends⟩ := look_urgent ha hx
      (startable_eq_some.mpr ⟨hact, hattached, hretry, hhead, hfiling⟩) hy hurgent hnormal hsuspended
    refine ⟨fun hphase => (hoffered hphase).trans (marked_eq ha), fun hphase hnow => ?_, fun hphase hnow hroom => ?_⟩
    · rw [hcurrent hphase ((deliveryCurrent_iff s _).mpr hnow), marked_eq ha]
      rfl
    · have hnot : s.deliveryCurrent a.name = false := by
        rw [Bool.eq_false_iff, ne_eq, deliveryCurrent_iff]
        rintro ⟨c, hc, hsource, howner⟩
        exact (hnow c hc).elim (absurd hsource) (absurd howner)
      have hsuspend := hsuspends hphase hnot hroom
      have honly : OnlyDeliv s s.look := OnlyDeliv.trans (t := s.marked.withoutFrame) rfl hsuspend.only
      refine ⟨hsuspend.letter, by rw [hsuspend.deliv], hsuspend.offered, ?_, hsuspend.offDelivery, honly.seg, honly.nums,
        honly.xfer, honly.sameLines, hsuspend.others⟩
      rw [hsuspend.deliv]
      exact hretry

end Sys2Proof.Machine.State
end

section
/-! What the end of a delivery leaves, and the engine's next step (R31, R174, R182, R183, R185, R186). -/

namespace Sys2Proof.Machine.State

variable {s t u : State} {i j k : LetterIx} {a b : Machine.Active} {x y z : Letter} {p q : Progress} {st : Station}
  {name m : Nat}

/-! ### What the engine's work keeps -/

/-- FREE entries stay FREE, and the Control Queue and the counters are as they were. -/
structure EngineQuiet (s t : State) : Prop where
  free : ∀ i : LetterIx, s.letters[i] = none → t.letters[i] = none
  control : t.bus.link.control = s.bus.link.control
  counters : t.bus.counters = s.bus.counters

/-- FREE entries stay FREE, no letter is counted as filed, the frames that wait still wait, and none is abandoned where
the Control Queue has room. -/
structure EngineKeeps (s t : State) : Prop where
  free : ∀ i : LetterIx, s.letters[i] = none → t.letters[i] = none
  filed : t.bus.counters.lettersFiled = s.bus.counters.lettersFiled
  frames : ∀ q ∈ s.bus.link.control, q.msg.isEvent = false ∨ s.HasRoom → q ∈ t.bus.link.control
  abandoned : s.HasRoom → t.bus.counters.framesAbandoned = s.bus.counters.framesAbandoned

namespace EngineQuiet

theorem refl (s : State) : EngineQuiet s s := ⟨fun _ h => h, rfl, rfl⟩

theorem trans (h : EngineQuiet s t) (k : EngineQuiet t u) : EngineQuiet s u :=
  ⟨fun i hi => k.free i (h.free i hi), k.control.trans h.control, k.counters.trans h.counters⟩

theorem of_same (hletters : t.letters = s.letters) (hcontrol : t.bus.link.control = s.bus.link.control)
    (hcounters : t.bus.counters = s.bus.counters) : EngineQuiet s t :=
  ⟨fun i hi => by rw [hletters]; exact hi, hcontrol, hcounters⟩

theorem keeps (h : EngineQuiet s t) : EngineKeeps s t :=
  ⟨h.free, by rw [h.counters], fun q hq _ => by rw [h.control]; exact hq, fun _ => by rw [h.counters]⟩

/-- Quiet work before other work. -/
theorem before (h : EngineQuiet s t) (k : EngineKeeps t u) : EngineKeeps s u := by
  have hroom : s.HasRoom → t.HasRoom := fun hs => by
    rw [HasRoom, h.control]
    exact hs
  exact ⟨fun i hi => k.free i (h.free i hi), by rw [k.filed, h.counters],
    fun q hq hwaits => k.frames q (by rw [h.control]; exact hq) (hwaits.imp_right hroom),
    fun hs => by rw [k.abandoned (hroom hs), h.counters]⟩

/-- Quiet work after other work. -/
theorem after (k : EngineQuiet t u) (h : EngineKeeps s t) : EngineKeeps s u :=
  ⟨fun i hi => k.free i (h.free i hi), by rw [k.counters, h.filed],
    fun q hq hwaits => by rw [k.control]; exact h.frames q hq hwaits, fun hs => by rw [k.counters, h.abandoned hs]⟩

end EngineQuiet

theorem onLetter_quiet (s : State) (i : LetterIx) (f : Letter → Letter) : EngineQuiet s (s.onLetter i f) := by
  refine ⟨fun j hj => ?_, rfl, rfl⟩
  by_cases hij : j = i
  · subst hij
    rw [onLetter_same, hj]
    rfl
  · rw [onLetter_other _ hij, hj]

theorem offerDelivery_quiet (s : State) : EngineQuiet s s.offerDelivery := by
  obtain ⟨f, hf⟩ := offerDelivery_same s
  rw [hf]
  exact .of_same rfl rfl rfl

theorem resumeSuspended_quiet (s : State) : EngineQuiet s s.resumeSuspended := by
  unfold resumeSuspended
  split
  · next i name h =>
    dsimp only
    refine EngineQuiet.trans ?_ (offerDelivery_quiet _)
    exact (onLetter_quiet s i _).trans (.of_same rfl rfl rfl)
  · exact .refl s

theorem offerFailed_quiet (s : State) : EngineQuiet s s.offerFailed := by
  unfold offerFailed
  split
  · next a h =>
    dsimp only
    refine EngineQuiet.trans ?_ (resumeSuspended_quiet _)
    exact (onLetter_quiet s a.letter _).trans (.of_same rfl rfl rfl)
  · exact .refl s

theorem suspendNow_quiet (s : State) : EngineQuiet s s.suspendNow := by
  unfold suspendNow
  split
  · next a h => exact (onLetter_quiet s a.letter _).trans (.of_same rfl rfl rfl)
  · exact .refl s

theorem mem_place_of_mem {b : Bus} {q r : QFrame} (hq : q ∈ b.link.control)
    (hwaits : q.msg.isEvent = false ∨ b.link.control.length < Config.controlFrames) : q ∈ (b.place r).link.control := by
  unfold Bus.place
  split
  · exact List.mem_append_left _ hq
  · next hfull =>
    have hprotocol : q.msg.isEvent = false := hwaits.resolve_right hfull
    split
    · refine List.mem_append_left _ ?_
      exact (List.mem_eraseP_of_neg (by rw [hprotocol]; decide)).mpr hq
    · exact (Bus.Raises.raise (b.count fun c => { c with framesAbandoned := c.framesAbandoned + 1 }) _).mem_control hq

theorem place_keeps (s : State) (q : QFrame) : EngineKeeps s (s.onBus (Bus.place q)) := by
  refine ⟨fun i hi => hi, ?_, fun r hr hwaits => mem_place_of_mem hr hwaits, fun hroom => ?_⟩
  · have hqueues := Bus.Queues.place q s.bus
    unfold Bus.Queues at hqueues
    change (s.bus.place q).counters.lettersFiled = _
    rw [hqueues]
  · rw [onBus_place_of_room hroom]
    rfl

theorem offerLetter_keeps (s : State) (i : LetterIx) (st : Station) : EngineKeeps s (s.offerLetter i st) := by
  cases hi : s.letters[i] with
  | none =>
    rw [offerLetter_of_free hi]
    exact (EngineQuiet.refl s).keeps
  | some x =>
    have hoffering : EngineQuiet s (s.offering i st) := (onLetter_quiet s i _).trans (.of_same rfl rfl rfl)
    rw [offerLetter_eq hi]
    split
    · exact hoffering.before (place_keeps _ _)
    · exact (offerFailed_quiet _).after (hoffering.before (place_keeps _ _))

theorem afterSuspend_keeps (s : State) : EngineKeeps s s.afterSuspend := by
  unfold afterSuspend
  split
  · split
    · exact offerLetter_keeps _ _ _
    · exact (resumeSuspended_quiet _).keeps
  · exact (resumeSuspended_quiet _).keeps

theorem look_keeps (s : State) : EngineKeeps s s.look := by
  unfold look
  split
  · exact (EngineQuiet.refl s).keeps
  · split
    · split
      · exact offerLetter_keeps _ _ _
      · exact (resumeSuspended_quiet _).keeps
    · split
      · dsimp only
        split
        · split
          · refine EngineQuiet.keeps ?_
            exact .of_same rfl rfl rfl
          · exact EngineQuiet.before (t := State.withdrawDelivery (s.onActive fun a => { a with suspendPending := true }))
              (.of_same rfl rfl rfl) ((suspendNow_quiet _).before (afterSuspend_keeps _))
        · refine EngineQuiet.keeps ?_
          exact .of_same rfl rfl rfl
      · exact (EngineQuiet.refl s).keeps

theorem afterEnd_keeps (s : State) : EngineKeeps s s.afterEnd := by
  unfold afterEnd when
  split
  · exact (resumeSuspended_quiet s).before (look_keeps _)
  · exact look_keeps s

/-! ### A letter filed (R4, R31, R182) -/

/-- A letter has been filed: it is freed, and the Letter Filed event raised. -/
structure LetterFiled (i : LetterIx) (x : Letter) (s t : State) : Prop where
  freed : Freed i x s t
  others : OtherLetters i s t
  filed : t.bus.counters.lettersFiled = s.bus.counters.lettersFiled + 1
  rest : t = { s with seg := t.seg, bus := t.bus, nums := t.nums, letters := t.letters }
  bus : Bus.OnlyQueued s.bus t.bus
  offDelivery : t.bus.link.offDelivery = s.bus.link.offDelivery
  room : t.bus.link.control.length ≤ s.bus.link.control.length + 5

theorem fileLetter_filed (hx : s.letters[i] = some x) (number : Nat) (filing : Station) :
    LetterFiled i x s (s.fileLetter i number filing) := by
  have hfreed := freeLetter_freed hx
  have hevents := (freeLetter_shrinks s i).raises
  have hraise := Bus.raise_parts ((s.freeLetter i).bus.count fun c => { c with lettersFiled := c.lettersFiled + 1 })
    (.letterFiled number filing)
  have hlength := (Bus.Raises.raise ((s.freeLetter i).bus.count fun c => { c with lettersFiled := c.lettersFiled + 1 })
    (.letterFiled number filing)).control_length
  have hqueued := Bus.OnlyQueued.raise ((s.freeLetter i).bus.count fun c => { c with lettersFiled := c.lettersFiled + 1 })
    (.letterFiled number filing)
  have heq : s.fileLetter i number filing = { s.freeLetter i with
      bus := ((s.freeLetter i).bus.count fun c => { c with lettersFiled := c.lettersFiled + 1 }).raise (.letterFiled number filing) } := rfl
  rw [heq]
  generalize s.freeLetter i = v at *
  have hparts := hevents.parts
  generalize (v.bus.count fun c => { c with lettersFiled := c.lettersFiled + 1 }).raise (.letterFiled number filing) = b at *
  refine ⟨hfreed.freed, hfreed.others, ?_, ?_, (hevents.queued.trans (.count _ _)).trans hqueued, ?_, ?_⟩
  · rw [hraise]
    change v.bus.counters.lettersFiled + 1 = _
    rw [hparts]
  · have hrest := hfreed.rest
    generalize v.letters = ls at hrest ⊢
    generalize v.seg = sg at hrest ⊢
    generalize v.nums = ns at hrest ⊢
    rw [hrest]
  · rw [hraise]
    change v.bus.link.offDelivery = _
    rw [hparts]
  · have hlength' := hevents.control_length
    change b.link.control.length ≤ v.bus.link.control.length + 1 at hlength
    change b.link.control.length ≤ _
    omega

/-! ### A delivery that is over -/

/-- The active delivery is over, and the engine has not looked yet. -/
structure DeliveryOver (i : LetterIx) (s t : State) : Prop where
  others : OtherLetters i s t
  deliv : t.deliv = { s.deliv with active := none }
  bus : Bus.OnlyQueued s.bus t.bus
  offDelivery : t.bus.link.offDelivery = none
  room : t.bus.link.control.length ≤ s.bus.link.control.length + 5
  peers : t.peers = s.peers
  streamId : t.streamId = s.streamId
  lines : SameLines s t

namespace DeliveryOver

theorem chooseFiling (h : DeliveryOver i s t) : t.chooseFiling = s.chooseFiling := by
  have hsettings : t.bus.ctl.settings = s.bus.ctl.settings := by rw [h.bus.ctl]
  simp only [State.chooseFiling, h.peers, hsettings]

theorem retry (h : DeliveryOver i s t) : t.deliv.retry = s.deliv.retry := by rw [h.deliv]

theorem suspended (h : DeliveryOver i s t) : t.deliv.suspended = s.deliv.suspended := by rw [h.deliv]

theorem active (h : DeliveryOver i s t) : t.deliv.active = none := by rw [h.deliv]

theorem hasRoom (h : DeliveryOver i s t) (hroom : s.bus.link.control.length ≤ 10) : t.HasRoom := by
  have hlength := h.room
  change _ < 16
  omega

/-- With the retry timer running and nothing suspended the engine starts nothing (R174). -/
theorem rests (h : DeliveryOver i s t) (hretry : s.deliv.retry ≠ none) (hsuspended : s.deliv.suspended = none) :
    t.afterEnd = t := by
  rw [afterEnd_of_none (h.suspended.trans hsuspended)]
  exact look_of_not_startable (startable_eq_none (.inr (.inr (.inl (by rw [h.retry]; exact hretry)))))

theorem startable (h : DeliveryOver i s t) (hact : s.Active) (hattached : s.isDetached = false)
    (hretry : s.deliv.retry = none) (hfiling : s.chooseFiling = some st) (hhead : t.queueHead = some j) :
    t.startable = some (j, st) := by
  refine startable_eq_some.mpr ⟨h.bus.state.trans hact, ?_, h.retry.trans hretry, hhead, h.chooseFiling.trans hfiling⟩
  have hfault : t.bus.link.state = s.bus.link.state := by
    rw [h.bus.link]
    rfl
  rw [isDetached, hfault]
  exact hattached

/-- The next queue head is offered (R174, R186). -/
theorem offers (h : DeliveryOver i s t) (hact : s.Active) (hattached : s.isDetached = false)
    (hretry : s.deliv.retry = none) (hsuspended : s.deliv.suspended = none) (hfiling : s.chooseFiling = some st)
    (hroom : s.bus.link.control.length ≤ 10) (hhead : t.queueHead = some j) (hy : t.letters[j] = some y) :
    Offered j y st t t.afterEnd := by
  rw [afterEnd_of_none (h.suspended.trans hsuspended),
    look_of_idle (h.startable hact hattached hretry hfiling hhead) h.active (h.suspended.trans hsuspended)]
  exact offerLetter_offered hy (h.hasRoom hroom) st

/-- A suspended delivery goes on (R186). -/
theorem resumes (h : DeliveryOver i s t) (hsuspended : s.deliv.suspended = some (j, m)) (hj : j ≠ i)
    (hy : s.letters[j] = some y) : t.afterEnd = t.resumeSuspended.look ∧ Resumed j m y t t.resumeSuspended :=
  ⟨afterEnd_of_some h.active (h.suspended.trans hsuspended),
    resumeSuspended_resumed (h.suspended.trans hsuspended) ((h.others j hj).trans hy)⟩

end DeliveryOver

/-- A resumed letter, the suspended delivery of it active again and nothing suspended. -/
def Resumes (j : LetterIx) (m : Nat) (y : Letter) (t : State) : Prop :=
  t.letters[j] = some { y with state := .delivering } ∧ t.deliv.suspended = none ∧
    t.deliv.active = some ⟨j, m, .streaming, none, false, true, none⟩

theorem Resumed.resumes (h : Resumed j m y s t) : Resumes j m y t := ⟨h.letter, by rw [h.deliv], by rw [h.deliv]⟩

/-- A resumed delivery that the engine leaves alone (R174). -/
theorem Resumed.look_rests (h : Resumed j m y s t)
    (hnone : s.deliv.retry ≠ none ∨ ∀ (k : LetterIx) (z : Letter), k ≠ j → s.letters[k] = some z → z.queued = true →
      z.priority = .normal) : t.look = t := by
  obtain ⟨hletter, -, hactive⟩ := h.resumes
  refine look_idles hactive hletter ?_
  rcases hnone with hretry | hqueue
  · have hretry' : t.deliv.retry = s.deliv.retry := by rw [h.deliv]
    exact .inr (.inr (.inl (by rw [hretry']; exact hretry)))
  · refine .inr (.inr (.inr (.inr (.inr (.inr (.inr (.inr ?_)))))))
    intro k z hhead hz
    obtain ⟨z', hz', hqueued⟩ := queueHead_queued hhead
    rw [hz] at hz'
    cases hz'
    have hk : k ≠ j := by
      rintro rfl
      rw [hletter] at hz
      cases hz
      simp [Letter.queued] at hqueued
    exact hqueue k z hk ((h.others k hk).symm.trans hz) hqueued

end Sys2Proof.Machine.State
end

section
/-! A delivery filed, rejected, or left without an answer (R31, R182, R183, R185, R186). -/

namespace Sys2Proof.Machine.State

variable {s t u : State} {i j k : LetterIx} {a b : Machine.Active} {x y z : Letter} {p q : Progress} {st sender : Station}
  {name m n tag : Nat}

/-! ### What the rows do (R182, R183) -/

theorem taggedFor_eq_some : s.taggedFor sender n tag = some (a, x, p) ↔
    s.activeOf = some (a, x, p) ∧ p.filing = sender ∧ x.number = n ∧ p.tag = some tag := by
  simp only [taggedFor, activeFor, Option.filter_eq_some_iff, Bool.and_eq_true, beq_iff_eq, and_assoc]

theorem exec_filed_tagged (hact : s.Active) (hfiling : s.isFiling sender = true)
    (h : s.taggedFor sender n tag = some (a, x, p))
    (hphase : a.phase = .ended ∨ (a.phase = .streaming ∧ x.chain.length ≤ p.record)) :
    exec (.filed sender n tag) s =
      .next (((s.taken (.filed sender n tag)).clearActive.fileLetter a.letter x.number p.filing).afterEnd) := by
  have hcond : (s.taken (.filed sender n tag)).isActive = true ∧ (s.taken (.filed sender n tag)).isFiling sender = true :=
    ⟨isActive_of hact, hfiling⟩
  have h' : (s.taken (.filed sender n tag)).taggedFor sender n tag = some (a, x, p) := h
  have hphase' : a.phase = .ended ∨ (a.phase = .streaming ∧ atEnd x p = true) := hphase.imp_right (.imp_right decide_eq_true)
  change execFiled sender n tag s = _
  simp only [execFiled, if_pos hcond, h', filedActive, if_pos hphase']

theorem exec_filed_late (hact : s.Active) (hfiling : s.isFiling sender = true) (h : s.taggedFor sender n tag = none) :
    exec (.filed sender n tag) s = .next ((s.taken (.filed sender n tag)).filedLate ⟨n, sender, tag⟩) := by
  have hcond : (s.taken (.filed sender n tag)).isActive = true ∧ (s.taken (.filed sender n tag)).isFiling sender = true :=
    ⟨isActive_of hact, hfiling⟩
  have h' : (s.taken (.filed sender n tag)).taggedFor sender n tag = none := h
  change execFiled sender n tag s = _
  simp only [execFiled, if_pos hcond, h']

theorem exec_deliveryRejected_tagged (hact : s.Active) (hfiling : s.isFiling sender = true)
    (h : s.taggedFor sender n tag = some (a, x, p)) (hphase : a.phase = .streaming ∨ a.phase = .ended) (reason : Nat) :
    exec (.deliveryRejected sender n tag reason) s =
      .next (s.taken (.deliveryRejected sender n tag reason)).rejectActive := by
  have hcond : (s.taken (.deliveryRejected sender n tag reason)).isActive = true ∧
      (s.taken (.deliveryRejected sender n tag reason)).isFiling sender = true := ⟨isActive_of hact, hfiling⟩
  have h' : (s.taken (.deliveryRejected sender n tag reason)).taggedFor sender n tag = some (a, x, p) := h
  change execDeliveryRejected sender n tag reason s = _
  simp only [execDeliveryRejected, if_pos hcond, h', if_pos hphase]

theorem exec_deliveryRejected_untagged (h : s.taggedFor sender n tag = none) (reason : Nat) :
    exec (.deliveryRejected sender n tag reason) s = .next (s.taken (.deliveryRejected sender n tag reason)) := by
  have h' : (s.taken (.deliveryRejected sender n tag reason)).taggedFor sender n tag = none := h
  change execDeliveryRejected sender n tag reason s = _
  simp only [execDeliveryRejected, h', ite_self]

theorem exec_letterEndAnswerTimeout (h : s.activeOf = some (a, x, p)) (hphase : a.phase = .ended) (htimer : a.timer ≠ none)
    (htag : p.tag = some tag) : exec .letterEndAnswerTimeout s =
      .next ((s.taken .letterEndAnswerTimeout).addUnconfirmed ⟨x.number, p.filing, tag⟩).rejectActive := by
  have h' : (s.taken .letterEndAnswerTimeout).activeOf = some (a, x, p) := h
  change execLetterEndAnswerTimeout s = _
  simp only [execLetterEndAnswerTimeout, h', hphase, Option.isSome_iff_ne_none.mpr htimer, and_self, if_true, noteUnconfirmed,
    htag]

/-! ### Filed late (R183) -/

theorem filedLate_of_mem (h : (⟨n, sender, tag⟩ : Unconfirmed) ∈ s.deliv.unconfirmed) : s.filedLate ⟨n, sender, tag⟩ =
    match s.filesLate n with
    | some i => (s.onDeliv fun d => { d with unconfirmed := d.unconfirmed.erase ⟨n, sender, tag⟩ }).fileLetter i n sender
    | none => s.onDeliv fun d => { d with unconfirmed := d.unconfirmed.erase ⟨n, sender, tag⟩ } := by
  have hcontains : s.deliv.unconfirmed.contains ⟨n, sender, tag⟩ = true := List.contains_iff_mem.mpr h
  simp only [filedLate, hcontains, if_true]
  rfl

theorem filedLate_of_not_mem (h : (⟨n, sender, tag⟩ : Unconfirmed) ∉ s.deliv.unconfirmed) :
    s.filedLate ⟨n, sender, tag⟩ = s := by
  have hcontains : s.deliv.unconfirmed.contains ⟨n, sender, tag⟩ = false := by
    rw [Bool.eq_false_iff, ne_eq, List.contains_iff_mem]
    exact h
  rw [filedLate, if_neg (by rw [hcontains]; decide)]

theorem filed_late (hact : s.Active) (hfiling : s.isFiling sender = true) (h : s.taggedFor sender n tag = none)
    (hmem : (⟨n, sender, tag⟩ : Unconfirmed) ∈ s.deliv.unconfirmed) :
    (s.filesLate n = none → ∃ t, exec (.filed sender n tag) s = .next t ∧
      t.deliv = { s.deliv with unconfirmed := s.deliv.unconfirmed.erase ⟨n, sender, tag⟩ } ∧
      t.letters = s.letters ∧ t.bus = s.bus ∧ t.seg = s.seg ∧ SameLines s t) ∧
    (∀ i x, s.filesLate n = some i → s.letters[i] = some x →
      ∃ t, exec (.filed sender n tag) s = .next t ∧ Freed i x s t ∧ OtherLetters i s t ∧
        t.deliv = { s.deliv with unconfirmed := s.deliv.unconfirmed.erase ⟨n, sender, tag⟩ } ∧
        t.bus.counters.lettersFiled = s.bus.counters.lettersFiled + 1 ∧ SameLines s t) := by
  have hexec := exec_filed_late hact hfiling h
  have hlate := filedLate_of_mem (s := s.taken (.filed sender n tag)) hmem
  refine ⟨fun hnone => ?_, fun i x hsome hx => ?_⟩
  · have hnone' : (s.taken (.filed sender n tag)).filesLate n = none := hnone
    simp only [hnone'] at hlate
    exact ⟨_, hexec.trans (congrArg Host.Outcome.next hlate), rfl, rfl, rfl, rfl, rfl, rfl, rfl, rfl⟩
  · have hsome' : (s.taken (.filed sender n tag)).filesLate n = some i := hsome
    simp only [hsome'] at hlate
    have hfiled := fileLetter_filed (s := (s.taken (.filed sender n tag)).onDeliv fun d =>
      { d with unconfirmed := d.unconfirmed.erase ⟨n, sender, tag⟩ }) hx n sender
    have hrest := hfiled.rest
    refine ⟨_, hexec.trans (congrArg Host.Outcome.next hlate), hfiled.freed, hfiled.others, ?_, hfiled.filed, ?_⟩
    · rw [hrest]
      rfl
    · rw [hrest]
      exact ⟨rfl, rfl, rfl, rfl⟩

/-! ### Filed (R31, R182) -/

/-- The letter of the active delivery has been filed, and the engine has not looked yet. -/
def filing (s : State) (a : Machine.Active) (x : Letter) (p : Progress) : State :=
  s.clearActive.fileLetter a.letter x.number p.filing

theorem filing_filed (h : s.activeOf = some (a, x, p)) : LetterFiled a.letter x s.clearActive (s.filing a x p) := by
  obtain ⟨-, hx, -⟩ := activeOf_eq_some.mp h
  exact fileLetter_filed (s := s.clearActive) hx x.number p.filing

theorem filing_over (h : s.activeOf = some (a, x, p)) : DeliveryOver a.letter s (s.filing a x p) := by
  have hfiled := filing_filed h
  have hrest := hfiled.rest
  refine ⟨hfiled.others, ?_, hfiled.bus, hfiled.offDelivery, hfiled.room, ?_, ?_, ?_⟩
  all_goals rw [hrest]
  · rfl
  · rfl
  · rfl
  · exact ⟨rfl, rfl, rfl, rfl⟩

/-- What a filing comes to, whatever the engine does next (R31, R182). -/
theorem filing_ends (h : s.activeOf = some (a, x, p)) : (s.filing a x p).afterEnd.letters[a.letter] = none ∧
    SameBytes s (s.filing a x p).afterEnd ∧
    (s.filing a x p).afterEnd.seg.poolFree = s.seg.poolFree + x.chain.length ∧
    (s.filing a x p).afterEnd.bus.counters.lettersFiled = s.bus.counters.lettersFiled + 1 ∧
    SameLines s (s.filing a x p).afterEnd ∧
    (s.deliv.retry ≠ none → s.deliv.suspended = none → OtherLetters a.letter s (s.filing a x p).afterEnd ∧
      (s.filing a x p).afterEnd.deliv = { s.deliv with active := none } ∧
      (s.filing a x p).afterEnd.bus.link.offDelivery = none) := by
  have hfiled := filing_filed h
  have hover := filing_over h
  generalize s.filing a x p = u at *
  have hkeeps := afterEnd_keeps u
  have honly := afterEnd_only u
  obtain ⟨hfree, hbytes, hpool, -⟩ := hfiled.freed
  have hbytes' : SameBytes s u := hbytes
  have hpool' : u.seg.poolFree = s.seg.poolFree + x.chain.length := hpool
  refine ⟨hkeeps.free _ hfree, ?_, by rw [honly.seg, hpool'], hkeeps.filed.trans hfiled.filed,
    hover.lines.trans honly.sameLines, fun hretry hsuspended => ?_⟩
  · intro b
    rw [honly.seg]
    exact hbytes' b
  · rw [hover.rests hretry hsuspended]
    exact ⟨hover.others, hover.deliv, hover.offDelivery⟩

/-- The next letter is offered when one has been filed (R174, R182). -/
theorem filing_offers (h : s.activeOf = some (a, x, p)) (hact : s.Active) (hattached : s.isDetached = false)
    (hretry : s.deliv.retry = none) (hsuspended : s.deliv.suspended = none) (hfiling : s.chooseFiling = some st)
    (hroom : s.bus.link.control.length ≤ 8) (hstate : x.state = .delivering) (hhead : s.queueHead = some j) :
    JustOffered j st s.streamId (s.filing a x p).afterEnd := by
  obtain ⟨-, hx, -⟩ := activeOf_eq_some.mp h
  obtain ⟨hfree, -⟩ := (filing_filed h).freed
  have hover := filing_over h
  generalize s.filing a x p = u at *
  obtain ⟨y, hy, hqueued⟩ := queueHead_queued hhead
  have hj : j ≠ a.letter := by
    rintro rfl
    rw [hx] at hy
    cases hy
    simp [Letter.queued, hstate] at hqueued
  have hhead' : u.queueHead = some j := by
    refine queueHead_of_fewer hhead (hover.others j hj) fun k z hz _ => ?_
    have hk : k ≠ a.letter := by
      rintro rfl
      rw [hfree] at hz
      cases hz
    exact (hover.others k hk).symm.trans hz
  have hoffer := hover.offers hact hattached hretry hsuspended hfiling (by omega) hhead' ((hover.others j hj).trans hy)
  exact hover.streamId ▸ hoffer.justOffered

/-- A suspended delivery goes on when the active one's letter has been filed (R182, R186). -/
theorem filing_resumes (h : s.activeOf = some (a, x, p)) (hsuspended : s.deliv.suspended = some (j, m)) (hj : j ≠ a.letter)
    (hy : s.letters[j] = some y) (hnone : s.deliv.retry ≠ none ∨
      ∀ (k : LetterIx) (z : Letter), s.letters[k] = some z → z.queued = true → z.priority = .normal) :
    (s.filing a x p).afterEnd.letters[a.letter] = none ∧ Resumes j m y (s.filing a x p).afterEnd := by
  obtain ⟨hfree, -⟩ := (filing_filed h).freed
  have hover := filing_over h
  generalize s.filing a x p = u at *
  obtain ⟨heq, hresumed⟩ := hover.resumes hsuspended hj hy
  have hkeeps := afterEnd_keeps u
  refine ⟨hkeeps.free _ hfree, ?_⟩
  rw [heq, hresumed.look_rests]
  · exact hresumed.resumes
  · rw [hover.retry]
    refine hnone.imp_right fun hqueue k z _ hz hqueued => ?_
    have hk : k ≠ a.letter := by
      rintro rfl
      rw [hfree] at hz
      cases hz
    exact hqueue k z ((hover.others k hk).symm.trans hz) hqueued

/-! ### Rejected (R182, R183) -/

/-- The letter of the active delivery after one attempt more (R182). -/
def attempted (x : Letter) : Letter :=
  { x with progress := none, attempts := x.attempts + 1, state := if x.attempts + 1 < 3 then .closed else .stranded }

/-- The active delivery has ended with one attempt more for its letter (R182). -/
def attemptOver (s : State) (a : Machine.Active) (x : Letter) : State :=
  (s.onLetter a.letter fun y => { y with
    progress := none, attempts := x.attempts + 1
    state := if x.attempts + 1 < 3 then .closed else .stranded }).clearActive

/-- The active delivery has been rejected, and the engine has not looked yet. -/
def rejection (s : State) (a : Machine.Active) (x : Letter) (p : Progress) : State :=
  if x.attempts + 1 < 3 then s.attemptOver a x else (s.attemptOver a x).raise (.letterStranded x.number p.filing)

theorem rejectActive_eq (h : s.activeOf = some (a, x, p)) : s.rejectActive = (s.rejection a x p).afterEnd := by
  rw [rejectActive, h]
  rfl

theorem attemptOver_over (hx : s.letters[a.letter] = some x) :
    DeliveryOver a.letter s (s.attemptOver a x) ∧ (s.attemptOver a x).letters[a.letter] = some (attempted x) := by
  obtain ⟨hletter, hothers⟩ := onLetter_spec hx fun y => { y with
    progress := none, attempts := x.attempts + 1, state := if x.attempts + 1 < 3 then .closed else .stranded }
  exact ⟨⟨hothers, rfl, rfl, rfl, Nat.le_add_right _ _, rfl, rfl, rfl, rfl, rfl, rfl⟩, hletter⟩

/-- An event more leaves a delivery that is over as it is. -/
theorem DeliveryOver.raise (h : DeliveryOver i s t) (hroom : t.bus.link.control.length ≤ s.bus.link.control.length)
    (e : Event) : DeliveryOver i s (t.raise e) := by
  have hparts := Bus.raise_parts t.bus e
  have hlength := (Bus.Raises.raise t.bus e).control_length
  refine ⟨h.others, h.deliv, h.bus.trans (.raise _ _), ?_, ?_, h.peers, h.streamId, h.lines⟩
  · change (t.bus.raise e).link.offDelivery = none
    rw [hparts]
    exact h.offDelivery
  · change (t.bus.raise e).link.control.length ≤ _
    omega

theorem rejection_over (h : s.activeOf = some (a, x, p)) :
    DeliveryOver a.letter s (s.rejection a x p) ∧ (s.rejection a x p).letters[a.letter] = some (attempted x) := by
  obtain ⟨-, hx, -⟩ := activeOf_eq_some.mp h
  obtain ⟨hover, hletter⟩ := attemptOver_over hx
  unfold rejection
  split
  · exact ⟨hover, hletter⟩
  · exact ⟨hover.raise (le_refl s.bus.link.control.length) _, hletter⟩

theorem rejection_seg (s : State) (a : Machine.Active) (x : Letter) (p : Progress) : (s.rejection a x p).seg = s.seg := by
  unfold rejection
  split <;> rfl

theorem rejection_bus (hmore : x.attempts + 1 < 3) (s : State) (a : Machine.Active) (p : Progress) :
    (s.rejection a x p).bus = { s.bus with link := { s.bus.link with offDelivery := none } } := by
  rw [rejection, if_pos hmore]
  rfl

/-- With the retry timer running and nothing suspended a rejection is all (R182). -/
theorem reject_rests (h : s.activeOf = some (a, x, p)) (hsuspended : s.deliv.suspended = none) (hretry : s.deliv.retry ≠ none) :
    s.rejectActive.letters[a.letter] = some (attempted x) ∧ OtherLetters a.letter s s.rejectActive ∧
      s.rejectActive.deliv = { s.deliv with active := none } ∧ s.rejectActive.seg = s.seg ∧
      (x.attempts + 1 < 3 → s.rejectActive.bus = { s.bus with link := { s.bus.link with offDelivery := none } }) ∧
      SameLines s s.rejectActive := by
  obtain ⟨hover, hletter⟩ := rejection_over h
  rw [rejectActive_eq h, hover.rests hretry hsuspended]
  exact ⟨hletter, hover.others, hover.deliv, rejection_seg s a x p, fun hmore => rejection_bus hmore s a p, hover.lines⟩

/-- The letter that came back is the queue's head, where the queue was empty (R30, R182). -/
theorem rejection_head (h : s.activeOf = some (a, x, p)) (hnumber : 0 < x.number) (hhead : s.queueHead = none)
    (hmore : x.attempts + 1 < 3) : (s.rejection a x p).queueHead = some a.letter := by
  obtain ⟨hover, hletter⟩ := rejection_over h
  refine queueHead_of_only hletter ?_ fun k z hk hz => ?_
  · have hpositive : x.number ≠ 0 := by omega
    simp [Letter.queued, attempted, hmore, hpositive]
  · exact queueHead_eq_none.mp hhead k z ((hover.others k hk).symm.trans hz)

/-- The rejected letter is offered again at once where nothing else waits (R174, R182). -/
theorem reject_offers (h : s.activeOf = some (a, x, p)) (hnumber : 0 < x.number) (hact : s.Active)
    (hattached : s.isDetached = false) (hretry : s.deliv.retry = none) (hsuspended : s.deliv.suspended = none)
    (hfiling : s.chooseFiling = some st) (hroom : s.bus.link.control.length ≤ 8) (hhead : s.queueHead = none)
    (hmore : x.attempts + 1 < 3) : ∃ y, JustOffered a.letter st s.streamId s.rejectActive ∧
      s.rejectActive.letters[a.letter] = some y ∧ y.attempts = x.attempts + 1 := by
  obtain ⟨hover, hletter⟩ := rejection_over h
  have hhead' := rejection_head h hnumber hhead hmore
  rw [rejectActive_eq h]
  have hoffer := hover.offers hact hattached hretry hsuspended hfiling (by omega) hhead' hletter
  exact ⟨_, hover.streamId ▸ hoffer.justOffered, hoffer.letter, rfl⟩

/-- A suspended delivery goes on when the active one has been rejected (R182, R186). -/
theorem reject_resumes (h : s.activeOf = some (a, x, p)) (hsuspended : s.deliv.suspended = some (j, m)) (hj : j ≠ a.letter)
    (hy : s.letters[j] = some y) (hretry : s.deliv.retry ≠ none) : Resumes j m y s.rejectActive := by
  obtain ⟨hover, -⟩ := rejection_over h
  obtain ⟨heq, hresumed⟩ := hover.resumes hsuspended hj hy
  rw [rejectActive_eq h, heq, hresumed.look_rests (.inl (by rw [hover.retry]; exact hretry))]
  exact hresumed.resumes

/-- A resumption leaves what can start as it is (R174). -/
theorem Resumed.startable (h : Resumed j m y s t) (hqueued : OnlyQueued s t) (hk : k ≠ j)
    (hstart : s.startable = some (k, st)) : t.startable = some (k, st) := by
  obtain ⟨hact, hattached, hretry, hhead, hfiling⟩ := startable_eq_some.mp hstart
  refine startable_eq_some.mpr ⟨hqueued.state.trans hact, ?_, ?_, ?_, ?_⟩
  · have hfault : t.bus.link.state = s.bus.link.state := by
      rw [hqueued.link]
      rfl
    rw [isDetached, hfault]
    exact hattached
  · rw [h.deliv]
    exact hretry
  · refine queueHead_of_fewer hhead (h.others _ hk) fun i z hz hzq => ?_
    have hi : i ≠ j := by
      rintro rfl
      rw [h.letter] at hz
      cases hz
      simp [Letter.queued] at hzq
    exact (h.others i hi).symm.trans hz
  · have hchoose : t.chooseFiling = s.chooseFiling := by simp only [State.chooseFiling, h.only.peers, h.ctl]
    exact hchoose.trans hfiling

/-- The urgent letter that came back suspends the delivery it had suspended, anew (R185, R186). -/
theorem reject_suspends (h : s.activeOf = some (a, x, p)) (hsuspended : s.deliv.suspended = some (j, m)) (hj : j ≠ a.letter)
    (hy : s.letters[j] = some y) (hnumber : 0 < x.number) (hact : s.Active) (hattached : s.isDetached = false)
    (hretry : s.deliv.retry = none) (hhead : s.queueHead = none) (hfiling : s.chooseFiling = some st)
    (hroom : s.bus.link.control.length ≤ 8) (hcurrent : s.bus.link.current = none) (hurgent : x.priority = .urgent)
    (hnormal : y.priority = .normal) (hmore : x.attempts + 1 < 3) :
    JustOffered a.letter st s.streamId s.rejectActive ∧ s.rejectActive.letters[j] = some { y with state := .suspended } ∧
      s.rejectActive.deliv.suspended = some (j, m) := by
  obtain ⟨hover, hletter⟩ := rejection_over h
  have hhead' := rejection_head h hnumber hhead hmore
  obtain ⟨heq, hresumed⟩ := hover.resumes hsuspended hj hy
  have hqueued := resumeSuspended_queued (s.rejection a x p)
  have hstart := hresumed.startable hqueued hj.symm (hover.startable hact hattached hretry hfiling hhead')
  have hroom' : (s.rejection a x p).resumeSuspended.HasRoom := by
    rw [HasRoom, hresumed.control]
    exact hover.hasRoom (by omega)
  have hcurrent' : (s.rejection a x p).resumeSuspended.bus.link.current = none := by
    rw [hresumed.current, hover.bus.link]
    exact hcurrent
  have hname := hresumed.streamId.trans hover.streamId
  rw [rejectActive_eq h, heq]
  generalize (s.rejection a x p).resumeSuspended = v at *
  obtain ⟨hresumedLetter, hnothing, hactive⟩ := hresumed.resumes
  have hcurrentNot : v.deliveryCurrent m = false := by
    rw [Bool.eq_false_iff, ne_eq, deliveryCurrent_iff]
    rintro ⟨c, hc, -⟩
    rw [hcurrent'] at hc
    cases hc
  obtain ⟨-, -, hsuspends⟩ := look_urgent hactive hresumedLetter hstart ((hresumed.others _ hj.symm).trans hletter)
    hurgent hnormal hnothing
  have hsuspend := hsuspends rfl hcurrentNot hroom'
  refine ⟨?_, hsuspend.letter, by rw [hsuspend.deliv]⟩
  rw [← hname]
  exact hsuspend.offered

end Sys2Proof.Machine.State
end

section
/-! The ends of deliveries settled (R31, R182, R183, R185, R186). -/

namespace Sys2Proof.Machine.State

variable {s t u : State} {i j k : LetterIx} {a b : Machine.Active} {x y z : Letter} {p q : Progress} {st sender : Station}
  {name m n tag : Nat}

/-- The station with the end of its delivery noted as unconfirmed (R183). -/
def endNoted (s : State) (x : Letter) (p : Progress) (tag : Nat) : State :=
  (s.taken .letterEndAnswerTimeout).addUnconfirmed ⟨x.number, p.filing, tag⟩

/-- Settles O49: filed, rejected and unanswered, each by what it leaves and what the engine does next. -/
theorem deliveriesEnd : Obligations.DeliveriesEnd := by
  unfold Obligations.DeliveriesEnd
  intro s sender n tag hact hfiling
  refine ⟨fun a x p htagged hphase => ?filed, fun htagged => ⟨fun hmem => ?unknown, fun hmem => filed_late hact hfiling htagged hmem,
    fun reason => exec_deliveryRejected_untagged htagged reason⟩, fun a x p hsuspended hretry => ⟨fun htagged hphase reason => ?rejected,
      fun h hphase htimer htag => ?unanswered⟩, fun a x p st htagged hnumber hattached hretry hsuspended hchosen hroom =>
        ⟨fun j hstate hhead hphase => ?nextFiled, fun hhead hmore hphase reason => ?nextRejected,
          fun hhead hmore hphase htimer => ?nextUnanswered⟩, fun a x p j m y q htagged hsuspended hj hy hq =>
            ⟨fun hnone hphase hstate => ?resumedFiled, fun hretry hphase reason => ?resumedRejected,
              fun hretry hphase htimer => ?resumedUnanswered, fun st hnumber hattached hretry hhead hchosen hroom hcurrent
                hurgent hnormal hmore hphase reason => ?suspendedAnew⟩⟩
  case filed =>
    obtain ⟨h, -⟩ := taggedFor_eq_some.mp htagged
    exact ⟨_, exec_filed_tagged hact hfiling htagged hphase, filing_ends (s := s.taken (.filed sender n tag)) h⟩
  case unknown =>
    exact (exec_filed_late hact hfiling htagged).trans
      (congrArg Host.Outcome.next (filedLate_of_not_mem (s := s.taken (.filed sender n tag)) hmem))
  case rejected =>
    obtain ⟨h, -⟩ := taggedFor_eq_some.mp htagged
    exact ⟨_, exec_deliveryRejected_tagged hact hfiling htagged hphase reason,
      reject_rests (s := s.taken (.deliveryRejected sender n tag reason)) h hsuspended hretry⟩
  case unanswered =>
    obtain ⟨hletter, hothers, hdeliv, hseg, -, hlines⟩ := reject_rests (s := s.endNoted x p tag) h hsuspended hretry
    exact ⟨_, exec_letterEndAnswerTimeout h hphase htimer htag, hletter, hothers, hdeliv, hseg, hlines⟩
  case nextFiled =>
    obtain ⟨h, -⟩ := taggedFor_eq_some.mp htagged
    obtain ⟨hfree, -⟩ := filing_ends (s := s.taken (.filed sender n tag)) h
    exact ⟨_, exec_filed_tagged hact hfiling htagged hphase, hfree,
      filing_offers (s := s.taken (.filed sender n tag)) h hact hattached hretry hsuspended hchosen hroom hstate hhead⟩
  case nextRejected =>
    obtain ⟨h, -, hn, -⟩ := taggedFor_eq_some.mp htagged
    obtain ⟨z, hoffered⟩ := reject_offers (s := s.taken (.deliveryRejected sender n tag reason)) h (hn ▸ hnumber) hact hattached
      hretry hsuspended hchosen hroom hhead hmore
    exact ⟨_, z, exec_deliveryRejected_tagged hact hfiling htagged hphase reason, hoffered⟩
  case nextUnanswered =>
    obtain ⟨h, -, hn, htag⟩ := taggedFor_eq_some.mp htagged
    obtain ⟨z, hoffered⟩ := reject_offers (s := s.endNoted x p tag) h (hn ▸ hnumber) hact hattached hretry hsuspended hchosen
      hroom hhead hmore
    exact ⟨_, z, exec_letterEndAnswerTimeout h hphase htimer htag, hoffered⟩
  case resumedFiled =>
    obtain ⟨h, -⟩ := taggedFor_eq_some.mp htagged
    exact ⟨_, exec_filed_tagged hact hfiling htagged hphase,
      filing_resumes (s := s.taken (.filed sender n tag)) h hsuspended hj hy hnone⟩
  case resumedRejected =>
    obtain ⟨h, -⟩ := taggedFor_eq_some.mp htagged
    exact ⟨_, exec_deliveryRejected_tagged hact hfiling htagged hphase reason,
      reject_resumes (s := s.taken (.deliveryRejected sender n tag reason)) h hsuspended hj hy hretry⟩
  case resumedUnanswered =>
    obtain ⟨h, -, -, htag⟩ := taggedFor_eq_some.mp htagged
    exact ⟨_, exec_letterEndAnswerTimeout h hphase htimer htag,
      reject_resumes (s := s.endNoted x p tag) h hsuspended hj hy hretry⟩
  case suspendedAnew =>
    obtain ⟨h, -, hn, -⟩ := taggedFor_eq_some.mp htagged
    exact ⟨_, exec_deliveryRejected_tagged hact hfiling htagged hphase reason,
      reject_suspends (s := s.taken (.deliveryRejected sender n tag reason)) h hsuspended hj hy (hn ▸ hnumber) hact hattached
        hretry hhead hchosen hroom hcurrent hurgent hnormal hmore⟩

end Sys2Proof.Machine.State
end

section
/-! The full Control Queue: a pressure event the statement does not count (R129, R167, R49). -/

namespace Sys2Proof.Machine.State

/-- The collection of line 0, whose one pick is letter 5 of station 2. -/
def remotePick : Collection := ⟨0, 1#8, 0, 1, true, 100, [(2, 5)]⟩

/-- A station with a full Control Queue and line 0 at the end of its collection window. A filling block of no slices
is left over under the FREE entry that the Fetch is about to take, and the pressure tier is B. -/
def leftoverBlock : State := { State.reset with
  bus := { State.reset.bus with link := { State.reset.bus.link with control := List.replicate 16 ⟨63, .take 1, 0⟩ } }
  lines := State.reset.lines.set 0 { State.reset.lines[0] with state := .locate, locate := some 1#8 }
  seg := { State.reset.seg with tier := .b, blocks := [⟨0, 0, 0, 0, 0, 0, 0, some .transfer⟩] }
  peers := [⟨2, .squeeze, ⟨.squeeze, 2, false, 1, 0, 0, 0, 0⟩, 0, true⟩]
  xfer := { State.reset.xfer with collections := [remotePick] } }

theorem leftoverBlock_full : leftoverBlock.QueueFull := by
  refine ⟨le_refl 16, fun q hq => ?_⟩
  rw [List.eq_of_mem_replicate hq]
  decide

/-- The dropped Fetch frees the letter that was to come, and the leftover block with it: the tier falls to A, and the
Pressure Tier event is the fourth that is lost. -/
theorem leftoverBlock_loses : ∃ t, exec (.collectionWindowExpiry 0) leftoverBlock = .next t ∧
    t.bus.counters.eventsLost = 4#32 := ⟨_, rfl, rfl⟩

/-- Refutes O53: the last clause counts three events lost, but where a block is left over under the entry that the
dropped Fetch had taken, freeing that letter can raise a Pressure Tier event too. -/
theorem not_fullQueue : ¬Obligations.FullQueue := by
  unfold Obligations.FullQueue
  rintro ⟨-, -, h⟩
  obtain ⟨-, -, -, -, hpick⟩ := h leftoverBlock leftoverBlock_full
  obtain ⟨t, ht, ⟨-, hcounters, -⟩, -⟩ := hpick 0 remotePick 2 5 0 rfl rfl rfl rfl rfl rfl rfl rfl
  obtain ⟨u, hu, hlost⟩ := leftoverBlock_loses
  rw [ht] at hu
  cases hu
  rw [hcounters] at hlost
  exact absurd hlost (by decide)

end Sys2Proof.Machine.State
end

section
/-! Deliveries aborted, and entry into DETACHED (R122, R123, R168, R187). -/

namespace Sys2Proof.Machine.State

variable {s t u : State} {i j : LetterIx} {a : Machine.Active} {x y : Letter} {p : Progress} {name g : Nat}

/-! ### The active delivery aborted (R187) -/

/-- The station with the end of an ended delivery noted as unconfirmed (R187). -/
def notedIfEnded (s : State) (a : Machine.Active) (x : Letter) (p : Progress) : State :=
  when (a.phase == .ended) (·.noteUnconfirmed x p) s

theorem notedIfEnded_deliv (s : State) (a : Machine.Active) (x : Letter) (p : Progress) :
    s.notedIfEnded a x p = { s with deliv := (s.notedIfEnded a x p).deliv } ∧
      (s.notedIfEnded a x p).deliv = { s.deliv with unconfirmed := (s.notedIfEnded a x p).deliv.unconfirmed } := by
  unfold notedIfEnded when noteUnconfirmed
  split
  · split <;> exact ⟨rfl, rfl⟩
  · exact ⟨rfl, rfl⟩

theorem notedIfEnded_of_running (h : a.phase ≠ .ended) (s : State) (x : Letter) (p : Progress) : s.notedIfEnded a x p = s := by
  rw [notedIfEnded, when, if_neg (by simpa using h)]

theorem notedIfEnded_noted (h : a.phase = .ended) (hg : p.tag = some g) (s : State) (x : Letter) :
    (⟨x.number, p.filing, g⟩ : Unconfirmed) ∈ (s.notedIfEnded a x p).deliv.unconfirmed := by
  have heq : s.notedIfEnded a x p = s.addUnconfirmed ⟨x.number, p.filing, g⟩ := by
    rw [notedIfEnded, when, if_pos (by simp [h]), noteUnconfirmed, hg]
  rw [heq]
  exact List.mem_append_right _ (List.mem_singleton.mpr rfl)

theorem abortActive_of (h : s.activeOf = some (a, x, p)) :
    s.abortActive = ((s.notedIfEnded a x p).closeAgain a.letter).clearActive := by
  rw [abortActive, h]
  rfl

/-- The active delivery is over, and its letter CLOSED again, its attempts as they were (R187). -/
theorem abortActive_over (h : s.activeOf = some (a, x, p)) : DeliveryOver a.letter (s.notedIfEnded a x p) s.abortActive ∧
    DeliveryAborted a.letter x s.abortActive ∧ s.abortActive.seg = s.seg := by
  obtain ⟨-, hx, -⟩ := activeOf_eq_some.mp h
  obtain ⟨hrest, -⟩ := notedIfEnded_deliv s a x p
  rw [abortActive_of h]
  generalize s.notedIfEnded a x p = v at *
  have hletters : v.letters = s.letters := by rw [hrest]
  have hseg : v.seg = s.seg := by rw [hrest]
  obtain ⟨hletter, hothers⟩ := onLetter_spec (s := v) (hletters ▸ hx) fun x => { x with state := .closed, progress := none }
  exact ⟨⟨hothers, rfl, rfl, rfl, Nat.le_add_right _ _, rfl, rfl, rfl, rfl, rfl, rfl⟩, hletter, hseg⟩

theorem abortActive_of_none (h : s.activeOf = none) : s.abortActive = s := by rw [abortActive, h]

/-- An abort leaves all but the letters, the delivery engine and the frame offered. -/
theorem abortActive_rest (s : State) : s.abortActive = { s with
    letters := s.abortActive.letters, deliv := s.abortActive.deliv
    bus := { s.bus with link := { s.bus.link with offDelivery := s.abortActive.bus.link.offDelivery } } } := by
  cases h : s.activeOf with
  | none => rw [abortActive_of_none h]
  | some e =>
    obtain ⟨a, x, p⟩ := e
    obtain ⟨hrest, -⟩ := notedIfEnded_deliv s a x p
    rw [abortActive_of h]
    generalize s.notedIfEnded a x p = v at *
    rw [hrest]
    rfl

theorem abortActive_deliv (s : State) : s.abortActive.deliv.suspended = s.deliv.suspended ∧
    s.abortActive.deliv.retry = s.deliv.retry := by
  cases h : s.activeOf with
  | none =>
    rw [abortActive_of_none h]
    exact ⟨rfl, rfl⟩
  | some e =>
    obtain ⟨a, x, p⟩ := e
    obtain ⟨hover, -⟩ := abortActive_over h
    obtain ⟨-, hdeliv⟩ := notedIfEnded_deliv s a x p
    rw [hover.suspended, hover.retry, hdeliv]
    exact ⟨rfl, rfl⟩

theorem abortActive_other (h : ∀ a, s.deliv.active = some a → a.letter ≠ i) : s.abortActive.letters[i] = s.letters[i] := by
  cases hactive : s.activeOf with
  | none => rw [abortActive_of_none hactive]
  | some e =>
    obtain ⟨a, x, p⟩ := e
    obtain ⟨ha, -⟩ := activeOf_eq_some.mp hactive
    obtain ⟨hover, -⟩ := abortActive_over hactive
    obtain ⟨hrest, -⟩ := notedIfEnded_deliv s a x p
    have hletters : (s.notedIfEnded a x p).letters = s.letters := by rw [hrest]
    rw [hover.others i (h a ha).symm, hletters]

/-! ### The suspended delivery aborted (R187) -/

theorem abortSuspended_of_none (h : s.deliv.suspended = none) : s.abortSuspended = s := by rw [abortSuspended, h]

theorem abortSuspended_of (h : s.deliv.suspended = some (i, name)) : s.abortSuspended = { s with
    letters := (s.closeAgain i).letters, deliv := { s.deliv with suspended := none } } := by
  rw [abortSuspended, h]
  rfl

theorem abortSuspended_rest (s : State) : s.abortSuspended = { s with
    letters := s.abortSuspended.letters, deliv := { s.deliv with suspended := none } } := by
  cases h : s.deliv.suspended with
  | none =>
    rw [abortSuspended_of_none h, ← h]
  | some e =>
    obtain ⟨i, name⟩ := e
    rw [abortSuspended_of h]

theorem abortSuspended_aborted (h : s.deliv.suspended = some (i, name)) (hx : s.letters[i] = some x) :
    DeliveryAborted i x s.abortSuspended := by
  obtain ⟨hletter, -⟩ := onLetter_spec hx fun x => { x with state := .closed, progress := none }
  rw [abortSuspended_of h]
  exact hletter

theorem abortSuspended_other (h : ∀ i n, s.deliv.suspended = some (i, n) → i ≠ j) :
    s.abortSuspended.letters[j] = s.letters[j] := by
  cases hsuspended : s.deliv.suspended with
  | none => rw [abortSuspended_of_none hsuspended]
  | some e =>
    obtain ⟨i, name⟩ := e
    rw [abortSuspended_of hsuspended]
    exact onLetter_other s (h i name hsuspended).symm _

/-! ### Entry into DETACHED (R123, R168, R187) -/

/-- The transfer halts where it does at a detach (R168). -/
def haltedXfer (x : Transfer) : Transfer := { x with outgoing := x.outgoing.map fun o =>
  if o.phase = .accepted ∨ o.phase = .streaming ∨ (o.phase = .ended ∧ o.outstanding = true) then { o with phase := .halted }
  else o }

theorem haltsAtDetach_iff (o : Outgoing) : haltsAtDetach o = true ↔
    o.phase = .accepted ∨ o.phase = .streaming ∨ (o.phase = .ended ∧ o.outstanding = true) := by
  unfold haltsAtDetach
  cases o.phase <;> simp

/-- The link is DETACHED and the transfer halted, before the deliveries are aborted. -/
def detachedLink (s : State) : State := { s with
  reports := s.reports.filter (· ≠ .linkRecovery), bus := s.bus.onLink detachLink, xfer := haltedXfer s.xfer }

theorem haltedXfer_eq (x : Transfer) : haltedXfer x =
    if x.outgoing.any haltsAtDetach then { x with outgoing := x.outgoing.map fun o => { o with phase := .halted } } else x := by
  obtain ⟨cs, tag, inc, ss, outgoing, rs⟩ := x
  cases outgoing with
  | none => rfl
  | some o =>
    simp only [haltedXfer, Option.any_some, Option.map_some, ← haltsAtDetach_iff]
    split <;> rfl

theorem enterDetached_eq (s : State) : s.enterDetached = s.detachedLink.abortSuspended.abortActive := by
  have hhalt : when (s.xfer.outgoing.any haltsAtDetach) (·.haltOutgoing)
      ((s.cancel .linkRecovery).onBus (Bus.onLink detachLink)) = s.detachedLink := by
    rw [detachedLink, haltedXfer_eq]
    unfold when
    split <;> rfl
  have heq : s.enterDetached = (when (s.xfer.outgoing.any haltsAtDetach) (·.haltOutgoing)
      ((s.cancel .linkRecovery).onBus (Bus.onLink detachLink))).abortSuspended.abortActive := rfl
  rw [heq, hhalt]

/-- What entry into DETACHED leaves of the bus side: the link's own reset. -/
theorem enterDetached_bus (s : State) : s.enterDetached.bus = s.bus.onLink detachLink := by
  have hsuspended := abortSuspended_rest s.detachedLink
  have hactive := abortActive_rest s.detachedLink.abortSuspended
  have hbus : s.detachedLink.abortSuspended.bus = s.bus.onLink detachLink := by
    rw [hsuspended]
    rfl
  rw [enterDetached_eq]
  cases h : s.detachedLink.abortSuspended.activeOf with
  | none => rw [abortActive_of_none h, hbus]
  | some e =>
    obtain ⟨a, x, p⟩ := e
    obtain ⟨hover, -⟩ := abortActive_over h
    rw [hactive, hover.offDelivery, hbus]
    rfl

theorem enterDetached_rest (s : State) : s.enterDetached = { s with
    reports := s.reports.filter (· ≠ .linkRecovery), bus := s.bus.onLink detachLink, xfer := haltedXfer s.xfer
    letters := s.enterDetached.letters, deliv := s.enterDetached.deliv } := by
  have hsuspended := abortSuspended_rest s.detachedLink
  have hactive := abortActive_rest s.detachedLink.abortSuspended
  have hbus := enterDetached_bus s
  rw [enterDetached_eq] at hbus ⊢
  generalize s.detachedLink.abortSuspended.abortActive = v at *
  generalize s.detachedLink.abortSuspended = w at *
  have hlink : ({ w.bus with link := { w.bus.link with offDelivery := v.bus.link.offDelivery } } : Bus) = s.bus.onLink detachLink :=
    (congrArg State.bus hactive).symm.trans hbus
  rw [hlink] at hactive
  generalize v.letters = ls at hactive ⊢
  generalize v.deliv = d at hactive ⊢
  generalize w.letters = ws at hsuspended
  rw [hactive, hsuspended]
  rfl

theorem enterDetached_deliv (s : State) : s.enterDetached.deliv.suspended = none ∧
    s.enterDetached.deliv.retry = s.deliv.retry := by
  obtain ⟨hsuspended, hretry⟩ := abortActive_deliv s.detachedLink.abortSuspended
  have hrest := abortSuspended_rest s.detachedLink
  rw [enterDetached_eq, hsuspended, hretry, hrest]
  exact ⟨rfl, rfl⟩

/-- The suspended delivery's letter at a detach (R187). -/
theorem enterDetached_suspended (hsuspended : s.deliv.suspended = some (i, name)) (hx : s.letters[i] = some x)
    (hother : ∀ a, s.deliv.active = some a → a.letter ≠ i) : DeliveryAborted i x s.enterDetached := by
  have haborted := abortSuspended_aborted (s := s.detachedLink) hsuspended hx
  have hrest := abortSuspended_rest s.detachedLink
  rw [enterDetached_eq]
  refine (abortActive_other fun a ha => ?_).trans haborted
  rw [hrest] at ha
  exact hother a ha

/-- The active delivery at a detach (R187). -/
theorem enterDetached_active (h : s.activeOf = some (a, x, p))
    (hother : ∀ i n, s.deliv.suspended = some (i, n) → i ≠ a.letter) :
    DeliveryAborted a.letter x s.enterDetached ∧ s.enterDetached.deliv.active = none ∧
      (∀ g, a.phase = .ended → p.tag = some g → ⟨x.number, p.filing, g⟩ ∈ s.enterDetached.deliv.unconfirmed) ∧
      (a.phase ≠ .ended → s.enterDetached.deliv.unconfirmed = s.deliv.unconfirmed) := by
  obtain ⟨ha, hx, hp⟩ := activeOf_eq_some.mp h
  have hrest := abortSuspended_rest s.detachedLink
  have hletter := (abortSuspended_other (s := s.detachedLink) (j := a.letter) hother).trans hx
  have hdeliv : s.detachedLink.abortSuspended.deliv = { s.deliv with suspended := none } := by
    rw [hrest]
    rfl
  have hactive : s.detachedLink.abortSuspended.activeOf = some (a, x, p) :=
    activeOf_eq_some.mpr ⟨by rw [hdeliv]; exact ha, hletter, hp⟩
  obtain ⟨hover, haborted, -⟩ := abortActive_over hactive
  rw [enterDetached_eq]
  refine ⟨haborted, hover.active, fun g hphase hg => ?_, fun hphase => ?_⟩
  · rw [hover.deliv]
    exact notedIfEnded_noted hphase hg _ x
  · rw [hover.deliv, notedIfEnded_of_running hphase, hdeliv]

/-- Entry into DETACHED, whole (R122, R123, R168, R187). -/
theorem enterDetached_went (hfault : s.bus.link.fault = 256) : WentDetached s s.enterDetached := by
  have hrest := enterDetached_rest s
  have hbus := enterDetached_bus s
  obtain ⟨hsuspended, hretry⟩ := enterDetached_deliv s
  have hlines : SameLines s s.enterDetached := by
    rw [hrest]
    exact ⟨rfl, rfl, rfl, rfl⟩
  have hsame : s.enterDetached.xfer = haltedXfer s.xfer ∧ s.enterDetached.seg = s.seg ∧
      s.enterDetached.nums = s.nums ∧ s.enterDetached.peers = s.peers := by
    rw [hrest]
    exact ⟨rfl, rfl, rfl, rfl⟩
  obtain ⟨hxfer, hseg, hnums, hpeers⟩ := hsame
  unfold WentDetached
  rw [hbus]
  exact ⟨hfault, rfl, rfl, rfl, rfl, rfl, rfl, rfl, hsuspended, hretry, fun i n x hs hx hother =>
    enterDetached_suspended hs hx hother, fun a x p h hother => enterDetached_active h hother, hxfer, hlines, hseg, hnums, hpeers⟩

/-- The same, told of an earlier station whose work was the same. -/
theorem WentDetached.of_same (h : WentDetached u t) (hwork : SameWork s u) (hnums : u.nums = s.nums)
    (hpeers : u.peers = s.peers) : WentDetached s t := by
  obtain ⟨hlines, hletters, hseg, hxfer, hdeliv⟩ := hwork
  have hactive : u.activeOf = s.activeOf := by simp only [activeOf, hdeliv, hletters]
  unfold WentDetached at h ⊢
  obtain ⟨h1, h2, h3, h4, h5, h6, h7, h8, h9, hretry, hsuspended, hrunning, hx, hl, hs, hn, hp⟩ := h
  rw [hdeliv, hletters] at hsuspended
  rw [hactive, hdeliv] at hrunning
  exact ⟨h1, h2, h3, h4, h5, h6, h7, h8, h9, hretry.trans (by rw [hdeliv]), hsuspended, hrunning, hx.trans (by rw [hxfer]),
    hlines.trans hl, hs.trans hseg, hn.trans hnums, hp.trans hpeers⟩

end Sys2Proof.Machine.State
end

section
/-! The fault count, recovery, the stuck event, the bus falling idle (R111, R120 to R124, R169, R174). -/

namespace Sys2Proof.Machine.Bus

variable {b : Bus} {n : Nat}

/-- The link with a fault count, before the event (R121, R122). -/
def faulted (n : Nat) (b : Bus) : Bus := b.onLink fun k => { k with
  fault := n, holdOff := if b.link.state = .muted ∧ LinkState.ofFault n ≠ .muted then none else k.holdOff }

theorem setFault_eq (n : Nat) (b : Bus) : b.setFault n = if b.link.state = .ofFault n then b.faulted n
    else (b.faulted n).raise (.linkState b.link.state (.ofFault n) n) := rfl

theorem setFault_raises (n : Nat) (b : Bus) : Raises 1 (b.faulted n) (b.setFault n) := by
  rw [setFault_eq]
  split
  · exact (Raises.refl _).mono (Nat.zero_le 1)
  · exact .raise _ _

theorem setFault_parts (n : Nat) (b : Bus) : b.setFault n =
    { ctl := { b.ctl with eventSeq := (b.setFault n).ctl.eventSeq }
      counters := { b.counters with eventsLost := (b.setFault n).counters.eventsLost }
      link := { b.link with
        fault := n
        holdOff := if b.link.state = .muted ∧ LinkState.ofFault n ≠ .muted then none else b.link.holdOff
        control := (b.setFault n).link.control } } :=
  (setFault_raises n b).parts

/-- A change of the link state is told (R122, R198). -/
theorem setFault_told {d : Station} (hchange : b.link.state ≠ .ofFault n)
    (hroom : b.link.control.length < Config.controlFrames) (hdest : b.ctl.eventDest = some d) :
    (⟨d, .event 0 (b.ctl.eventSeq + 1) b.ctl.seconds (Event.linkState b.link.state (.ofFault n) n).details, 0⟩ : QFrame) ∈
      (b.setFault n).link.control := by
  rw [setFault_eq, if_neg hchange]
  exact raise_told (b := b.faulted n) hroom hdest _

end Sys2Proof.Machine.Bus

namespace Sys2Proof.Machine.State

variable {s t u : State} {i : LetterIx} {st : Station} {o : Outgoing} {kinds : List ErrKind} {n : Nat}

theorem state_detached_iff (s : State) : s.isDetached = true ↔ 256 ≤ s.bus.link.fault := by
  simp only [isDetached, Link.state, LinkState.ofFault, beq_iff_eq]
  have hlimit : Config.faultLimit = 256 := rfl
  rw [hlimit]
  split
  · simp only [reduceCtorEq, false_iff]
    omega
  · split
    · simp only [reduceCtorEq, false_iff]
      omega
    · split
      · simp only [reduceCtorEq, false_iff]
        omega
      · simp only [true_iff]
        omega

theorem muted_iff (k : Link) : k.state = .muted ↔ 128 ≤ k.fault ∧ k.fault < 256 := by
  simp only [Link.state, LinkState.ofFault]
  have hlimit : Config.faultLimit = 256 := rfl
  rw [hlimit]
  split
  · simp only [reduceCtorEq, false_iff]
    omega
  · split
    · simp only [reduceCtorEq, false_iff]
      omega
    · split
      · simp only [true_iff]
        omega
      · simp only [reduceCtorEq, false_iff]
        omega

theorem isDetached_of_low (h : s.bus.link.fault < 256) : s.isDetached = false := by
  rw [Bool.eq_false_iff, ne_eq, state_detached_iff]
  omega

theorem isNumbered_of (h : s.Numbered) : s.isNumbered = true := by simpa [isNumbered] using h

/-! ### Recovery (R124) -/

/-- The link recovered, and the engines not told yet (R124). -/
def recoveredLink (s : State) : State := s.onBus fun b => (b.setFault 0).onLink fun k => { k with recoveryRuns := 0 }

theorem exec_linkRecovery (hfault : s.bus.link.fault = 256) : exec .linkRecovery s = .next
    ((when (s.xfer.outgoing.any (·.phase == .halted)) (·.makeCheck) (s.taken .linkRecovery).recoveredLink).look) := by
  have hdetached : (s.taken .linkRecovery).isDetached = true :=
    (state_detached_iff _).mpr (show 256 ≤ s.bus.link.fault by omega)
  change execLinkRecovery s = _
  simp only [execLinkRecovery, hdetached, if_true]
  rfl

theorem recoveredLink_bus (s : State) : s.recoveredLink.bus =
    { ctl := { s.bus.ctl with eventSeq := (s.bus.setFault 0).ctl.eventSeq }
      counters := { s.bus.counters with eventsLost := (s.bus.setFault 0).counters.eventsLost }
      link := { s.bus.link with
        fault := 0
        recoveryRuns := 0
        holdOff := if s.bus.link.state = .muted ∧ LinkState.ofFault 0 ≠ .muted then none else s.bus.link.holdOff
        control := (s.bus.setFault 0).link.control } } := by
  have heq : s.recoveredLink.bus = (s.bus.setFault 0).onLink fun k => { k with recoveryRuns := 0 } := rfl
  have hparts := Bus.setFault_parts 0 s.bus
  rw [heq]
  generalize s.bus.setFault 0 = b at *
  rw [hparts]
  rfl

/-- The event of a recovery: the link was DETACHED, and is NORMAL. -/
theorem recoveredLink_eventSeq (hfault : s.bus.link.fault = 256) :
    s.recoveredLink.bus.ctl.eventSeq = s.bus.ctl.eventSeq + 1 := by
  have hchange : s.bus.link.state ≠ .ofFault 0 := by
    rw [Link.state, hfault]
    decide
  change (s.bus.setFault 0).ctl.eventSeq = _
  rw [Bus.setFault_eq, if_neg hchange]
  exact raise_eventSeq _ _

theorem recoveredLink_control (s : State) :
    s.recoveredLink.bus.link.control.length ≤ s.bus.link.control.length + 1 :=
  (Bus.setFault_raises 0 s.bus).control_length

/-- With nothing to send or offer a recovery is all (R124). -/
theorem recovery_alone (hfault : s.bus.link.fault = 256) (ho : s.xfer.outgoing = none) (hhead : s.queueHead = none) :
    ∃ t, exec .linkRecovery s = .next t ∧ t.bus.link.fault = 0 ∧ t.bus.link.recoveryRuns = 0 ∧
      t.bus.link.view = s.bus.link.view ∧ SameWork s t ∧ t.nums = s.nums ∧
      t.bus.ctl.eventSeq = s.bus.ctl.eventSeq + 1 := by
  have hexec := exec_linkRecovery hfault
  have hlook := look_of_not_startable (s := (s.taken .linkRecovery).recoveredLink)
    (startable_eq_none (.inr (.inr (.inr (.inl hhead)))))
  rw [ho] at hexec
  have hbus := recoveredLink_bus (s.taken .linkRecovery)
  have hseq := recoveredLink_eventSeq (s := s.taken .linkRecovery) hfault
  refine ⟨(s.taken .linkRecovery).recoveredLink, hexec.trans (congrArg Host.Outcome.next hlook), ?_, ?_, ?_,
    ⟨⟨rfl, rfl, rfl, rfl⟩, rfl, rfl, rfl, rfl⟩, rfl, hseq⟩
  all_goals rw [hbus]
  rfl

/-- The Transfer Check of a halted transfer, made as the link recovers (R169). -/
structure Checked (s t : State) : Prop where
  rest : t = { s with xfer := t.xfer, bus := t.bus, reports := t.reports }
  bus : Bus.OnlyQueued s.bus t.bus
  room : s.bus.link.control.length ≤ 10 → t.bus.link.control.length ≤ s.bus.link.control.length + 1
  halted : ∀ o, s.xfer.outgoing = some o → o.phase = .halted → s.isDetached = false → s.HasRoom →
    t.xfer = { s.xfer with outgoing := some { o with
      timer := some 2000, outstanding := if s.isPresent o.taker = true then true else o.outstanding } } ∧
    (s.isPresent o.taker = true → t.InQueue o.taker (.transferCheck o.number))

theorem haltedCheck_checked (s : State) : Checked s (when (s.xfer.outgoing.any (·.phase == .halted)) (·.makeCheck) s) := by
  unfold when
  cases ho : s.xfer.outgoing with
  | none => exact ⟨rfl, .refl _, fun _ => Nat.le_succ _, fun o h => by rw [ho] at h; cases h⟩
  | some o =>
    rw [Option.any_some]
    split
    case isFalse hphase =>
      refine ⟨rfl, .refl _, fun _ => Nat.le_succ _, fun o' h hhalted => ?_⟩
      rw [ho] at h
      cases h
      simp [hhalted] at hphase
    case isTrue hphase =>
      dsimp only
      rw [makeCheck_eq ho]
      split
      · next hsends =>
        refine ⟨rfl, .place _ _, fun hlen => ?_, fun o' h hhalted hattached hroom => ?_⟩
        · change (s.bus.place _).link.control.length ≤ _
          have hroom : s.HasRoom := by
            change _ < 16
            omega
          rw [Bus.place_room s.bus _ hroom]
          exact le_of_eq List.length_append
        · rw [ho] at h
          cases h
          refine ⟨?_, fun _ => ?_⟩
          · rw [if_pos hsends.2]
            exact onOutgoing_xfer (s := s.cancel .checkTimerExpiry) ho _
          · exact Bus.mem_place (Bus.accepts_of_room hroom) _
      · next hsends =>
        refine ⟨rfl, .refl _, fun _ => Nat.le_succ _, fun o' h hhalted hattached hroom => ?_⟩
        rw [ho] at h
        cases h
        have hgone : ¬s.isPresent o.taker = true := fun hpresent => hsends ⟨hattached, hpresent⟩
        refine ⟨?_, fun hpresent => absurd hpresent hgone⟩
        rw [if_neg hgone]
        exact onOutgoing_xfer (s := s.cancel .checkTimerExpiry) ho _

theorem Checked.startable (h : Checked s t) (hact : s.Active) (hattached : s.isDetached = false)
    (hretry : s.deliv.retry = none) (hhead : s.queueHead = some i) (hfiling : s.chooseFiling = some st) :
    t.startable = some (i, st) := by
  have hsettings : t.bus.ctl.settings = s.bus.ctl.settings := by rw [h.bus.ctl]
  have hfault : t.bus.link.state = s.bus.link.state := by
    rw [h.bus.link]
    rfl
  have hsame : t.deliv = s.deliv ∧ t.queueHead = s.queueHead ∧ t.peers = s.peers := by
    rw [h.rest]
    exact ⟨rfl, rfl, rfl⟩
  obtain ⟨hdeliv, hheads, hpeers⟩ := hsame
  refine startable_eq_some.mpr ⟨h.bus.state.trans hact, ?_, by rw [hdeliv]; exact hretry, hheads.trans hhead, ?_⟩
  · rw [isDetached, hfault]
    exact hattached
  · have hchoose : t.chooseFiling = s.chooseFiling := by simp only [chooseFiling, hpeers, hsettings]
    exact hchoose.trans hfiling

/-- The engines of a link that is no longer DETACHED: the Transfer Check, then the look for work (R169, R174). -/
theorem Checked.engines (h : Checked s t) (hattached : s.isDetached = false) (hlen : s.bus.link.control.length ≤ 9) :
    (∀ o, s.xfer.outgoing = some o → o.phase = .halted →
      t.look.xfer = { s.xfer with outgoing := some { o with
        timer := some 2000, outstanding := if s.isPresent o.taker = true then true else o.outstanding } } ∧
      (s.isPresent o.taker = true → t.look.InQueue o.taker (.transferCheck o.number))) ∧
    (∀ i st, s.Active → s.deliv = ⟨none, none, none, s.deliv.unconfirmed⟩ → s.queueHead = some i →
      s.chooseFiling = some st → JustOffered i st s.streamId t.look) ∧
    SameLines s t.look ∧ t.look.seg = s.seg ∧ t.look.nums = s.nums ∧
    t.look.bus.link.fault = s.bus.link.fault ∧ t.look.bus.link.recoveryRuns = s.bus.link.recoveryRuns := by
  have honly := look_only t
  have hqueued := h.bus.trans (look_queued t)
  have hroom : s.HasRoom := by
    change _ < 16
    omega
  have hroom' : t.HasRoom := by
    have hlength := h.room (by omega)
    change _ < 16
    omega
  have hsame : SameLines s t ∧ t.seg = s.seg ∧ t.nums = s.nums ∧ t.deliv = s.deliv ∧ t.letters = s.letters ∧
      t.streamId = s.streamId := by
    rw [h.rest]
    exact ⟨⟨rfl, rfl, rfl, rfl⟩, rfl, rfl, rfl, rfl, rfl⟩
  obtain ⟨hlines, hseg, hnums, hdeliv, hletters, hname⟩ := hsame
  refine ⟨fun o ho hhalted => ?_, fun i st hact hidle hhead hfiling => ?_, hlines.trans honly.sameLines,
    honly.seg.trans hseg, honly.nums.trans hnums, ?_, ?_⟩
  · obtain ⟨hxfer, hplaced⟩ := h.halted o ho hhalted hattached hroom
    exact ⟨honly.xfer.trans hxfer, fun hpresent => (look_keeps t).frames _ (hplaced hpresent) (.inr hroom')⟩
  · have hretry : s.deliv.retry = none := by rw [hidle]
    have hactive : t.deliv.active = none := by rw [hdeliv, hidle]
    have hsuspended : t.deliv.suspended = none := by rw [hdeliv, hidle]
    obtain ⟨x, hx, -⟩ := queueHead_queued hhead
    rw [look_of_idle (h.startable hact hattached hretry hhead hfiling) hactive hsuspended, ← hname]
    exact (offerLetter_offered (hletters ▸ hx) hroom' st).justOffered
  · rw [hqueued.link]
  · rw [hqueued.link]

theorem recoveredLink_chooseFiling (s : State) : s.recoveredLink.chooseFiling = s.chooseFiling := by
  have hsettings : s.recoveredLink.bus.ctl.settings = s.bus.ctl.settings := by rw [recoveredLink_bus]
  have hpeers : s.recoveredLink.peers = s.peers := rfl
  simp only [chooseFiling, hsettings, hpeers]

theorem recoveredLink_active (s : State) : s.recoveredLink.Active ↔ s.Active := by
  rw [State.Active, recoveredLink_bus]

/-- The engines as the link recovers: the Transfer Check first, then the look for work (R169, R174). -/
theorem recovery_tells (hfault : s.bus.link.fault = 256) (hlen : s.bus.link.control.length ≤ 8) :
    ∃ t, exec .linkRecovery s = .next t ∧ t.bus.link.fault = 0 ∧ t.bus.link.recoveryRuns = 0 ∧
      (∀ o, s.xfer.outgoing = some o → o.phase = .halted →
        t.xfer = { s.xfer with outgoing := some { o with
          timer := some 2000
          outstanding := if s.isPresent o.taker = true then true else o.outstanding } } ∧
        (s.isPresent o.taker = true → t.InQueue o.taker (.transferCheck o.number))) ∧
      (∀ i st, s.Active → s.deliv = ⟨none, none, none, s.deliv.unconfirmed⟩ → s.queueHead = some i →
        s.chooseFiling = some st → JustOffered i st s.streamId t) ∧
      SameLines s t ∧ t.seg = s.seg ∧ t.nums = s.nums := by
  have hbus := recoveredLink_bus (s.taken .linkRecovery)
  have hattached : (s.taken .linkRecovery).recoveredLink.isDetached = false := by
    apply isDetached_of_low
    rw [hbus]
    exact Nat.zero_lt_succ 255
  have hroom := recoveredLink_control (s.taken .linkRecovery)
  obtain ⟨htransfer, hoffer, hlines, hseg, hnums, hfault', hruns⟩ :=
    (haltedCheck_checked (s.taken .linkRecovery).recoveredLink).engines hattached
      (hroom.trans (show s.bus.link.control.length + 1 ≤ 9 by omega))
  refine ⟨_, exec_linkRecovery hfault, ?_, ?_, htransfer, fun i st hact hidle hhead hfiling => ?_, hlines, hseg, hnums⟩
  · exact hfault'.trans (by rw [hbus])
  · exact hruns.trans (by rw [hbus])
  · exact hoffer i st ((recoveredLink_active _).mpr hact) hidle hhead ((recoveredLink_chooseFiling _).trans hfiling)

/-! ### The first error of a frame, and the stuck event (R120, R121, R125) -/

/-- Of the station, only the bus side and the steps owed differ. -/
def OnlyBus (s t : State) : Prop := t = { s with bus := t.bus, reports := t.reports }

theorem OnlyBus.trans (h : OnlyBus s t) (k : OnlyBus t u) : OnlyBus s u := by
  unfold OnlyBus at *
  rw [k, h]

theorem OnlyBus.sameWork (h : OnlyBus s t) : SameWork s t := by
  rw [h]
  exact ⟨⟨rfl, rfl, rfl, rfl⟩, rfl, rfl, rfl, rfl⟩

theorem OnlyBus.nums (h : OnlyBus s t) : t.nums = s.nums := by rw [h]

theorem OnlyBus.peers (h : OnlyBus s t) : t.peers = s.peers := by rw [h]

/-- An error recorded, and the fault count risen (R121, R125). -/
theorem noteError_bus (kinds : List ErrKind) (n : Nat) (s : State) : (s.noteError kinds n).bus =
    { ctl := { s.bus.ctl with eventSeq := (s.noteError kinds n).bus.ctl.eventSeq }
      counters := { s.bus.counters with eventsLost := (s.noteError kinds n).bus.counters.eventsLost }
      link := { s.bus.link with
        fault := faultUp n s.bus.link.fault
        errors := errorsAfter s.bus.ctl.settings.errMode s.bus.link.errors kinds
        holdOff := if s.bus.link.state = .muted ∧ LinkState.ofFault (faultUp n s.bus.link.fault) ≠ .muted then none
          else s.bus.link.holdOff
        control := (s.noteError kinds n).bus.link.control } } :=
  Bus.setFault_parts (faultUp n s.bus.link.fault) (s.bus.recordErrors kinds)

theorem noteError_raises (kinds : List ErrKind) (n : Nat) (s : State) :
    Bus.Raises 1 ((s.bus.recordErrors kinds).faulted (faultUp n s.bus.link.fault)) (s.noteError kinds n).bus :=
  Bus.setFault_raises _ _

theorem faultUp_low {n fault : Nat} (h : fault + n < 256) : faultUp n fault = fault + n := by
  change min 256 (fault + n) = _
  omega

theorem faultUp_limit {n fault : Nat} (h : 256 ≤ fault + n) : faultUp n fault = 256 := by
  change min 256 (fault + n) = _
  omega

/-- The station after a stuck event, before entry into DETACHED (R120). -/
def stuck (s : State) : State :=
  (((s.noteError [.stuck] 1).raise .stuckBus).cancel .busViewIdle).onBus fun b =>
    b.quiet.onLink fun k => { k with dominantRun := 0, view := .stuckWait }

theorem exec_stuckEvent (hnum : s.Numbered) : exec .stuckEvent s = .next
    (detachIfNew s.isDetached (s.taken .stuckEvent).stuck) := by
  have hnum' : (s.taken .stuckEvent).isNumbered = true := isNumbered_of hnum
  change execStuckEvent s = _
  simp only [execStuckEvent, hnum', if_true]
  rfl

theorem stuck_only (s : State) : OnlyBus s s.stuck := rfl

theorem stuck_link (s : State) : s.stuck.bus.link = { s.bus.link with
    fault := faultUp 1 s.bus.link.fault
    errors := errorsAfter s.bus.ctl.settings.errMode s.bus.link.errors [.stuck]
    holdOff := s.stuck.bus.link.holdOff
    control := s.stuck.bus.link.control
    sending := false, tx := [], rx := none, burst := 0, burstDelay := 0, dominantRun := 0, view := .stuckWait } := by
  have hnote := noteError_bus [.stuck] 1 s
  have heq : s.stuck.bus = ((s.noteError [.stuck] 1).bus.raise .stuckBus).quiet.onLink fun k =>
    { k with dominantRun := 0, view := .stuckWait } := rfl
  have hraise := Bus.raise_parts (s.noteError [.stuck] 1).bus .stuckBus
  rw [heq]
  generalize (s.noteError [.stuck] 1).bus.raise .stuckBus = c at *
  generalize (s.noteError [.stuck] 1).bus = b at *
  have hlink : b.link = _ := congrArg Bus.link hnote
  rw [hraise]
  change ({ b.link with control := _, sending := _, tx := _, rx := _, burst := _, burstDelay := _, dominantRun := _, view := _ } : Link) = _
  rw [hlink]
  rfl

theorem detachIfNew_stays (hlow : s.bus.link.fault < 256) (was : Bool) : detachIfNew was s = s := by
  rw [detachIfNew, when, isDetached_of_low hlow, Bool.and_false]
  rfl

theorem detachIfNew_enters (hfault : s.bus.link.fault = 256) : detachIfNew false s = s.enterDetached := by
  have hdetached : s.isDetached = true := (state_detached_iff s).mpr (le_of_eq hfault.symm)
  rw [detachIfNew, when, hdetached]
  rfl

end Sys2Proof.Machine.State
end

section
/-! The link's events, and a frame of another station (R111, R116, R119 to R125, R204, R205). -/

namespace Sys2Proof.Machine.State

variable {s t u : State} {i : LetterIx} {st : Station} {o : Outgoing} {kinds : List ErrKind} {n : Nat} {f : Frame}

/-! ### The link's events settled (R111, R120 to R124) -/

theorem exec_busViewIdle (hnum : s.Numbered)
    (hview : s.bus.link.view = .joining ∨ s.bus.link.view = .errorWait ∨ s.bus.link.view = .stuckWait) :
    exec .busViewIdle s = .next (((s.taken .busViewIdle).cancel .holdOffExpiry).onBus Bus.idle) := by
  have hnum' : (s.taken .busViewIdle).isNumbered = true := isNumbered_of hnum
  change execBusViewIdle s = _
  have hview' : (s.taken .busViewIdle).bus.link.view = s.bus.link.view := rfl
  rcases hview with h | h | h <;> simp only [execBusViewIdle, hview', h, hnum', if_true]

theorem idle_eq (b : Bus) : b.idle = { b with link := { b.link with
    view := .idle, wasOwn := false
    holdOff := if b.link.wasOwn = true ∧ 128 ≤ b.link.fault ∧ b.link.fault < 256 then some 16 else b.link.holdOff } } := by
  simp only [Bus.idle, Bus.onLink, muted_iff]
  rfl

/-- The stuck event that takes the link into DETACHED (R120, R123). -/
theorem stuck_detaches (hnum : s.Numbered) (hfault : s.bus.link.fault = 255) :
    ∃ t, exec .stuckEvent s = .next t ∧ WentDetached s t ∧ t.bus.link.view = .stuckWait ∧ t.bus.link.dominantRun = 0 := by
  have hexec := exec_stuckEvent hnum
  have hlink := stuck_link (s.taken .stuckEvent)
  have honly : OnlyBus s (s.taken .stuckEvent).stuck := rfl
  rw [isDetached_of_low (show s.bus.link.fault < 256 by omega)] at hexec
  generalize (s.taken .stuckEvent).stuck = v at *
  have hfault' : v.bus.link.fault = 256 := by
    rw [hlink]
    exact faultUp_limit (show 256 ≤ s.bus.link.fault + 1 by omega)
  have hview : v.bus.link.view = .stuckWait := by rw [hlink]
  have hrun : v.bus.link.dominantRun = 0 := by rw [hlink]
  rw [detachIfNew_enters hfault'] at hexec
  refine ⟨_, hexec, (enterDetached_went hfault').of_same honly.sameWork honly.nums honly.peers, ?_, ?_⟩
  · rw [enterDetached_bus]
    change (if v.bus.link.view = .inFrame then BusView.errorWait else v.bus.link.view) = _
    rw [hview]
    rfl
  · rw [enterDetached_bus]
    exact hrun

/-- The stuck event below the limit (R120, R121, R125). -/
theorem stuck_counts (hnum : s.Numbered) (hfault : s.bus.link.fault + 1 < 256) :
    ∃ t, exec .stuckEvent s = .next t ∧ t.bus.link.fault = s.bus.link.fault + 1 ∧
      t.bus.link.view = .stuckWait ∧ t.bus.link.dominantRun = 0 ∧ t.bus.link.sending = false ∧
      t.bus.link.errors = errorsAfter s.bus.ctl.settings.errMode s.bus.link.errors [.stuck] ∧
      SameWork s t ∧ t.nums = s.nums := by
  have hexec := exec_stuckEvent hnum
  have hlink := stuck_link (s.taken .stuckEvent)
  have honly : OnlyBus s (s.taken .stuckEvent).stuck := rfl
  generalize (s.taken .stuckEvent).stuck = v at *
  have hfault' : v.bus.link.fault = s.bus.link.fault + 1 := by
    rw [hlink]
    exact faultUp_low hfault
  rw [detachIfNew_stays (by omega)] at hexec
  refine ⟨_, hexec, hfault', ?_, ?_, ?_, ?_, honly.sameWork, honly.nums⟩
  all_goals rw [hlink]
  rfl

/-- Settles O52: recovery, the stuck event, the bus falling idle and the hold-off, one by one. -/
theorem linkEvents : Obligations.LinkEvents := by
  unfold Obligations.LinkEvents
  intro s
  refine ⟨recovery_alone, recovery_tells, stuck_detaches, stuck_counts, fun hnum hview => ?_, ?_⟩
  · exact ⟨_, exec_busViewIdle hnum hview, ⟨⟨rfl, rfl, rfl, rfl⟩, rfl, rfl, rfl, rfl⟩, rfl, idle_eq s.bus⟩
  · exact ⟨_, rfl, rfl, ⟨⟨rfl, rfl, rfl, rfl⟩, rfl, rfl, rfl, rfl⟩, rfl⟩

/-! ### A frame of another station received (R116, R121, R204, R205) -/

theorem faultDown_low {n : Nat} (h : n < 256) : faultDown n = n - 1 := if_pos h

theorem faultDown_eq (n : Nat) : faultDown n = if n < 256 then n - 1 else n := rfl

/-- A fault count that falls takes no link into DETACHED (R121). -/
theorem faultFalls_eq (s : State) : s.faultFalls = s.onBus (Bus.setFault (faultDown s.bus.link.fault)) := by
  have hstays : (!s.isDetached && (s.onBus (Bus.setFault (faultDown s.bus.link.fault))).isDetached) = false := by
    by_cases hlow : s.bus.link.fault < 256
    · have hlow' : (s.onBus (Bus.setFault (faultDown s.bus.link.fault))).bus.link.fault < 256 := by
        change (s.bus.setFault _).link.fault < 256
        rw [Bus.setFault_fault, faultDown_low hlow]
        omega
      rw [isDetached_of_low hlow', Bool.and_false]
    · rw [(state_detached_iff s).mpr (by omega)]
      rfl
  rw [faultFalls, setFault, hstays]
  rfl

/-- A frame of another station has been received, and is not handed up yet (R116, R121). -/
def received (s : State) : State :=
  (s.count fun c => { c with framesReceived := c.framesReceived + 1 }).faultFalls.onBus fun b =>
    (b.quiet.onLink fun k => { k with wasOwn := false, holdOff := none }).idle

theorem exec_frameReception (h : s.canFollow = true) (f : Frame) : exec (.frameReception f) s = .next
    ((s.taken (.frameReception f)).received.reportSome ((s.taken (.frameReception f)).received.handsUp f)) := by
  have h' : (s.taken (.frameReception f)).canFollow = true := h
  change execFrameReception f s = _
  simp only [execFrameReception, h', if_true]
  rfl

theorem received_bus (s : State) : s.received.bus =
    { ctl := { s.bus.ctl with eventSeq := s.received.bus.ctl.eventSeq }
      counters := { s.bus.counters with
        framesReceived := s.bus.counters.framesReceived + 1, eventsLost := s.received.bus.counters.eventsLost }
      link := { s.bus.link with
        fault := faultDown s.bus.link.fault, view := .idle, wasOwn := false, holdOff := none
        sending := false, tx := [], rx := none, burst := 0, burstDelay := 0
        control := s.received.bus.link.control } } := by
  have hfault := faultFalls_eq (s.count fun c => { c with framesReceived := c.framesReceived + 1 })
  have heq : s.received.bus = ((s.count fun c => { c with framesReceived := c.framesReceived + 1 }).faultFalls.bus.quiet.onLink
    fun k => { k with wasOwn := false, holdOff := none }).idle := rfl
  rw [heq, hfault]
  change (((s.bus.count _).setFault _).quiet.onLink _).idle = _
  rw [Bus.setFault_parts, idle_eq]
  rfl

theorem received_only (s : State) : OnlyBus s s.received := by
  unfold OnlyBus
  have hfault := faultFalls_eq (s.count fun c => { c with framesReceived := c.framesReceived + 1 })
  rw [received, hfault]
  rfl

end Sys2Proof.Machine.State
end

section
/-! A frame of another station received, or failed (R116, R119, R121 to R123, R125, R204, R205). -/

namespace Sys2Proof.Machine.State

variable {s t u : State} {kinds : List ErrKind} {n delay : Nat} {own : Bool} {f : Frame}

theorem handsUp_congr (h : t.bus.ctl.number = s.bus.ctl.number) (f : Frame) : t.handsUp f = s.handsUp f := by
  simp only [handsUp, h]

/-- A frame received, and handed up if it is (R116, R204, R205). -/
theorem reception (h : s.canFollow = true) (f : Frame) : ∃ t, exec (.frameReception f) s = .next t ∧
    t.bus.counters.framesReceived = s.bus.counters.framesReceived + 1 ∧
    t.bus.link.fault = (if s.bus.link.fault < 256 then s.bus.link.fault - 1 else s.bus.link.fault) ∧
    t.bus.link.view = .idle ∧ t.bus.link.holdOff = none ∧ t.bus.link.rx = none ∧
    t.bus.link.current = s.bus.link.current ∧
    (∀ i, s.handsUp f = some i → t.reports = s.reports.erase (.frameReception f) ++ [i]) ∧
    (s.handsUp f = none → t.reports = s.reports.erase (.frameReception f)) ∧
    SameWork s t ∧ t.peers = s.peers ∧ t.nums = s.nums := by
  have hexec := exec_frameReception h f
  have hbus := received_bus (s.taken (.frameReception f))
  have honly : OnlyBus s (s.taken (.frameReception f)).received :=
    OnlyBus.trans (t := s.taken (.frameReception f)) rfl (received_only _)
  have hreports : (s.taken (.frameReception f)).received.reports = s.reports.erase (.frameReception f) := by
    rw [received, faultFalls_eq]
    rfl
  have hup : (s.taken (.frameReception f)).received.handsUp f = s.handsUp f := handsUp_congr (by rw [hbus]; rfl) f
  rw [hup] at hexec
  generalize (s.taken (.frameReception f)).received = v at *
  have hsome : ∀ r : Option Instr, OnlyBus v (v.reportSome r) ∧ (v.reportSome r).bus = v.bus := by
    intro r
    cases r <;> exact ⟨rfl, rfl⟩
  obtain ⟨hrest, hsame⟩ := hsome (s.handsUp f)
  have hall := honly.trans hrest
  refine ⟨_, hexec, ?_, ?_, ?_, ?_, ?_, ?_, fun i hi => ?_, fun hnone => ?_, hall.sameWork, hall.peers, hall.nums⟩
  case refine_7 =>
    rw [hi, ← hreports]
    rfl
  case refine_8 =>
    rw [hnone, ← hreports]
    rfl
  all_goals rw [hsame, hbus]
  · rfl
  · exact faultDown_eq _
  · rfl

/-! ### The first error of a frame (R119, R121, R125) -/

/-- The station at the first error of a frame, before entry into DETACHED. -/
def errored (s : State) (kinds : List ErrKind) (rise delay : Nat) (own : Bool) : State :=
  (s.noteError kinds rise).onBus (Bus.errorWait delay own)

theorem errored_only (s : State) (kinds : List ErrKind) (rise delay : Nat) (own : Bool) :
    OnlyBus s (s.errored kinds rise delay own) := rfl

theorem bursts_ofFault (n : Nat) : (LinkState.ofFault n).bursts = decide (n < 128) := by
  unfold LinkState.ofFault
  have hlimit : Config.faultLimit = 256 := rfl
  rw [hlimit]
  split
  · exact (decide_eq_true (show n < 128 by omega)).symm
  · split
    · next h => exact (decide_eq_true h).symm
    · next h => split <;> exact (decide_eq_false h).symm

theorem errored_bus (s : State) (kinds : List ErrKind) (rise delay : Nat) (own : Bool) :
    (s.errored kinds rise delay own).bus =
    { ctl := { s.bus.ctl with eventSeq := (s.noteError kinds rise).bus.ctl.eventSeq }
      counters := { s.bus.counters with eventsLost := (s.noteError kinds rise).bus.counters.eventsLost }
      link := { s.bus.link with
        fault := faultUp rise s.bus.link.fault
        errors := errorsAfter s.bus.ctl.settings.errMode s.bus.link.errors kinds
        view := .errorWait, wasOwn := own, sending := false, tx := [], rx := none
        holdOff := (s.errored kinds rise delay own).bus.link.holdOff
        burst := if faultUp rise s.bus.link.fault < 128 then 12 else 0
        burstDelay := if faultUp rise s.bus.link.fault < 128 then delay else 0
        control := (s.noteError kinds rise).bus.link.control } } := by
  have hnote := noteError_bus kinds rise s
  have heq : (s.errored kinds rise delay own).bus = (s.noteError kinds rise).bus.errorWait delay own := rfl
  have hbursts := bursts_ofFault (faultUp rise s.bus.link.fault)
  rw [heq]
  generalize (s.noteError kinds rise).bus = b at *
  have hstate : b.link.state.bursts = decide (faultUp rise s.bus.link.fault < 128) := by
    rw [← hbursts, hnote]
    rfl
  have hwait : b.errorWait delay own = { b with link := { b.link with
      view := .errorWait, wasOwn := own, sending := false, tx := [], rx := none
      holdOff := (b.errorWait delay own).link.holdOff
      burst := if b.link.state.bursts then 12 else 0, burstDelay := if b.link.state.bursts then delay else 0 } } := rfl
  rw [hstate] at hwait
  simp only [decide_eq_true_eq] at hwait
  generalize b.errorWait delay own = w at *
  generalize w.link.holdOff = held at *
  generalize b.ctl.eventSeq = seq at *
  generalize b.counters.eventsLost = lost at *
  generalize b.link.control = control at *
  rw [hwait, hnote]

theorem exec_receiveError (h : s.canFollow = true) (kinds : List ErrKind) : ∃ delay, exec (.receiveError kinds) s = .next
    (detachIfNew s.isDetached ((s.taken (.receiveError kinds)).errored kinds 1 delay false)) := by
  have h' : (s.taken (.receiveError kinds)).canFollow = true := h
  refine ⟨Bus.burstDelayOf s.bus.link.rx kinds, ?_⟩
  change execReceiveError kinds s = _
  simp only [execReceiveError, h', if_true]
  rfl

/-- A receive error below the limit (R119, R121, R125). -/
theorem receiveError_counts (h : s.canFollow = true) (kinds : List ErrKind) (hfault : s.bus.link.fault + 1 < 256) :
    ∃ t, exec (.receiveError kinds) s = .next t ∧ t.bus.link.fault = s.bus.link.fault + 1 ∧
      t.bus.link.view = .errorWait ∧ t.bus.link.rx = none ∧ t.bus.link.sending = false ∧
      t.bus.link.errors = errorsAfter s.bus.ctl.settings.errMode s.bus.link.errors kinds ∧
      t.bus.link.burst = (if s.bus.link.fault + 1 < 128 then 12 else 0) ∧
      t.bus.link.current = s.bus.link.current ∧ SameWork s t ∧ t.peers = s.peers ∧ t.nums = s.nums := by
  obtain ⟨delay, hexec⟩ := exec_receiveError h kinds
  have hbus := errored_bus (s.taken (.receiveError kinds)) kinds 1 delay false
  have honly : OnlyBus s ((s.taken (.receiveError kinds)).errored kinds 1 delay false) := rfl
  have hup : faultUp 1 (s.taken (.receiveError kinds)).bus.link.fault = s.bus.link.fault + 1 := faultUp_low hfault
  rw [hup] at hbus
  generalize (s.taken (.receiveError kinds)).errored kinds 1 delay false = v at *
  have hfault' : v.bus.link.fault = s.bus.link.fault + 1 := by rw [hbus]
  rw [detachIfNew_stays (by omega)] at hexec
  refine ⟨_, hexec, hfault', ?_, ?_, ?_, ?_, ?_, ?_, honly.sameWork, honly.peers, honly.nums⟩
  all_goals rw [hbus]
  · rfl
  · rfl

/-- The event of an error that detaches the link stands in the Control Queue (R122, R198). -/
theorem errored_told {d : Station} (hchange : s.bus.link.state ≠ .ofFault (faultUp n s.bus.link.fault)) (hroom : s.HasRoom)
    (hdest : s.bus.ctl.eventDest = some d) : ∃ seq, (s.errored kinds n delay own).InQueue d (.event 0 seq s.bus.ctl.seconds
      (Event.linkState s.bus.link.state (.ofFault (faultUp n s.bus.link.fault)) (faultUp n s.bus.link.fault)).details) :=
  ⟨_, Bus.setFault_told (b := s.bus.recordErrors kinds) hchange hroom hdest⟩

/-- A receive error that takes the link into DETACHED (R119, R121 to R123, R168, R187). -/
theorem receiveError_detaches (h : s.canFollow = true) (kinds : List ErrKind) (hfault : s.bus.link.fault = 255) :
    ∃ t, exec (.receiveError kinds) s = .next t ∧ WentDetached s t ∧ t.bus.link.view = .errorWait ∧
      t.bus.link.current = s.bus.link.current.filter (fun c => c.source == .control) ∧
      t.bus.link.beacon = s.bus.link.beacon ∧
      (∀ d, s.bus.ctl.eventDest = some d → s.HasRoom →
        ∃ seq, t.InQueue d (.event 0 seq s.bus.ctl.seconds [2#8, 3#8, 1#8, 0#8])) := by
  obtain ⟨delay, hexec⟩ := exec_receiveError h kinds
  have hbus := errored_bus (s.taken (.receiveError kinds)) kinds 1 delay false
  have honly : OnlyBus s ((s.taken (.receiveError kinds)).errored kinds 1 delay false) := rfl
  have hup : faultUp 1 (s.taken (.receiveError kinds)).bus.link.fault = 256 :=
    faultUp_limit (show 256 ≤ s.bus.link.fault + 1 by omega)
  have hstate : (s.taken (.receiveError kinds)).bus.link.state = .muted := (muted_iff s.bus.link).mpr (by omega)
  have htold : ∀ d, s.bus.ctl.eventDest = some d → s.HasRoom → ∃ seq,
      ((s.taken (.receiveError kinds)).errored kinds 1 delay false).InQueue d
        (.event 0 seq s.bus.ctl.seconds [2#8, 3#8, 1#8, 0#8]) := by
    intro d hdest hroom
    have hin := errored_told (s := s.taken (.receiveError kinds)) (kinds := kinds) (n := 1) (delay := delay) (own := false)
      (by rw [hstate, hup]; decide) hroom hdest
    rw [hstate, hup] at hin
    exact hin
  rw [hup] at hbus
  rw [isDetached_of_low (show s.bus.link.fault < 256 by omega)] at hexec
  generalize (s.taken (.receiveError kinds)).errored kinds 1 delay false = v at *
  have hfault' : v.bus.link.fault = 256 := by rw [hbus]
  have hview : v.bus.link.view = .errorWait := by rw [hbus]
  rw [detachIfNew_enters hfault'] at hexec
  refine ⟨_, hexec, (enterDetached_went hfault').of_same honly.sameWork honly.nums honly.peers, ?_, ?_, ?_, ?_⟩
  · rw [enterDetached_bus]
    change (if v.bus.link.view = .inFrame then BusView.errorWait else v.bus.link.view) = _
    rw [hview]
    rfl
  · rw [enterDetached_bus]
    change v.bus.link.current.bind detachCurrent = _
    have hcurrent : v.bus.link.current = s.bus.link.current := by rw [hbus]; rfl
    rw [hcurrent]
    cases s.bus.link.current with
    | none => rfl
    | some c =>
      rw [Option.bind_some, detachCurrent]
      cases hsource : c.source <;> simp [Option.filter, hsource]
  · rw [enterDetached_bus]
    change v.bus.link.beacon = _
    rw [hbus]
    rfl
  · intro d hdest hroom
    obtain ⟨seq, hin⟩ := htold d hdest hroom
    refine ⟨seq, ?_⟩
    rw [InQueue, enterDetached_bus]
    exact hin

/-- Settles O50: a reception, an error below the limit, and the error that detaches. -/
theorem framesReceived : Obligations.FramesReceived := by
  unfold Obligations.FramesReceived
  exact fun s h => ⟨reception h, receiveError_counts h, receiveError_detaches h⟩

end Sys2Proof.Machine.State
end

section
/-! The transmit arbiter, and a frame that starts (R115, R126, R127, R145). -/

namespace Sys2Proof.Machine.State

variable {s t u : State} {q : QFrame} {rest front : List QFrame} {c : Current} {k : Link} {n fuel : Nat} {b : BeaconBody}

/-! ### The first ready frame (R126) -/

theorem arbiterTakes_control (hact : s.Active) (h : s.bus.link.control = q :: rest) :
    s.arbiterTakes = some (⟨q, .control, 0⟩, { s.bus.link with control := rest }) := by
  simp only [arbiterTakes, isActive_of hact, if_true, h]

theorem arbiterTakes_beacon (hact : s.Active) (hcontrol : s.bus.link.control = []) (h : s.bus.link.beacon = some b) :
    s.arbiterTakes = some (⟨⟨63, .beacon b, 0⟩, .beacon, 0⟩, { s.bus.link with beacon := none }) := by
  simp only [arbiterTakes, isActive_of hact, if_true, hcontrol, h]
  rfl

theorem arbiterTakes_transfer (hact : s.Active) (hcontrol : s.bus.link.control = []) (hbeacon : s.bus.link.beacon = none)
    (h : s.bus.link.offTransfer = some q) :
    s.arbiterTakes = some (⟨q, .transfer, 0⟩, { s.bus.link with offTransfer := none }) := by
  simp only [arbiterTakes, isActive_of hact, if_true, hcontrol, hbeacon, h]

theorem arbiterTakes_delivery (hact : s.Active) (hcontrol : s.bus.link.control = []) (hbeacon : s.bus.link.beacon = none)
    (htransfer : s.bus.link.offTransfer = none) (h : s.bus.link.offDelivery = some q) (hready : s.deliveryReady q = true) :
    s.arbiterTakes = some (⟨q, .delivery, 0⟩, { s.bus.link with offDelivery := none }) := by
  simp only [arbiterTakes, isActive_of hact, if_true, hcontrol, hbeacon, htransfer, h, Option.filter_some, hready]

theorem arbiterTakes_paced (hact : s.Active) (hcontrol : s.bus.link.control = []) (hbeacon : s.bus.link.beacon = none)
    (htransfer : s.bus.link.offTransfer = none) (h : s.bus.link.offDelivery = some q) (hready : s.deliveryReady q = false) :
    s.arbiterTakes = none := by
  simp only [arbiterTakes, isActive_of hact, if_true, hcontrol, hbeacon, htransfer, h, Option.filter_some, hready,
    Bool.false_eq_true, if_false]

/-- With nothing waiting or offered the arbiter takes nothing. -/
theorem arbiterTakes_empty (hcontrol : s.bus.link.control = []) (hbeacon : s.bus.link.beacon = none)
    (htransfer : s.bus.link.offTransfer = none) (hdelivery : s.bus.link.offDelivery = none) : s.arbiterTakes = none := by
  simp only [arbiterTakes, hcontrol, hbeacon, htransfer, hdelivery, Option.filter_none, List.find?_nil, Option.map_none, ite_self]

theorem isRefusal_iff (q : QFrame) : isRefusal q = true ↔ q.msg.kind = 0x18 := by
  obtain ⟨dest, msg, owner⟩ := q
  cases msg <;> simp [isRefusal, Msg.kind]

/-- In LISTEN the oldest Settings Refused is taken from wherever it stands (R126). -/
theorem arbiterTakes_refusal (hlisten : s.Listening) (h : s.bus.link.control = front ++ q :: rest)
    (hq : q.msg.kind = 0x18) (hfront : ∀ r ∈ front, r.msg.kind ≠ 0x18) :
    s.arbiterTakes = some (⟨q, .control, 0⟩, { s.bus.link with control := front ++ rest }) := by
  have hact : ¬s.isActive = true := by simp [isActive, hlisten]
  have hnot : ∀ r ∈ front, ¬isRefusal r = true := fun r hr => mt (isRefusal_iff r).mp (hfront r hr)
  have hrefusal : isRefusal q = true := (isRefusal_iff q).mpr hq
  have hfind : (front ++ q :: rest).find? isRefusal = some q := by
    rw [List.find?_append, List.find?_eq_none.mpr hnot, Option.none_or, List.find?_cons_of_pos hrefusal]
  have herase : (front ++ q :: rest).eraseP isRefusal = front ++ rest := by
    rw [List.eraseP_append_right _ (by simpa using hnot), List.eraseP_cons_of_pos hrefusal]
  simp only [arbiterTakes, if_neg hact, h, hfind, herase, Option.map_some]

theorem arbiterTakes_listening (hlisten : s.Listening) (h : ∀ r ∈ s.bus.link.control, r.msg.kind ≠ 0x18) :
    s.arbiterTakes = none := by
  have hact : ¬s.isActive = true := by simp [isActive, hlisten]
  have hnone : s.bus.link.control.find? isRefusal = none :=
    List.find?_eq_none.mpr fun r hr => mt (isRefusal_iff r).mp (h r hr)
  simp only [arbiterTakes, if_neg hact, hnone, Option.map_none]

/-! ### A frame chosen, and its start (R127, R145) -/

/-- The frame taken is current, and has not started. -/
def chosen (s : State) (c : Current) (k : Link) : State := s.onBus (Bus.onLink fun _ => { k with current := some c })

theorem choose_none (h : s.arbiterTakes = none) (fuel : Nat) : choose fuel s = s := by
  cases fuel with
  | zero => rfl
  | succ fuel => rw [choose, h]

theorem choose_plain (h : s.arbiterTakes = some (c, k)) (hclaim : isClaim c.frame = false) :
    choose (fuel + 1) s = (s.chosen c k).startFrame c.frame := by
  rw [choose, h]
  simp only [consult, hclaim, Bool.false_eq_true, if_false, if_true]
  rfl

theorem isClaim_of (h : q.msg = .numberClaim n) : isClaim q = true := by rw [isClaim, h]

/-- A claim whose owner lets it start (R145). -/
theorem choose_claim (h : s.arbiterTakes = some (c, k)) (hclaim : isClaim c.frame = true)
    (hconsult : (s.chosen c k).consultClaim = (u, true)) : choose (fuel + 1) s = u.startFrame c.frame := by
  have hconsult' : (s.onBus (Bus.onLink fun _ => { k with current := some c })).consultClaim = (u, true) := hconsult
  rw [choose, h]
  simp only [consult, hclaim, if_true, hconsult']

/-- A claim that its owner withdraws: the arbiter chooses again (R127, R145). -/
theorem choose_withdrawn (h : s.arbiterTakes = some (c, k)) (hclaim : isClaim c.frame = true)
    (hconsult : (s.chosen c k).consultClaim = (u, false)) : choose (fuel + 1) s = choose fuel u.dropCurrent := by
  have hconsult' : (s.onBus (Bus.onLink fun _ => { k with current := some c })).consultClaim = (u, false) := hconsult
  rw [choose, h]
  simp only [consult, hclaim, if_true, hconsult', Bool.false_eq_true, if_false]

theorem exec_choose (hstart : s.canStart = true) (hcurrent : s.bus.link.current = none) :
    exec .transmitArbiterChoose s = .next (choose 18 (s.taken .transmitArbiterChoose)) := by
  have hcond : (s.taken .transmitArbiterChoose).canStart = true ∧ (s.taken .transmitArbiterChoose).bus.link.current = none :=
    ⟨hstart, hcurrent⟩
  change execTransmitArbiterChoose s = _
  simp only [execTransmitArbiterChoose, if_pos hcond]
  rfl

/-- A frame has started: it is current, the view IN FRAME, the station sending (R115, R127). -/
def startedLink (s : State) (k : Link) (c : Current) : Link := { k with
  current := some c, view := .inFrame, sending := true
  tx := (c.frame.msg.toFrame (s.bus.ctl.number.getD 0) c.frame.dest).wire, rx := some Scan.empty }

/-- A frame that is no claim starts as soon as it is taken. -/
theorem choose_starts (hstart : s.canStart = true) (hcurrent : s.bus.link.current = none)
    (htakes : s.arbiterTakes = some (c, k)) (hclaim : isClaim c.frame = false) :
    ∃ t, exec .transmitArbiterChoose s = .next t ∧ SameWork s t ∧ t.nums = s.nums ∧
      t.bus = { s.bus with link := s.startedLink k c } := by
  have hchoose := choose_plain (s := s.taken .transmitArbiterChoose) (fuel := 17) htakes hclaim
  exact ⟨_, (exec_choose hstart hcurrent).trans (congrArg Host.Outcome.next hchoose),
    ⟨⟨rfl, rfl, rfl, rfl⟩, rfl, rfl, rfl, rfl⟩, rfl, rfl⟩

/-- The arbiter finds nothing to take. -/
theorem choose_idles (hstart : s.canStart = true) (hcurrent : s.bus.link.current = none) (htakes : s.arbiterTakes = none) :
    exec .transmitArbiterChoose s = .next (s.taken .transmitArbiterChoose) :=
  (exec_choose hstart hcurrent).trans (congrArg Host.Outcome.next (choose_none (s := s.taken .transmitArbiterChoose) htakes 18))

/-- A withdrawn claim leaves the arbiter nothing to take. -/
theorem choose_empty (hcontrol : s.bus.link.control = []) (hbeacon : s.bus.link.beacon = none)
    (htransfer : s.bus.link.offTransfer = none) (hdelivery : s.bus.link.offDelivery = none) (fuel : Nat) : choose fuel s = s :=
  choose_none (arbiterTakes_empty hcontrol hbeacon htransfer hdelivery) fuel

/-- A new claim, the only frame that waits, is taken and starts (R144, R145). -/
theorem choose_newClaim (hact : s.Active) (hcontrol : s.bus.link.control = [⟨63, .numberClaim n, 0⟩])
    (hwaiting : s.nums.waiting ≠ []) (hlink : s.nums.link = some (n, true)) :
    choose (fuel + 1) s = ((s.chosen ⟨⟨63, .numberClaim n, 0⟩, .control, 0⟩ { s.bus.link with control := [] }).onNums
      fun x => { x with run := 0, frame := .current }).startFrame ⟨63, .numberClaim n, 0⟩ := by
  have htakes := arbiterTakes_control hact hcontrol
  have hconsult := consultClaim_of_valid (s := s.chosen ⟨⟨63, .numberClaim n, 0⟩, .control, 0⟩ { s.bus.link with control := [] })
    hwaiting hlink
  have hclaim : isClaim (⟨63, .numberClaim n, 0⟩ : QFrame) = true := isClaim_of (n := n) rfl
  have hchoose := choose_claim (fuel := fuel) htakes hclaim hconsult
  exact hchoose

/-- The station once a claim has been withdrawn and the next one made, the only frame that waits (R144, R145). -/
theorem withdrawn_claims (hact : s.Active) (hwaiting : s.nums.waiting ≠ []) (hwait : s.nums.wait = none)
    (hnext : s.nums.next < 16777215) (hcontrol : s.bus.link.control = []) :
    s.withdrawn.makeClaim = { s with
      nums := { s.nums with run := s.nums.run + 1, link := some (s.nums.next, true), frame := .queued }
      bus := { s.bus with link := { s.bus.link with control := [⟨63, .numberClaim s.nums.next, 0⟩] } } } := by
  have hroom : s.withdrawn.HasRoom := by
    change s.bus.link.control.length < 16
    rw [hcontrol]
    decide
  rw [makeClaim_of_room (s := s.withdrawn) hact hwaiting rfl hwait hnext hroom]
  have hplaced := place_bus_of_room (s := s.withdrawn.onNums fun x => { x with
    link := some (s.nums.next, true), frame := .queued }) hroom Config.allStations (.numberClaim s.nums.next)
  have heq : s.withdrawn.claimed = { s.withdrawn with
      nums := { s.withdrawn.nums with link := some (s.nums.next, true), frame := .queued }
      bus := ((s.withdrawn.onNums fun x => { x with link := some (s.nums.next, true), frame := .queued }).place
        Config.allStations (.numberClaim s.nums.next)).bus } := rfl
  rw [heq, hplaced]
  have hnil : s.withdrawn.bus.link.control = [] := hcontrol
  change ({ s with nums := _, bus := { s.bus with link := { s.bus.link with control := s.withdrawn.bus.link.control ++ _ } } } : State) = _
  rw [hnil]
  rfl

end Sys2Proof.Machine.State
end

section
/-! The arbiter and the current frame started again, claims among them (R126, R127, R144, R145, R147). -/

namespace Sys2Proof.Machine.State

variable {s t u : State} {q : QFrame} {rest front : List QFrame} {c : Current} {k : Link} {n fuel : Nat} {b : BeaconBody}

/-! ### A claim at the head of the Control Queue (R145) -/

/-- A valid claim starts (R145). -/
theorem chooseClaim_starts (hstart : s.canStart = true) (hcurrent : s.bus.link.current = none) (hact : s.Active)
    (hcontrol : s.bus.link.control = q :: rest) (hq : q.msg = .numberClaim n) (hwaiting : s.nums.waiting ≠ [])
    (hlink : s.nums.link = some (n, true)) : ∃ t, exec .transmitArbiterChoose s = .next t ∧ SameWork s t ∧
      t.nums = { s.nums with run := 0, frame := .current } ∧
      t.bus = { s.bus with link := s.startedLink { s.bus.link with control := rest } ⟨q, .control, 0⟩ } := by
  have hconsult := consultClaim_of_valid (s := (s.taken .transmitArbiterChoose).chosen ⟨q, .control, 0⟩
    { s.bus.link with control := rest }) hwaiting hlink
  have htakes := arbiterTakes_control (s := s.taken .transmitArbiterChoose) hact hcontrol
  have hchoose := choose_claim (fuel := 17) htakes (isClaim_of hq) hconsult
  exact ⟨_, (exec_choose hstart hcurrent).trans (congrArg Host.Outcome.next hchoose),
    ⟨⟨rfl, rfl, rfl, rfl⟩, rfl, rfl, rfl, rfl⟩, rfl, rfl⟩

/-- A claim for which no letter waits goes, and nothing else is there to take (R127, R145). -/
theorem chooseClaim_goes (hstart : s.canStart = true) (hcurrent : s.bus.link.current = none) (hact : s.Active)
    (hcontrol : s.bus.link.control = [q]) (hq : q.msg = .numberClaim n) (hwaiting : s.nums.waiting = [])
    (hbeacon : s.bus.link.beacon = none) (htransfer : s.bus.link.offTransfer = none)
    (hdelivery : s.bus.link.offDelivery = none) : ∃ t, exec .transmitArbiterChoose s = .next t ∧ SameWork s t ∧
      t.nums = { s.nums with link := none, frame := .none } ∧
      t.bus = { s.bus with link := { s.bus.link with control := [] } } := by
  obtain ⟨v, hv⟩ : ∃ v, v = (s.taken .transmitArbiterChoose).chosen ⟨q, .control, 0⟩ { s.bus.link with control := [] } := ⟨_, rfl⟩
  have hconsult := consultClaim_of_empty (s := (s.taken .transmitArbiterChoose).chosen ⟨q, .control, 0⟩
    { s.bus.link with control := [] }) hwaiting
  have htakes := arbiterTakes_control (s := s.taken .transmitArbiterChoose) hact hcontrol
  have hchoose := choose_withdrawn (fuel := 17) htakes (isClaim_of hq) hconsult
  rw [← hv] at hchoose
  have hempty := choose_empty (s := v.endClaim.dropCurrent) (by rw [hv]; rfl) (by rw [hv]; exact hbeacon)
    (by rw [hv]; exact htransfer) (by rw [hv]; exact hdelivery) 17
  refine ⟨_, (exec_choose hstart hcurrent).trans (congrArg Host.Outcome.next (hchoose.trans hempty)), ?_, ?_, ?_⟩
  all_goals rw [hv]
  · exact ⟨⟨rfl, rfl, rfl, rfl⟩, rfl, rfl, rfl, rfl⟩
  · rfl
  · change ({ s.bus with link := { s.bus.link with control := [], current := none } } : Bus) = _
    rw [← hcurrent]

/-- What a new claim that starts at once leaves (R144, R145). -/
structure ClaimsAnew (s t : State) : Prop where
  work : SameWork s t
  nums : t.nums = { s.nums with run := 0, link := some (s.nums.next, true), frame := .current }
  current : t.bus.link.current = some ⟨⟨63, .numberClaim s.nums.next, 0⟩, .control, 0⟩
  control : t.bus.link.control = []
  view : t.bus.link.view = .inFrame
  sending : t.bus.link.sending = true

/-- The withdrawal of the only claim: the next one is made, taken and started (R127, R144, R145). -/
theorem withdrawn_starts (hact : s.Active) (hwaiting : s.nums.waiting ≠ []) (hwait : s.nums.wait = none)
    (hnext : s.nums.next < 16777215) (hcontrol : s.bus.link.control = []) (fuel : Nat) :
    ClaimsAnew s (choose (fuel + 1) s.withdrawn.makeClaim.dropCurrent) := by
  have hclaims := withdrawn_claims hact hwaiting hwait hnext hcontrol
  have hchoose := choose_newClaim (s := s.withdrawn.makeClaim.dropCurrent) (n := s.nums.next) (fuel := fuel)
    (by rw [hclaims]; exact hact) (by rw [hclaims]; rfl) (by rw [hclaims]; exact hwaiting) (by rw [hclaims]; rfl)
  rw [hchoose, hclaims]
  exact ⟨⟨⟨rfl, rfl, rfl, rfl⟩, rfl, rfl, rfl, rfl⟩, rfl, rfl, rfl, rfl, rfl⟩

theorem ClaimsAnew.of_same (h : ClaimsAnew u t) (hwork : SameWork s u) (hnums : u.nums = s.nums) : ClaimsAnew s t := by
  obtain ⟨⟨hlines, hcoders, htones, hports⟩, hletters, hseg, hxfer, hdeliv⟩ := hwork
  obtain ⟨⟨⟨klines, kcoders, ktones, kports⟩, kletters, kseg, kxfer, kdeliv⟩, knums, kcurrent, kcontrol, kview, ksending⟩ := h
  rw [hnums] at knums kcurrent
  exact ⟨⟨⟨klines.trans hlines, kcoders.trans hcoders, ktones.trans htones, kports.trans hports⟩, kletters.trans hletters,
    kseg.trans hseg, kxfer.trans hxfer, kdeliv.trans hdeliv⟩, knums, kcurrent, kcontrol, kview, ksending⟩

/-- An invalid claim is withdrawn, and the next one starts in its place (R127, R145). -/
theorem chooseClaim_anew (hstart : s.canStart = true) (hcurrent : s.bus.link.current = none) (hact : s.Active)
    (hcontrol : s.bus.link.control = [q]) (hq : q.msg = .numberClaim n) (hwaiting : s.nums.waiting ≠ [])
    (hlink : s.nums.link = some (n, false)) (hrun : s.nums.run < 7) (hwait : s.nums.wait = none)
    (hnext : s.nums.next < 16777215) : ∃ t, exec .transmitArbiterChoose s = .next t ∧ ClaimsAnew s t := by
  obtain ⟨v, hv⟩ : ∃ v, v = (s.taken .transmitArbiterChoose).chosen ⟨q, .control, 0⟩ { s.bus.link with control := [] } := ⟨_, rfl⟩
  have hconsult := consultClaim_withdraws (s := (s.taken .transmitArbiterChoose).chosen ⟨q, .control, 0⟩
    { s.bus.link with control := [] }) hwaiting hlink hrun
  have htakes := arbiterTakes_control (s := s.taken .transmitArbiterChoose) hact hcontrol
  have hchoose := choose_withdrawn (fuel := 17) htakes (isClaim_of hq) hconsult
  rw [← hv] at hchoose
  have hanew := withdrawn_starts (s := v) (by rw [hv]; exact hact) (by rw [hv]; exact hwaiting) (by rw [hv]; exact hwait)
    (by rw [hv]; exact hnext) (by rw [hv]; rfl) 16
  refine ⟨_, (exec_choose hstart hcurrent).trans (congrArg Host.Outcome.next hchoose), hanew.of_same ?_ ?_⟩
  all_goals rw [hv]
  · exact ⟨⟨rfl, rfl, rfl, rfl⟩, rfl, rfl, rfl, rfl⟩
  · rfl

/-! ### The current frame started again (R127) -/

theorem exec_reattempt (hstart : s.canStart = true) (hc : s.bus.link.current = some c) :
    exec .currentFrameReattempt s = .next ((s.taken .currentFrameReattempt).reattempt c) := by
  have hstart' : (s.taken .currentFrameReattempt).canStart = true := hstart
  have hc' : (s.taken .currentFrameReattempt).bus.link.current = some c := hc
  change execCurrentFrameReattempt s = _
  simp only [execCurrentFrameReattempt, hc', hstart', if_true]

theorem reattempt_plain (hclaim : isClaim c.frame = false) : s.reattempt c = s.startFrame c.frame := by
  simp only [reattempt, consult, hclaim, Bool.false_eq_true, if_false, if_true]

theorem reattempt_claim (hclaim : isClaim c.frame = true) (hconsult : s.consultClaim = (u, true)) :
    s.reattempt c = u.startFrame c.frame := by
  simp only [reattempt, consult, hclaim, hconsult, if_true]

theorem reattempt_withdrawn (hclaim : isClaim c.frame = true) (hconsult : s.consultClaim = (u, false)) :
    s.reattempt c = choose 18 u.dropCurrent := by
  simp only [reattempt, consult, hclaim, hconsult, Bool.false_eq_true, if_false, if_true]
  rfl

/-- The current claim, started again: its owner is consulted first (R127, R145, R147). -/
theorem reattemptClaim (hstart : s.canStart = true) (hc : s.bus.link.current = some c) (hn : c.frame.msg = .numberClaim n) :
    (s.nums.waiting ≠ [] → s.nums.link = some (n, true) →
      ∃ t, exec .currentFrameReattempt s = .next t ∧ SameWork s t ∧
        t.nums = { s.nums with run := 0, frame := .current } ∧
        t.bus = { s.bus with link := { s.bus.link with
          view := .inFrame
          sending := true
          tx := (c.frame.msg.toFrame (s.bus.ctl.number.getD 0) c.frame.dest).wire
          rx := some Scan.empty } }) ∧
    (s.bus.link.control = [] → s.bus.link.beacon = none → s.bus.link.offTransfer = none →
      s.bus.link.offDelivery = none →
      (s.nums.waiting = [] → ∃ t, exec .currentFrameReattempt s = .next t ∧ SameWork s t ∧
        t.nums = { s.nums with link := none, frame := .none } ∧
        t.bus = { s.bus with link := { s.bus.link with current := none } }) ∧
      (s.nums.waiting ≠ [] → s.nums.link = some (n, false) → 7 ≤ s.nums.run →
        ∃ t, exec .currentFrameReattempt s = .next t ∧ SameWork s t ∧
          t.nums = { s.nums with link := none, frame := .none, run := 0, wait := some 100 } ∧
          t.bus = { s.bus with link := { s.bus.link with current := none } }) ∧
      (s.Active → s.nums.waiting ≠ [] → s.nums.link = some (n, false) → s.nums.run < 7 →
        s.nums.wait = none → s.nums.next < 16777215 →
        ∃ t, exec .currentFrameReattempt s = .next t ∧ ClaimsAnew s t)) := by
  have hexec := exec_reattempt hstart hc
  have hclaim := isClaim_of hn
  refine ⟨fun hwaiting hlink => ?_, fun hcontrol hbeacon htransfer hdelivery =>
    ⟨fun hwaiting => ?_, fun hwaiting hlink hrun => ?_, fun hact hwaiting hlink hrun hwait hnext => ?_⟩⟩
  · have hagain := reattempt_claim hclaim (consultClaim_of_valid (s := s.taken .currentFrameReattempt) hwaiting hlink)
    exact ⟨_, hexec.trans (congrArg Host.Outcome.next hagain), ⟨⟨rfl, rfl, rfl, rfl⟩, rfl, rfl, rfl, rfl⟩, rfl, rfl⟩
  · have hagain := reattempt_withdrawn hclaim (consultClaim_of_empty (s := s.taken .currentFrameReattempt) hwaiting)
    have hempty := choose_empty (s := (s.taken .currentFrameReattempt).endClaim.dropCurrent) hcontrol hbeacon htransfer
      hdelivery 18
    exact ⟨_, hexec.trans (congrArg Host.Outcome.next (hagain.trans hempty)), ⟨⟨rfl, rfl, rfl, rfl⟩, rfl, rfl, rfl, rfl⟩,
      rfl, rfl⟩
  · have hagain := reattempt_withdrawn hclaim
      (consultClaim_abandons (s := s.taken .currentFrameReattempt) hwaiting hlink hrun)
    have hempty := choose_empty (s := (s.taken .currentFrameReattempt).claimAbandoned.dropCurrent) hcontrol hbeacon htransfer
      hdelivery 18
    exact ⟨_, hexec.trans (congrArg Host.Outcome.next (hagain.trans hempty)), ⟨⟨rfl, rfl, rfl, rfl⟩, rfl, rfl, rfl, rfl⟩,
      rfl, rfl⟩
  · have hagain := reattempt_withdrawn hclaim
      (consultClaim_withdraws (s := s.taken .currentFrameReattempt) hwaiting hlink hrun)
    have hanew := withdrawn_starts (s := s.taken .currentFrameReattempt) hact hwaiting hwait hnext hcontrol 17
    exact ⟨_, hexec.trans (congrArg Host.Outcome.next hagain),
      hanew.of_same ⟨⟨rfl, rfl, rfl, rfl⟩, rfl, rfl, rfl, rfl⟩ rfl⟩

end Sys2Proof.Machine.State
end

section
/-! The ends of the frame that is sent: arbitration lost, success, an attempt failed (R115, R116, R119, R121 to R123,
R125, R127, R131). -/

namespace Sys2Proof.Machine.State

variable {s t u : State} {q : QFrame} {c : Current} {kinds : List ErrKind} {n : Nat}

theorem sendingNow_of (hnum : s.Numbered) (hsending : s.bus.link.sending = true) (hc : s.bus.link.current = some c) :
    s.sendingNow = some c := by
  simp only [sendingNow, isNumbered_of hnum, hsending, Bool.and_self, if_true, hc]

theorem exec_lostArbitration (h : s.sendingNow = some c) : exec .lostArbitration s = .next
    (((s.taken .lostArbitration).count fun n => { n with arbitrationLosses := n.arbitrationLosses + 1 }).onBus
      (Bus.onLink fun k => { k with sending := false, tx := [] })) := by
  have h' : (s.taken .lostArbitration).sendingNow = some c := h
  change execLostArbitration s = _
  simp only [execLostArbitration, h']

/-! ### A frame sent (R116, R121, R122, R131) -/

/-- The station when its frame has completed, before its owner is told (R116). -/
def sent (s : State) (c : Current) : State :=
  (s.count fun n => { n with framesSent := n.framesSent + 1 }).faultFalls.frameDone c

theorem exec_frameSuccess (h : s.sendingNow = some c) : exec .frameSuccess s = .next
    (((s.taken .frameSuccess).sent c).reportSome (completionOf c.frame)) := by
  have h' : (s.taken .frameSuccess).sendingNow = some c := h
  change execFrameSuccess s = _
  simp only [execFrameSuccess, h']
  rfl

/-- The hold-off after a frame of the station's own, by the fault count before it (R111, R122). -/
theorem holdOff_sent (k : Link) (held : Option Nat) :
    (if 128 ≤ faultDown k.fault ∧ faultDown k.fault < 256 then some 16
      else if k.state = .muted ∧ LinkState.ofFault (faultDown k.fault) ≠ .muted then none else held) =
    if 128 < k.fault ∧ k.fault < 256 then some 16 else if k.fault = 128 then none else held := by
  simp only [muted_iff, ne_eq, faultDown_eq]
  generalize k.fault = f
  rcases lt_trichotomy f 128 with hlow | rfl | hhigh
  · rw [if_neg (by split <;> omega), if_neg (by omega), if_neg (by omega), if_neg (by omega)]
  · rfl
  · by_cases hlimit : f < 256
    · rw [if_pos (by rw [if_pos hlimit]; omega), if_pos ⟨hhigh, hlimit⟩]
    · rw [if_neg (by rw [if_neg hlimit]; omega), if_neg (by omega), if_neg (by omega), if_neg (by omega)]

theorem sent_bus (s : State) (c : Current) : (s.sent c).bus =
    { ctl := { s.bus.ctl with eventSeq := (s.sent c).bus.ctl.eventSeq }
      counters := { s.bus.counters with
        framesSent := s.bus.counters.framesSent + 1, eventsLost := (s.sent c).bus.counters.eventsLost }
      link := { s.bus.link with
        fault := faultDown s.bus.link.fault, view := .idle, wasOwn := false, current := none
        sending := false, tx := [], rx := none, burst := 0, burstDelay := 0
        lastDelivery := if c.source = .delivery then some (c.frame.owner, 0) else s.bus.link.lastDelivery
        holdOff := if 128 < s.bus.link.fault ∧ s.bus.link.fault < 256 then some 16
          else if s.bus.link.fault = 128 then none else s.bus.link.holdOff
        control := (s.sent c).bus.link.control } } := by
  have hfault := faultFalls_eq (s.count fun n => { n with framesSent := n.framesSent + 1 })
  have heq : (s.sent c).bus = ((s.count fun n => { n with framesSent := n.framesSent + 1 }).faultFalls.bus.quiet.onLink fun k =>
      { k with
        current := none
        wasOwn := true
        lastDelivery := if c.source = .delivery then some (c.frame.owner, 0) else k.lastDelivery }).idle := rfl
  have hheld := holdOff_sent s.bus.link s.bus.link.holdOff
  rw [← hheld, heq, hfault]
  change (((s.bus.count _).setFault _).quiet.onLink _).idle = _
  rw [Bus.setFault_parts, idle_eq]
  simp only [Bus.quiet, Bus.onLink, true_and]
  rfl

theorem frameSent (hnum : s.Numbered) (hsending : s.bus.link.sending = true) (hc : s.bus.link.current = some c) :
    ∃ t, exec .frameSuccess s = .next t ∧
      t.bus.counters.framesSent = s.bus.counters.framesSent + 1 ∧
      t.bus.link.fault = (if s.bus.link.fault < 256 then s.bus.link.fault - 1 else s.bus.link.fault) ∧
      t.bus.link.current = none ∧ t.bus.link.view = .idle ∧ t.bus.link.sending = false ∧
      (c.source = .delivery → t.bus.link.lastDelivery = some (c.frame.owner, 0)) ∧
      (c.source ≠ .delivery → t.bus.link.lastDelivery = s.bus.link.lastDelivery) ∧
      t.bus.link.holdOff = (if 128 < s.bus.link.fault ∧ s.bus.link.fault < 256 then some 16
        else if s.bus.link.fault = 128 then none else s.bus.link.holdOff) ∧
      t.reports = (s.reports.erase .frameSuccess).filter (· ≠ .holdOffExpiry) ++ (completionOf c.frame).toList ∧
      SameWork s t ∧ t.nums = s.nums ∧ t.peers = s.peers := by
  have hexec := exec_frameSuccess (sendingNow_of hnum hsending hc)
  have hbus := sent_bus (s.taken .frameSuccess) c
  have hparts : OnlyBus s ((s.taken .frameSuccess).sent c) ∧
      ((s.taken .frameSuccess).sent c).reports = (s.reports.erase .frameSuccess).filter (· ≠ .holdOffExpiry) := by
    unfold OnlyBus
    rw [sent, faultFalls_eq]
    exact ⟨rfl, rfl⟩
  obtain ⟨honly, hreports⟩ := hparts
  generalize (s.taken .frameSuccess).sent c = v at *
  have hsome : ∀ r : Option Instr, OnlyBus v (v.reportSome r) ∧ (v.reportSome r).bus = v.bus ∧
      (v.reportSome r).reports = v.reports ++ r.toList := by
    intro r
    cases r with
    | none => exact ⟨rfl, rfl, (List.append_nil _).symm⟩
    | some i => exact ⟨rfl, rfl, rfl⟩
  obtain ⟨hrest, hsame, htold⟩ := hsome (completionOf c.frame)
  have hall := honly.trans hrest
  refine ⟨_, hexec, ?_, ?_, ?_, ?_, ?_, fun hsource => ?_, fun hsource => ?_, ?_, by rw [htold, hreports], hall.sameWork,
    hall.nums, hall.peers⟩
  all_goals rw [hsame, hbus]
  · rfl
  · exact faultDown_eq _
  · rw [if_pos hsource]
  · rw [if_neg hsource]
    rfl
  · rfl

/-! ### An attempt failed (R119, R121, R125, R127) -/

theorem exec_frameAttemptFailed (h : s.sendingNow = some c) (kinds : List ErrKind) : exec (.frameAttemptFailed kinds) s =
    .next (detachIfNew s.isDetached (((s.taken (.frameAttemptFailed kinds)).errored kinds 8 0 true).countAttempt c)) := by
  have h' : (s.taken (.frameAttemptFailed kinds)).sendingNow = some c := h
  change execFrameAttemptFailed kinds s = _
  simp only [execFrameAttemptFailed, h']
  rfl

/-- The failed attempt is counted (R127). -/
def attemptCounted (s : State) (c : Current) : State :=
  s.onBus (Bus.onLink fun k => { k with current := some { c with fails := c.fails + 1 } })

theorem countAttempt_again (h : c.fails + 1 < 16) (s : State) : s.countAttempt c = s.attemptCounted c :=
  if_pos (show c.fails + 1 < Config.frameAttempts from h)

/-- A failed attempt that is not the last, below the limit (R119, R121, R127). -/
theorem attemptFailed_counts (hnum : s.Numbered) (hsending : s.bus.link.sending = true) (hc : s.bus.link.current = some c)
    (kinds : List ErrKind) (hfault : s.bus.link.fault + 8 < 256) (hfails : c.fails + 1 < 16) :
    ∃ t, exec (.frameAttemptFailed kinds) s = .next t ∧ t.bus.link.fault = s.bus.link.fault + 8 ∧
      t.bus.link.current = some { c with fails := c.fails + 1 } ∧ t.bus.link.view = .errorWait ∧
      t.bus.link.sending = false ∧
      t.bus.link.errors = errorsAfter s.bus.ctl.settings.errMode s.bus.link.errors kinds ∧
      t.bus.link.burst = (if s.bus.link.fault + 8 < 128 then 12 else 0) ∧
      SameWork s t ∧ t.nums = s.nums := by
  have hexec := exec_frameAttemptFailed (sendingNow_of hnum hsending hc) kinds
  have hbus := errored_bus (s.taken (.frameAttemptFailed kinds)) kinds 8 0 true
  have honly : OnlyBus s ((s.taken (.frameAttemptFailed kinds)).errored kinds 8 0 true) := rfl
  have hup : faultUp 8 (s.taken (.frameAttemptFailed kinds)).bus.link.fault = s.bus.link.fault + 8 := faultUp_low hfault
  rw [hup] at hbus
  rw [countAttempt_again hfails] at hexec
  generalize (s.taken (.frameAttemptFailed kinds)).errored kinds 8 0 true = v at *
  have hfault' : v.bus.link.fault = s.bus.link.fault + 8 := by rw [hbus]
  have hcounted : OnlyBus s (v.attemptCounted c) := honly.trans rfl
  rw [detachIfNew_stays (s := v.attemptCounted c) (show v.bus.link.fault < 256 by omega)] at hexec
  refine ⟨_, hexec, hfault', rfl, ?_, ?_, ?_, ?_, hcounted.sameWork, hcounted.nums⟩
  · change v.bus.link.view = _
    rw [hbus]
  · change v.bus.link.sending = _
    rw [hbus]
  · change v.bus.link.errors = _
    rw [hbus]
    rfl
  · change v.bus.link.burst = _
    rw [hbus]

/-- A failed attempt that is not the last and takes the link into DETACHED (R123, R127). -/
theorem attemptFailed_detaches (hnum : s.Numbered) (hsending : s.bus.link.sending = true) (hc : s.bus.link.current = some c)
    (kinds : List ErrKind) (hlow : s.bus.link.fault < 256) (hfault : 256 ≤ s.bus.link.fault + 8) (hfails : c.fails + 1 < 16) :
    ∃ t, exec (.frameAttemptFailed kinds) s = .next t ∧ WentDetached s t ∧ t.bus.link.view = .errorWait ∧
      t.bus.link.current = (if c.source = .control then some { c with fails := c.fails + 1 } else none) := by
  have hexec := exec_frameAttemptFailed (sendingNow_of hnum hsending hc) kinds
  have hbus := errored_bus (s.taken (.frameAttemptFailed kinds)) kinds 8 0 true
  have honly : OnlyBus s ((s.taken (.frameAttemptFailed kinds)).errored kinds 8 0 true) := rfl
  have hup : faultUp 8 (s.taken (.frameAttemptFailed kinds)).bus.link.fault = 256 := faultUp_limit hfault
  rw [hup] at hbus
  rw [countAttempt_again hfails, isDetached_of_low hlow] at hexec
  generalize (s.taken (.frameAttemptFailed kinds)).errored kinds 8 0 true = v at *
  have hfault' : (v.attemptCounted c).bus.link.fault = 256 := by
    change v.bus.link.fault = _
    rw [hbus]
  have hview : v.bus.link.view = .errorWait := by rw [hbus]
  have hcounted : OnlyBus s (v.attemptCounted c) := honly.trans rfl
  rw [detachIfNew_enters hfault'] at hexec
  refine ⟨_, hexec, (enterDetached_went hfault').of_same hcounted.sameWork hcounted.nums hcounted.peers, ?_, ?_⟩
  · rw [enterDetached_bus]
    change (if v.bus.link.view = .inFrame then BusView.errorWait else v.bus.link.view) = _
    rw [hview]
    rfl
  · rw [enterDetached_bus]
    change detachCurrent { c with fails := c.fails + 1 } = _
    rw [detachCurrent]
    cases hsource : c.source <;> rfl

end Sys2Proof.Machine.State
end

section
/-! A frame abandoned at its last failure, and its owner told (R128, R129, R147, R155, R167, R168, R177, R187). -/

namespace Sys2Proof.Machine.State

variable {s t u : State} {q : QFrame} {c : Current} {kinds : List ErrKind} {n : Nat} {o : Outgoing} {inc : Incoming}
  {a : Machine.Active} {x : Letter} {p : Progress}

/-! ### What an owner that is told can do to the bus side -/

/-- The owner of a frame has been told: frames may join the Control Queue, and with room in it nothing leaves it and
nothing is abandoned. -/
structure OwnerTold (q : QFrame) (s t : State) : Prop where
  bus : Bus.OnlyQueued s.bus t.bus
  frames : s.bus.link.control.length ≤ 10 → ∀ r ∈ s.bus.link.control, r ∈ t.bus.link.control
  abandoned : s.bus.link.control.length ≤ 10 ∨ ownerPlaces q.msg = false →
    t.bus.counters.framesAbandoned = s.bus.counters.framesAbandoned

theorem hasRoom_of_ten (h : s.bus.link.control.length ≤ 10) : s.HasRoom := by
  change _ < 16
  omega

namespace OwnerTold

theorem of_bus (h : t.bus = s.bus) : OwnerTold q s t :=
  ⟨by rw [h]; exact .refl _, fun _ r hr => by rw [h]; exact hr, fun _ => by rw [h]⟩

theorem of_quiet (hquiet : EngineQuiet s t) (hbus : Bus.OnlyQueued s.bus t.bus) : OwnerTold q s t :=
  ⟨hbus, fun _ r hr => by rw [hquiet.control]; exact hr, fun _ => by rw [hquiet.counters]⟩

theorem of_keeps (hkeeps : EngineKeeps s t) (hbus : Bus.OnlyQueued s.bus t.bus) (hplaces : ownerPlaces q.msg = true) :
    OwnerTold q s t := by
  refine ⟨hbus, fun hlen r hr => hkeeps.frames r hr (.inr (hasRoom_of_ten hlen)), fun hwhen => ?_⟩
  rcases hwhen with hlen | hnot
  · exact hkeeps.abandoned (hasRoom_of_ten hlen)
  · rw [hplaces] at hnot
    cases hnot

end OwnerTold

theorem endQueued_bus (s : State) (tag : BitVec 8) : (s.endQueued tag).bus = s.bus := by
  unfold endQueued
  split
  · unfold givePick
    split <;> rfl
  · rfl

/-- A transfer that fails for an abandoned Fetch: its events and the Fetch Cancel find room (R167). -/
theorem incomingFail_told (hinc : s.xfer.incoming = some inc) (hplaces : ownerPlaces q.msg = true) :
    OwnerTold q s (s.incomingFail (some .timeout) .timeout) := by
  have hraises := (freeLetter_shrinks s inc.letter).raises
  have hraise := Bus.Raises.raise (s.freeLetter inc.letter).bus (.transferCancelled inc.number inc.giver .timeout)
  have hall := hraises.trans hraise
  have hbus := incomingFail_bus hinc (some .timeout) .timeout
  have hfailed : failedBus inc (some .timeout) .timeout (s.freeLetter inc.letter).bus =
      ((s.freeLetter inc.letter).bus.raise (.transferCancelled inc.number inc.giver .timeout)).place
        ⟨inc.giver, .fetchCancel inc.number .timeout, 0⟩ := rfl
  rw [hfailed] at hbus
  have hlength := hall.control_length
  have hroom : s.bus.link.control.length ≤ 10 →
      ((s.freeLetter inc.letter).bus.raise (.transferCancelled inc.number inc.giver .timeout)).link.control.length < 16 :=
    fun hlen => by omega
  generalize (s.freeLetter inc.letter).bus.raise (.transferCancelled inc.number inc.giver .timeout) = b at *
  refine ⟨by rw [hbus]; exact hall.queued.trans (.place _ _), fun hlen r hr => ?_, fun hwhen => ?_⟩
  · rw [hbus]
    exact mem_place_of_mem (hall.mem_control hr) (.inr (hroom hlen))
  · rcases hwhen with hlen | hnot
    · rw [hbus, Bus.place_room _ _ (hroom hlen)]
      change b.counters.framesAbandoned = _
      rw [hall.parts]
    · rw [hplaces] at hnot
      cases hnot

/-- A transfer halted by an abandoned frame, its Transfer Check made (R168, R169). -/
theorem haltCheck_eq (ho : s.xfer.outgoing = some o) : s.haltOutgoing.makeCheck =
    if s.isDetached = false ∧ s.isPresent o.taker = true then
      (((s.haltOutgoing).cancel .checkTimerExpiry).onOutgoing fun x => { x with timer := some 2000, outstanding := true }).place
        o.taker (.transferCheck o.number)
    else ((s.haltOutgoing).cancel .checkTimerExpiry).onOutgoing fun x => { x with timer := some 2000 } := by
  have hhalted : s.haltOutgoing.xfer.outgoing = some { o with phase := .halted } := by
    change (s.onOutgoing fun x => { x with phase := .halted }).xfer.outgoing = _
    rw [onOutgoing_xfer ho]
  rw [makeCheck_eq hhalted]
  rfl

theorem transferAbandoned_of (ho : s.xfer.outgoing = some o) (hname : o.name = n) :
    s.transferAbandoned n = s.haltOutgoing.makeCheck := by
  rw [transferAbandoned, if_pos (by rw [ho, Option.any_some, hname, beq_self_eq_true])]

theorem transferAbandoned_told (s : State) (n : Nat) (hplaces : ownerPlaces q.msg = true) :
    OwnerTold q s (s.transferAbandoned n) := by
  unfold transferAbandoned
  split
  · cases ho : s.xfer.outgoing with
    | none =>
      next h => simp [ho] at h
    | some o =>
      rw [haltCheck_eq ho]
      split
      · refine .of_keeps (EngineQuiet.before (t := (s.haltOutgoing.cancel .checkTimerExpiry).onOutgoing fun x =>
            { x with timer := some 2000, outstanding := true }) (.of_same rfl rfl rfl) (place_keeps _ _)) ?_ hplaces
        exact Bus.OnlyQueued.trans (c := s.haltOutgoing.bus) rfl (.place _ _)
      · exact .of_quiet (.of_same rfl rfl rfl) rfl
  · exact .of_bus rfl

theorem abortActive_quiet (s : State) : EngineQuiet s s.abortActive := by
  cases h : s.activeOf with
  | none =>
    rw [abortActive_of_none h]
    exact .refl s
  | some e =>
    obtain ⟨a, x, p⟩ := e
    obtain ⟨hrest, -⟩ := notedIfEnded_deliv s a x p
    rw [abortActive_of h]
    have hnoted : EngineQuiet s (s.notedIfEnded a x p) := by
      rw [hrest]
      exact .of_same rfl rfl rfl
    exact hnoted.trans ((onLetter_quiet _ _ _).trans (.of_same rfl rfl rfl))

theorem abortActive_queued (s : State) : OnlyQueued s s.abortActive := by
  rw [OnlyQueued, abortActive_rest]
  rfl

/-- Whatever frame is abandoned, its owner does no more to the bus side than the Control Queue has room for. -/
theorem tellAbandoned_told (s : State) (q : QFrame) : OwnerTold q s (s.tellAbandoned q) := by
  unfold tellAbandoned
  split
  next => exact .of_bus rfl
  next => exact .of_bus (endQueued_bus s _)
  next n author hmsg =>
    split
    · cases hinc : s.xfer.incoming with
      | none => next h => simp [hinc] at h
      | some inc => exact incomingFail_told hinc (by rw [hmsg]; rfl)
    · exact .of_bus rfl
  next snap hmsg => exact transferAbandoned_told s _ (by rw [hmsg]; rfl)
  next d hmsg => exact transferAbandoned_told s _ (by rw [hmsg]; rfl)
  next m k hmsg => exact transferAbandoned_told s _ (by rw [hmsg]; rfl)
  next body hmsg =>
    split
    · exact .of_quiet (offerFailed_quiet s) (offerFailed_queued s)
    · exact .of_bus rfl
  next pri r tag d hmsg =>
    split
    · exact .of_keeps ((abortActive_quiet s).before (afterEnd_keeps _)) ((abortActive_queued s).trans (afterEnd_queued _))
        (by rw [hmsg]; rfl)
    · exact .of_bus rfl
  next pri m tag k hmsg =>
    split
    · exact .of_keeps ((abortActive_quiet s).before (afterEnd_keeps _)) ((abortActive_queued s).trans (afterEnd_queued _))
        (by rw [hmsg]; rfl)
    · exact .of_bus rfl
  next => exact .of_bus rfl

/-- The owner of most frames does nothing (R128). -/
theorem tellAbandoned_none (h : ownerActs q.msg = false) (s : State) : s.tellAbandoned q = s := by
  unfold tellAbandoned
  split <;> simp_all [ownerActs]

/-! ### The frame abandoned (R128) -/

/-- The station with its current frame abandoned, before the frame's owner is told (R128). -/
def abandonedFrame (s : State) (kinds : List ErrKind) (c : Current) : State :=
  (s.errored kinds 8 0 true).dropCurrent.onBus (Bus.abandon c.frame)

theorem countAttempt_last (h : c.fails + 1 = 16) (s : State) (kinds : List ErrKind) :
    (s.errored kinds 8 0 true).countAttempt c = (s.abandonedFrame kinds c).tellAbandoned c.frame := by
  have hlast : ¬c.fails + 1 < Config.frameAttempts := by
    change ¬c.fails + 1 < 16
    omega
  exact if_neg hlast

theorem abandonedFrame_only (s : State) (kinds : List ErrKind) (c : Current) : OnlyBus s (s.abandonedFrame kinds c) := rfl

theorem abandonedFrame_bus (s : State) (kinds : List ErrKind) (c : Current) : (s.abandonedFrame kinds c).bus =
    { ctl := { s.bus.ctl with eventSeq := (s.abandonedFrame kinds c).bus.ctl.eventSeq }
      counters := { s.bus.counters with
        framesAbandoned := s.bus.counters.framesAbandoned + 1
        eventsLost := (s.abandonedFrame kinds c).bus.counters.eventsLost }
      link := { s.bus.link with
        fault := faultUp 8 s.bus.link.fault
        errors := errorsAfter s.bus.ctl.settings.errMode s.bus.link.errors kinds
        view := .errorWait, wasOwn := true, sending := false, tx := [], rx := none, current := none
        holdOff := (s.errored kinds 8 0 true).bus.link.holdOff
        burst := if faultUp 8 s.bus.link.fault < 128 then 12 else 0
        burstDelay := if faultUp 8 s.bus.link.fault < 128 then 0 else 0
        control := (s.abandonedFrame kinds c).bus.link.control } } := by
  have herrored := errored_bus s kinds 8 0 true
  have heq : (s.abandonedFrame kinds c).bus = (((s.errored kinds 8 0 true).bus.onLink fun k => { k with current := none }).count
      fun n => { n with framesAbandoned := n.framesAbandoned + 1 }).raise
        (.frameAbandoned c.frame.msg.cls c.frame.msg.kind c.frame.dest) := rfl
  have hparts := Bus.raise_parts (((s.errored kinds 8 0 true).bus.onLink fun k => { k with current := none }).count
      fun n => { n with framesAbandoned := n.framesAbandoned + 1 })
        (.frameAbandoned c.frame.msg.cls c.frame.msg.kind c.frame.dest)
  rw [← heq] at hparts
  generalize (s.abandonedFrame kinds c).bus = w at *
  generalize (s.errored kinds 8 0 true).bus = b at *
  generalize w.ctl.eventSeq = seq at *
  generalize w.counters.eventsLost = lost at *
  generalize w.link.control = control at *
  generalize b.link.holdOff = held at *
  rw [hparts, herrored]
  rfl

/-- At most two events have joined the Control Queue: the link state, and the frame abandoned. -/
theorem abandonedFrame_raises (s : State) (kinds : List ErrKind) (c : Current) : ∃ qs : List QFrame,
    qs.length ≤ 2 ∧ (∀ r ∈ qs, r.msg.isEvent = true) ∧
      (s.abandonedFrame kinds c).bus.link.control = s.bus.link.control ++ qs := by
  obtain ⟨ps, hps, hpe, hpc⟩ := (noteError_raises kinds 8 s).control
  obtain ⟨rs, hrs, hre, hrc⟩ := Bus.raise_control (((s.errored kinds 8 0 true).bus.onLink fun k => { k with current := none }).count
      fun n => { n with framesAbandoned := n.framesAbandoned + 1 })
        (.frameAbandoned c.frame.msg.cls c.frame.msg.kind c.frame.dest)
  refine ⟨ps ++ rs, by rw [List.length_append]; omega, fun r hr => (List.mem_append.mp hr).elim (hpe r) (hre r), ?_⟩
  have hfirst : (s.errored kinds 8 0 true).bus.link.control = s.bus.link.control ++ ps := hpc
  rw [← List.append_assoc, ← hfirst]
  exact hrc

/-- The frame-abandoned event stands in the Control Queue, where it has room (R128, R198). -/
theorem abandonedFrame_told (hlen : s.bus.link.control.length ≤ 8) (kinds : List ErrKind) (c : Current) {d : Station}
    (hdest : s.bus.ctl.eventDest = some d) : ∃ seq, (s.abandonedFrame kinds c).InQueue d (.event 2 seq s.bus.ctl.seconds
      [BitVec.ofNat 8 c.frame.msg.cls, BitVec.ofNat 8 c.frame.msg.kind, BitVec.ofNat 8 c.frame.dest]) := by
  have hctl : (s.errored kinds 8 0 true).bus.ctl = { s.bus.ctl with eventSeq := (s.noteError kinds 8).bus.ctl.eventSeq } := by
    rw [errored_bus]
  obtain ⟨ps, hps, -, hpc⟩ := (noteError_raises kinds 8 s).control
  have hfirst : (s.errored kinds 8 0 true).bus.link.control = s.bus.link.control ++ ps := hpc
  have htold := Bus.raise_told (b := ((s.errored kinds 8 0 true).bus.onLink fun k => { k with current := none }).count
      fun n => { n with framesAbandoned := n.framesAbandoned + 1 }) (d := d)
    (by
      change (s.errored kinds 8 0 true).bus.link.control.length < 16
      rw [hfirst, List.length_append]
      omega)
    (by
      change (s.errored kinds 8 0 true).bus.ctl.eventDest = some d
      rw [hctl]
      exact hdest)
    (.frameAbandoned c.frame.msg.cls c.frame.msg.kind c.frame.dest)
  have hseconds : (s.errored kinds 8 0 true).bus.ctl.seconds = s.bus.ctl.seconds := by rw [hctl]
  refine ⟨(s.errored kinds 8 0 true).bus.ctl.eventSeq + 1, ?_⟩
  rw [InQueue, ← hseconds]
  exact htold

end Sys2Proof.Machine.State
end

section
/-! What each owner does when its frame is abandoned (R147, R155, R167 to R169, R174, R177, R185 to R187). -/

namespace Sys2Proof.Machine.State

variable {s t u : State} {q : QFrame} {c : Current} {kinds : List ErrKind} {n m : Nat} {o : Outgoing} {inc : Incoming}
  {a : Machine.Active} {x y : Letter} {p : Progress} {i j : LetterIx} {st : Station} {tag : BitVec 8} {col : Collection}

/-! ### A Locate abandoned (R155) -/

theorem endQueued_refuses (hcol : (s.xfer.collections.find? fun y => y.tag == tag && !y.collecting) = some col)
    (hlocate : s.lines[col.line].locate = some tag) :
    LocateRefused col.line (s.dropCollection col) (s.endQueued tag) := by
  have htag : col.tag = tag := by
    have hboth : (col.tag == tag && !col.collecting) = true := List.find?_some (p := fun y : Collection => y.tag == tag && !y.collecting) hcol
    simp only [Bool.and_eq_true, beq_iff_eq] at hboth
    exact hboth.1
  have heq : s.endQueued tag = (s.dropCollection col).givePick col .none := by simp only [endQueued, hcol]
  rw [heq, givePick_of_wanted (s := s.dropCollection col) (by rw [htag]; exact hlocate)]
  exact locateRefused (s.dropCollection col) col.line

/-! ### A frame of a transfer abandoned (R168, R169) -/

theorem tellAbandoned_transfer (h : q.msg.kind = 0x08 ∨ q.msg.kind = 0x13 ∨ q.msg.kind = 0x14) (s : State) :
    s.tellAbandoned q = s.transferAbandoned q.owner := by
  rw [tellAbandoned]
  cases hmsg : q.msg <;> simp [hmsg, Msg.kind] at h ⊢

/-- The transfer is halted, its check timer restarted, and its Transfer Check placed where one can be. -/
theorem haltCheck_parts (ho : s.xfer.outgoing = some o) :
    (s.haltOutgoing.makeCheck).letters = s.letters ∧ SameLines s s.haltOutgoing.makeCheck ∧
    s.haltOutgoing.makeCheck.seg = s.seg ∧ s.haltOutgoing.makeCheck.bus.link.offTransfer = none ∧
    (s.isDetached = false → s.haltOutgoing.makeCheck.xfer = { s.xfer with outgoing := some { o with
        phase := .halted, timer := some 2000
        outstanding := if s.isPresent o.taker = true then true else o.outstanding } } ∧
      (s.isPresent o.taker = true → s.HasRoom → s.haltOutgoing.makeCheck.InQueue o.taker (.transferCheck o.number))) ∧
    (s.isDetached = true → s.haltOutgoing.makeCheck.xfer = { s.xfer with outgoing := some { o with
        phase := .halted, timer := some 2000 } } ∧ s.haltOutgoing.makeCheck.bus.link.control = s.bus.link.control) := by
  have hhalted : s.haltOutgoing.xfer = { s.xfer with outgoing := some { o with phase := .halted } } := by
    change (s.onOutgoing fun x => { x with phase := .halted }).xfer = _
    rw [onOutgoing_xfer ho]
  have hout : (s.haltOutgoing.cancel .checkTimerExpiry).xfer.outgoing = some { o with phase := .halted } :=
    congrArg Transfer.outgoing hhalted
  rw [haltCheck_eq ho]
  split
  · next hsends =>
    obtain ⟨hattached, hpresent⟩ := hsends
    refine ⟨rfl, ⟨rfl, rfl, rfl, rfl⟩, rfl, ?_, fun _ => ⟨?_, fun _ hroom => ?_⟩, fun hdetached => ?_⟩
    · change (s.haltOutgoing.bus.place _).link.offTransfer = none
      have hqueues := Bus.Queues.place ⟨o.taker, .transferCheck o.number, 0⟩ s.haltOutgoing.bus
      unfold Bus.Queues at hqueues
      rw [hqueues]
      rfl
    · rw [if_pos hpresent]
      change ((s.haltOutgoing.cancel .checkTimerExpiry).onOutgoing _).xfer = _
      rw [onOutgoing_xfer hout]
      change ({ s.haltOutgoing.xfer with outgoing := _ } : Transfer) = _
      rw [hhalted]
    · exact Bus.mem_place (Bus.accepts_of_room (b := s.haltOutgoing.bus) hroom) _
    · rw [hattached] at hdetached
      cases hdetached
  · next hsends =>
    have hxfer : ((s.haltOutgoing.cancel .checkTimerExpiry).onOutgoing fun x => { x with timer := some 2000 }).xfer =
        { s.xfer with outgoing := some { o with phase := .halted, timer := some 2000 } } := by
      rw [onOutgoing_xfer hout]
      change ({ s.haltOutgoing.xfer with outgoing := _ } : Transfer) = _
      rw [hhalted]
    refine ⟨rfl, ⟨rfl, rfl, rfl, rfl⟩, rfl, rfl, fun hattached => ?_, fun _ => ⟨hxfer, rfl⟩⟩
    have hgone : ¬s.isPresent o.taker = true := fun hpresent => hsends ⟨hattached, hpresent⟩
    exact ⟨by rw [if_neg hgone]; exact hxfer, fun hpresent => absurd hpresent hgone⟩

/-! ### A frame of a delivery abandoned (R177, R185 to R187) -/

theorem tellAbandoned_offer {body : OfferBody} (hmsg : q.msg = .offer body) (ha : s.deliv.active = some a)
    (hname : a.name = q.owner) (hphase : a.phase = .offered) : s.tellAbandoned q = s.offerFailed := by
  have hcond : s.activeIs q.owner = true ∧ s.deliv.active.any (·.phase == .offered) = true := by
    simp [activeIs, ha, hname, hphase]
  simp only [tellAbandoned, hmsg, if_pos hcond]

theorem tellAbandoned_delivery (h : q.msg.kind = 0x15 ∨ q.msg.kind = 0x16) (ha : s.deliv.active = some a)
    (hname : a.name = q.owner) : s.tellAbandoned q = s.abortActive.afterEnd := by
  have hcond : s.activeIs q.owner = true := by simp [activeIs, ha, hname]
  rw [tellAbandoned]
  cases hmsg : q.msg <;> simp [hmsg, Msg.kind, hcond] at h ⊢

/-- A failed Offer, before a suspended delivery goes on (R177). -/
def offerGone (s : State) (a : Machine.Active) : State :=
  (((s.onLetter a.letter fun x => { x with progress := none }).clearActive).cancel .retryTimerExpiry).onDeliv fun d =>
    { d with retry := some Config.retryMs }

/-- A suspended delivery becomes the active one, whatever its entry holds (R186). -/
theorem resumeSuspended_shape (h : s.deliv.suspended = some (i, n)) :
    s.resumeSuspended.deliv = { s.deliv with suspended := none, active := some ⟨i, n, .streaming, none, false, true, none⟩ } ∧
      OtherLetters i s s.resumeSuspended := by
  obtain ⟨u, hu⟩ : ∃ u, u = (s.onLetter i fun x => { x with state := .delivering }).onDeliv fun d =>
    { d with suspended := none, active := some ⟨i, n, .streaming, none, false, true, none⟩ } := ⟨_, rfl⟩
  have heq : s.resumeSuspended = u.offerDelivery := by
    rw [hu]
    simp only [resumeSuspended, h]
  obtain ⟨f, hf⟩ := offerDelivery_same u
  rw [heq, hf, hu]
  exact ⟨rfl, fun j hj => onLetter_other s hj _⟩

/-- A failed Offer, with what it does to a suspended delivery (R177, R186). -/
theorem offerFailed_letter (ha : s.deliv.active = some a) (hx : s.letters[a.letter] = some x)
    (hother : ∀ j m, s.deliv.suspended = some (j, m) → j ≠ a.letter) :
    s.offerFailed.letters[a.letter] = some { x with progress := none } ∧ s.offerFailed.deliv.retry = some 1000 ∧
      s.offerFailed.deliv.suspended = none ∧
      (s.deliv.suspended = none → s.offerFailed.deliv.active = none) ∧
      (∀ j m, s.deliv.suspended = some (j, m) →
        s.offerFailed.deliv.active = some ⟨j, m, .streaming, none, false, true, none⟩ ∧
        ∀ y, s.letters[j] = some y → s.offerFailed.letters[j] = some { y with state := .delivering }) ∧
      s.offerFailed.seg = s.seg ∧ SameLines s s.offerFailed := by
  obtain ⟨hletter, hothers⟩ := onLetter_spec hx fun x => { x with progress := none }
  have honly := offerFailed_only s
  have heq : s.offerFailed = (s.offerGone a).resumeSuspended := offerFailed_of ha
  have hgoneLetter : (s.offerGone a).letters[a.letter] = some { x with progress := none } := hletter
  have hgone : s.offerFailed.letters[a.letter] = some { x with progress := none } ∧ s.offerFailed.deliv.retry = some 1000 ∧
      s.offerFailed.deliv.suspended = none := by
    rw [heq]
    cases hsuspended : s.deliv.suspended with
    | none =>
      rw [resumeSuspended_of_none (s := s.offerGone a) hsuspended]
      exact ⟨hgoneLetter, rfl, hsuspended⟩
    | some e =>
      obtain ⟨j, m⟩ := e
      obtain ⟨hdeliv, hsame⟩ := resumeSuspended_shape (s := s.offerGone a) hsuspended
      rw [hdeliv]
      exact ⟨(hsame a.letter (hother j m hsuspended).symm).trans hgoneLetter, rfl, rfl⟩
  obtain ⟨hdone, hretry, hresumed⟩ := hgone
  refine ⟨hdone, hretry, hresumed, fun hnone => ?_, fun j m hsome => ⟨?_, fun y hy => ?_⟩, honly.seg, honly.sameLines⟩
  · rw [heq, resumeSuspended_of_none (s := s.offerGone a) hnone]
    rfl
  · obtain ⟨hdeliv, -⟩ := resumeSuspended_shape (s := s.offerGone a) hsome
    rw [heq, hdeliv]
  · have hresumed := resumeSuspended_resumed (s := s.offerGone a) hsome ((hothers j (hother j m hsome)).trans hy)
    rw [heq]
    exact hresumed.letter

/-! ### A delivery frame abandoned (R187) -/

/-- What the abort of a delivery leaves to the engine: whatever it does, the letter stays CLOSED where the delivery that
it resumes is another one, and the retry timer runs on. -/
structure DeliveryCut (a : Machine.Active) (x : Letter) (s t : State) : Prop where
  aborted : DeliveryAborted a.letter x t
  others : ∀ i : LetterIx, i ≠ a.letter → (∀ j m, s.deliv.suspended = some (j, m) → i ≠ j) → t.letters[i] = s.letters[i]
  retry : t.deliv.retry = s.deliv.retry
  suspended : t.deliv.suspended = none
  active : s.deliv.suspended = none → t.deliv.active = none
  resumed : ∀ j m, s.deliv.suspended = some (j, m) →
    t.deliv.active = some ⟨j, m, .streaming, none, false, true, none⟩ ∧
      ∀ y, s.letters[j] = some y → t.letters[j] = some { y with state := .delivering }
  offDelivery : s.deliv.suspended = none → t.bus.link.offDelivery = none
  seg : t.seg = s.seg
  lines : SameLines s t

/-- The engine starts nothing: the retry timer runs, the link is DETACHED, or no filing station is present (R174, R175). -/
def StartsNothing (s : State) : Prop := s.deliv.retry ≠ none ∨ s.isDetached = true ∨ s.chooseFiling = none

theorem look_held (h : s.StartsNothing) : s.look = s := by
  rcases h with h | h | h
  · exact look_of_not_startable (startable_eq_none (.inr (.inr (.inl h))))
  · exact look_of_not_startable (startable_eq_none (.inr (.inl h)))
  · exact look_of_not_startable (startable_eq_none (.inr (.inr (.inr (.inr h)))))

theorem StartsNothing.of_queued (h : s.StartsNothing) (hretry : t.deliv.retry = s.deliv.retry) (hbus : OnlyQueued s t)
    (hpeers : t.peers = s.peers) : t.StartsNothing := by
  have hfault : t.bus.link.state = s.bus.link.state := by
    rw [hbus.link]
    rfl
  have hsettings : t.bus.ctl.settings = s.bus.ctl.settings := by rw [hbus.ctl]
  rw [StartsNothing, hretry, isDetached, hfault, chooseFiling, hpeers, hsettings]
  exact h

theorem abortEnd_cut (h : s.activeOf = some (a, x, p)) (hheld : s.StartsNothing)
    (hother : ∀ j m, s.deliv.suspended = some (j, m) → j ≠ a.letter) : DeliveryCut a x s s.abortActive.afterEnd := by
  obtain ⟨hover, haborted, hseg⟩ := abortActive_over h
  obtain ⟨hsuspended, hretry⟩ := abortActive_deliv s
  obtain ⟨hrest, hdeliv⟩ := notedIfEnded_deliv s a x p
  have hqueued := abortActive_queued s
  have hletters : (s.notedIfEnded a x p).letters = s.letters := by rw [hrest]
  have hlines : SameLines s s.abortActive := by
    rw [abortActive_rest]
    exact ⟨rfl, rfl, rfl, rfl⟩
  have hothers : OtherLetters a.letter s s.abortActive := fun i hi => (hover.others i hi).trans (by rw [hletters])
  have hpeers : s.abortActive.peers = s.peers := by rw [abortActive_rest]
  have hactive := hover.active
  have hoff := hover.offDelivery
  generalize s.abortActive = v at *
  cases hsome : s.deliv.suspended with
  | none =>
    rw [afterEnd_of_none (hsuspended.trans hsome), look_held (hheld.of_queued hretry hqueued hpeers)]
    exact ⟨haborted, fun i hi _ => hothers i hi, hretry, hsuspended.trans hsome, fun _ => hactive,
      fun j m hjm => absurd (hsome.symm.trans hjm) (by simp), fun _ => hoff, hseg, hlines⟩
  | some e =>
    obtain ⟨j, m⟩ := e
    have hj := hother j m hsome
    obtain ⟨hshape, hsame⟩ := resumeSuspended_shape (hsuspended.trans hsome)
    have honly := resumeSuspended_only v
    have hretry' : v.resumeSuspended.deliv.retry = s.deliv.retry := by
      rw [hshape]
      exact hretry
    rw [afterEnd_of_some hactive (hsuspended.trans hsome),
      look_held (hheld.of_queued hretry' (hqueued.trans (resumeSuspended_queued v)) (honly.peers.trans hpeers))]
    refine ⟨(hsame a.letter hj.symm).trans haborted, fun i hi hne => (hsame i (hne j m hsome)).trans (hothers i hi), hretry',
      by rw [hshape], fun hnone => absurd (hsome.symm.trans hnone) (by simp), fun j' m' hjm => ?_,
      fun hnone => absurd (hsome.symm.trans hnone) (by simp), honly.seg.trans hseg, hlines.trans honly.sameLines⟩
    rw [hsome] at hjm
    cases hjm
    refine ⟨by rw [hshape], fun y hy => ?_⟩
    exact (resumeSuspended_resumed (hsuspended.trans hsome) ((hothers j hj).trans hy)).letter

/-- The letter of an aborted delivery is offered again at once where nothing else waits (R174, R187). -/
theorem abortEnd_offers (h : s.activeOf = some (a, x, p)) (hsuspended : s.deliv.suspended = none) (hact : s.Active)
    (hattached : s.isDetached = false) (hretry : s.deliv.retry = none) (hhead : s.queueHead = none) (hnumber : x.number ≠ 0)
    (hfiling : s.chooseFiling = some st) (hroom : s.bus.link.control.length ≤ 10) :
    JustOffered a.letter st s.streamId s.abortActive.afterEnd := by
  obtain ⟨hover, haborted, -⟩ := abortActive_over h
  obtain ⟨hrest, hdeliv⟩ := notedIfEnded_deliv s a x p
  have hretry' : (s.notedIfEnded a x p).deliv.retry = none := by
    rw [hdeliv]
    exact hretry
  have hsuspended' : (s.notedIfEnded a x p).deliv.suspended = none := by
    rw [hdeliv]
    exact hsuspended
  have hletters : (s.notedIfEnded a x p).letters = s.letters := by rw [hrest]
  have hbus : (s.notedIfEnded a x p).bus = s.bus := by rw [hrest]
  have hchosen : (s.notedIfEnded a x p).chooseFiling = s.chooseFiling := by
    rw [hrest]
    rfl
  have hname : (s.notedIfEnded a x p).streamId = s.streamId := by rw [hrest]
  have hhead' : s.abortActive.queueHead = some a.letter := by
    refine queueHead_of_only haborted (by simp [Letter.queued, hnumber]) fun k z hk hz => ?_
    refine queueHead_eq_none.mp hhead k z ?_
    rw [← hletters]
    exact (hover.others k hk).symm.trans hz
  have hoffer := hover.offers (by rw [State.Active, hbus]; exact hact) (by rw [isDetached, hbus]; exact hattached) hretry'
    hsuspended' (hchosen.trans hfiling) (by rw [hbus]; exact hroom) hhead' haborted
  have hjust := hoffer.justOffered
  rw [hover.streamId, hname] at hjust
  exact hjust

end Sys2Proof.Machine.State
end

section
/-! A frame abandoned below the fault limit: every owner's part of it (R128, R129). -/

namespace Sys2Proof.Machine.State

variable {s t u v : State} {q : QFrame} {c : Current} {kinds : List ErrKind} {n m : Nat} {o : Outgoing} {inc : Incoming}
  {a : Machine.Active} {x y : Letter} {p : Progress} {i j : LetterIx} {st : Station} {tag : BitVec 8} {col : Collection}

/-! ### The owners, told by a station that differs from the first in its bus side alone -/

theorem OnlyBus.parts (h : OnlyBus s v) : ∃ b r, v = { s with bus := b, reports := r } := ⟨_, _, h⟩

theorem tell_silent (hv : OnlyBus s v) (h : ownerActs q.msg = false) :
    SameWork s (v.tellAbandoned q) ∧ (v.tellAbandoned q).nums = s.nums := by
  rw [tellAbandoned_none h]
  exact ⟨hv.sameWork, hv.nums⟩

theorem tell_claim (hv : OnlyBus s v) (h : q.msg = .numberClaim n) :
    (v.tellAbandoned q).nums = { s.nums with link := none, frame := .none, run := 0, wait := some 100 } ∧
      SameWork s (v.tellAbandoned q) := by
  obtain ⟨b, r, rfl⟩ := hv.parts
  have htell : tellAbandoned { s with bus := b, reports := r } q = claimAbandoned { s with bus := b, reports := r } := by
    rw [tellAbandoned, h]
  rw [htell]
  exact ⟨rfl, ⟨rfl, rfl, rfl, rfl⟩, rfl, rfl, rfl, rfl⟩

theorem tell_locate (hv : OnlyBus s v) {author k : Nat} (h : q.msg = .locate author k tag)
    (hcol : (s.xfer.collections.find? fun y => y.tag == tag && !y.collecting) = some col)
    (hlocate : s.lines[col.line].locate = some tag) : LocateRefused col.line (v.dropCollection col) (v.tellAbandoned q) := by
  obtain ⟨b, r, rfl⟩ := hv.parts
  have htell : tellAbandoned { s with bus := b, reports := r } q = endQueued { s with bus := b, reports := r } tag := by
    rw [tellAbandoned, h]
  rw [htell]
  exact endQueued_refuses hcol hlocate

theorem tellAbandoned_fetch {author : Nat} (h : q.msg = .fetch n author) (hinc : v.xfer.incoming = some inc)
    (hname : inc.name = q.owner) : v.tellAbandoned q = v.incomingFail (some .timeout) .timeout := by
  simp only [tellAbandoned, h, hinc, Option.any_some, hname, beq_self_eq_true, if_true]

theorem tell_fetch (hv : OnlyBus s v) {author : Nat} (h : q.msg = .fetch n author) (hinc : s.xfer.incoming = some inc)
    (hname : inc.name = q.owner) (hx : s.letters[inc.letter] = some x) : TransferFailed inc x s (v.tellAbandoned q) ∧
      (v.HasRoom → (v.tellAbandoned q).InQueue inc.giver (.fetchCancel inc.number .timeout)) := by
  obtain ⟨b, r, rfl⟩ := hv.parts
  rw [tellAbandoned_fetch (v := { s with bus := b, reports := r }) h hinc hname]
  exact ⟨incomingFail_failed (s := { s with bus := b, reports := r }) hinc hx _ _, fun hroom =>
    incomingFail_cancels (s := { s with bus := b, reports := r }) hinc (Bus.accepts_of_room hroom) _ _⟩

theorem tell_transfer (hv : OnlyBus s v) (h : q.msg.kind = 0x08 ∨ q.msg.kind = 0x13 ∨ q.msg.kind = 0x14)
    (ho : s.xfer.outgoing = some o) (hname : o.name = q.owner) :
    (v.tellAbandoned q).letters = s.letters ∧ SameLines s (v.tellAbandoned q) ∧ (v.tellAbandoned q).seg = s.seg ∧
    (v.tellAbandoned q).bus.link.offTransfer = none ∧
    (v.isDetached = false → (v.tellAbandoned q).xfer = { s.xfer with outgoing := some { o with
        phase := .halted, timer := some 2000
        outstanding := if s.isPresent o.taker = true then true else o.outstanding } } ∧
      (s.isPresent o.taker = true → v.HasRoom → (v.tellAbandoned q).InQueue o.taker (.transferCheck o.number))) ∧
    (v.isDetached = true → (v.tellAbandoned q).xfer = { s.xfer with outgoing := some { o with
        phase := .halted, timer := some 2000 } } ∧ (v.tellAbandoned q).bus.link.control = v.bus.link.control) := by
  obtain ⟨b, r, rfl⟩ := hv.parts
  rw [tellAbandoned_transfer h, transferAbandoned_of (s := { s with bus := b, reports := r }) ho hname]
  exact haltCheck_parts (s := { s with bus := b, reports := r }) ho

theorem tell_delivery (hv : OnlyBus s v) (h : q.msg.kind = 0x15 ∨ q.msg.kind = 0x16) (hactive : s.activeOf = some (a, x, p))
    (hname : a.name = q.owner) (hheld : s.deliv.retry ≠ none ∨ v.isDetached = true)
    (hother : ∀ j m, s.deliv.suspended = some (j, m) → j ≠ a.letter) : DeliveryCut a x s (v.tellAbandoned q) := by
  obtain ⟨ha, -⟩ := activeOf_eq_some.mp hactive
  obtain ⟨b, r, rfl⟩ := hv.parts
  rw [tellAbandoned_delivery (s := { s with bus := b, reports := r }) h ha hname]
  obtain ⟨haborted, hothers, hretry, hsuspended, hnone, hresumed, hoff, hseg, hlines⟩ :=
    abortEnd_cut (s := { s with bus := b, reports := r }) hactive (hheld.imp_right .inl) hother
  exact ⟨haborted, hothers, hretry, hsuspended, hnone, hresumed, hoff, hseg, hlines⟩

/-! ### The 16th failure, below the limit (R128) -/

/-- The steps every abandoned frame takes, whatever its owner does. -/
structure FrameGone (s : State) (c : Current) (v t : State) : Prop where
  only : OnlyBus s v
  told : t = v.tellAbandoned c.frame
  room : s.bus.link.control.length ≤ 8 → v.bus.link.control.length ≤ 10
  events : ∀ r ∈ v.bus.link.control, r ∈ s.bus.link.control ∨ r.msg.isEvent = true
  current : t.bus.link.current = none
  fault : t.bus.link.fault = v.bus.link.fault
  view : t.bus.link.view = .errorWait
  sending : t.bus.link.sending = false
  counted : s.bus.link.control.length ≤ 8 ∨ ownerPlaces c.frame.msg = false →
    t.bus.counters.framesAbandoned = s.bus.counters.framesAbandoned + 1
  event : s.bus.link.control.length ≤ 8 → ∀ d, s.bus.ctl.eventDest = some d →
    ∃ seq, t.InQueue d (.event 2 seq s.bus.ctl.seconds [BitVec.ofNat 8 c.frame.msg.cls,
      BitVec.ofNat 8 c.frame.msg.kind, BitVec.ofNat 8 c.frame.dest])

/-- What does not depend on the bus side is the same for the abandoned frame's station. -/
theorem frameGone (s : State) (kinds : List ErrKind) (c : Current) :
    FrameGone s c ((s.taken (.frameAttemptFailed kinds)).abandonedFrame kinds c)
      (((s.taken (.frameAttemptFailed kinds)).abandonedFrame kinds c).tellAbandoned c.frame) := by
  have hbus := abandonedFrame_bus (s.taken (.frameAttemptFailed kinds)) kinds c
  obtain ⟨qs, hlen, hevents, hcontrol⟩ := abandonedFrame_raises (s.taken (.frameAttemptFailed kinds)) kinds c
  have hevent := fun hroom d => abandonedFrame_told (s := s.taken (.frameAttemptFailed kinds)) hroom kinds c (d := d)
  have honly : OnlyBus s ((s.taken (.frameAttemptFailed kinds)).abandonedFrame kinds c) := rfl
  have htold := tellAbandoned_told ((s.taken (.frameAttemptFailed kinds)).abandonedFrame kinds c) c.frame
  generalize (s.taken (.frameAttemptFailed kinds)).abandonedFrame kinds c = v at *
  have hcontrol' : v.bus.link.control = s.bus.link.control ++ qs := hcontrol
  have hroom : s.bus.link.control.length ≤ 8 → v.bus.link.control.length ≤ 10 := by
    intro h
    rw [hcontrol', List.length_append]
    omega
  have hlink := htold.bus.link
  refine ⟨honly, rfl, hroom, fun r hr => ?_, ?_, ?_, ?_, ?_, fun hwhen => ?_, fun hshort d hdest => ?_⟩
  · rw [hcontrol'] at hr
    exact (List.mem_append.mp hr).imp_right (hevents r)
  · rw [hlink, hbus]
  · rw [hlink]
  · rw [hlink, hbus]
  · rw [hlink, hbus]
  · rw [htold.abandoned (hwhen.imp_left hroom), hbus]
    rfl
  · obtain ⟨seq, hin⟩ := hevent hshort d hdest
    exact ⟨seq, htold.frames (hroom hshort) _ hin⟩

theorem exec_frameAbandoned (hnum : s.Numbered) (hsending : s.bus.link.sending = true) (hc : s.bus.link.current = some c)
    (kinds : List ErrKind) (hfails : c.fails + 1 = 16) : exec (.frameAttemptFailed kinds) s = .next (detachIfNew s.isDetached
      (((s.taken (.frameAttemptFailed kinds)).abandonedFrame kinds c).tellAbandoned c.frame)) := by
  rw [exec_frameAttemptFailed (sendingNow_of hnum hsending hc) kinds, countAttempt_last hfails]

end Sys2Proof.Machine.State
end

section
/-! A frame abandoned as the link enters DETACHED (R123, R128). -/

namespace Sys2Proof.Machine.State

variable {s t u v : State} {q : QFrame} {c : Current} {kinds : List ErrKind} {n m : Nat} {o : Outgoing} {inc : Incoming}
  {a : Machine.Active} {x y : Letter} {p : Progress} {i j : LetterIx} {st : Station} {tag : BitVec 8} {col : Collection}

/-! ### The link's part of the entry, after the owner's -/

/-- What the entry into DETACHED leaves of a station whose owner has been told. -/
structure DetachedAfter (t u : State) : Prop where
  bus : u.bus = t.bus.onLink detachLink
  suspended : u.deliv.suspended = none
  retry : u.deliv.retry = t.deliv.retry
  lines : SameLines t u
  seg : u.seg = t.seg
  nums : u.nums = t.nums
  peers : u.peers = t.peers
  xfer : u.xfer = haltedXfer t.xfer
  quiet : t.deliv.active = none → t.deliv.suspended = none → u.letters = t.letters ∧ u.deliv = t.deliv
  active : t.deliv.active = none → u.deliv.active = none
  other : ∀ i : LetterIx, (∀ a, t.deliv.active = some a → a.letter ≠ i) → (∀ j m, t.deliv.suspended = some (j, m) → j ≠ i) →
    u.letters[i] = t.letters[i]
  aborted : t.deliv.suspended = none → ∀ a x p, t.activeOf = some (a, x, p) →
    DeliveryAborted a.letter x u ∧ u.deliv.active = none

theorem enterDetached_other (hactive : ∀ a, s.deliv.active = some a → a.letter ≠ i)
    (hsuspended : ∀ j m, s.deliv.suspended = some (j, m) → j ≠ i) : s.enterDetached.letters[i] = s.letters[i] := by
  have hrest := abortSuspended_rest s.detachedLink
  rw [enterDetached_eq]
  refine (abortActive_other fun a ha => ?_).trans (abortSuspended_other (s := s.detachedLink) hsuspended)
  rw [hrest] at ha
  exact hactive a ha

theorem enterDetached_idle (hactive : s.deliv.active = none) : s.enterDetached.deliv.active = none ∧
    (s.deliv.suspended = none → s.enterDetached.letters = s.letters ∧ s.enterDetached.deliv = s.deliv) := by
  have hrest := abortSuspended_rest s.detachedLink
  have hnone : s.detachedLink.abortSuspended.activeOf = none := by
    have hactive' : s.detachedLink.abortSuspended.deliv.active = none := by
      rw [hrest]
      exact hactive
    rw [activeOf, hactive']
    rfl
  rw [enterDetached_eq, abortActive_of_none hnone]
  refine ⟨?_, fun hsuspended => ?_⟩
  · rw [hrest]
    exact hactive
  · rw [abortSuspended_of_none (s := s.detachedLink) hsuspended]
    exact ⟨rfl, rfl⟩

theorem enterDetached_after (t : State) : DetachedAfter t t.enterDetached := by
  have hrest := enterDetached_rest t
  obtain ⟨hsuspended, hretry⟩ := enterDetached_deliv t
  have hsame : SameLines t t.enterDetached ∧ t.enterDetached.seg = t.seg ∧ t.enterDetached.nums = t.nums ∧
      t.enterDetached.peers = t.peers ∧ t.enterDetached.xfer = haltedXfer t.xfer := by
    rw [hrest]
    exact ⟨⟨rfl, rfl, rfl, rfl⟩, rfl, rfl, rfl, rfl⟩
  obtain ⟨hlines, hseg, hnums, hpeers, hxfer⟩ := hsame
  refine ⟨enterDetached_bus t, hsuspended, hretry, hlines, hseg, hnums, hpeers, hxfer, fun hactive hnone =>
    (enterDetached_idle hactive).2 hnone, fun hactive => (enterDetached_idle hactive).1, fun i hactive hother =>
      enterDetached_other hactive hother, fun hnone a x p h => ?_⟩
  obtain ⟨haborted, hactive, -⟩ := enterDetached_active h fun i n hi => absurd (hnone.symm.trans hi) (by simp)
  exact ⟨haborted, hactive⟩

/-! ### The owners' parts under the entry -/

/-- A line refused by an abandoned Locate, past the entry. -/
theorem DetachedAfter.locate (h : DetachedAfter t u) (hv : OnlyBus s v) {l : LineNo}
    (hrefused : LocateRefused l (v.dropCollection col) t) :
    u.lines[l] = { s.lines[l] with state := .select, locate := none } ∧ u.Sounds l .refused ∧ OtherLines l s u ∧
      u.seg = s.seg := by
  obtain ⟨b, r, rfl⟩ := hv.parts
  obtain ⟨hlines, hcoders, htones, hports⟩ := h.lines
  refine ⟨by rw [hlines]; exact hrefused.line, by rw [Sounds, htones]; exact hrefused.sounds, ?_, h.seg.trans hrefused.seg⟩
  intro m hm
  have hother := hrefused.others m hm
  rw [hlines, hcoders, htones, hports]
  exact hother

/-- An incoming transfer failed by an abandoned Fetch, past an entry that finds nothing else under way. -/
theorem DetachedAfter.fetch (h : DetachedAfter t u) (hfailed : TransferFailed inc x s t) (hout : s.xfer.outgoing = none)
    (hactive : s.deliv.active = none) (hsuspended : s.deliv.suspended = none) : TransferFailed inc x s u := by
  obtain ⟨⟨hfree, hbytes, hpool, hwaiting, hwindow⟩, hothers, hxfer, hreservation, hdeliv, hpeers, hline, hnoline⟩ := hfailed
  obtain ⟨hlines, hcoders, htones, hports⟩ := h.lines
  obtain ⟨hletters, hdeliv'⟩ := h.quiet (by rw [hdeliv]; exact hactive) (by rw [hdeliv]; exact hsuspended)
  have hxfer' : u.xfer = t.xfer := by
    rw [h.xfer, hxfer]
    simp only [haltedXfer, hout, Option.map_none]
  refine ⟨⟨by rw [hletters]; exact hfree, fun b => by rw [h.seg]; exact hbytes b, by rw [h.seg]; exact hpool,
    by rw [h.nums]; exact hwaiting, by rw [h.nums]; exact hwindow⟩, fun i hi => by rw [hletters]; exact hothers i hi,
    hxfer'.trans hxfer, by rw [h.seg]; exact hreservation, hdeliv'.trans hdeliv, h.peers.trans hpeers, fun l hl => ?_,
    fun hl => ?_⟩
  · obtain ⟨hat, hsounds, helse⟩ := hline l hl
    refine ⟨by rw [hlines]; exact hat, by rw [Sounds, htones]; exact hsounds, fun m hm => ?_⟩
    have hother := helse m hm
    rw [hlines, hcoders, htones, hports]
    exact hother
  · exact (hnoline hl).trans h.lines

theorem DetachedAfter.inQueue (h : DetachedAfter t u) {d : Station} {msg : Msg} (hin : t.InQueue d msg) : u.InQueue d msg := by
  rw [InQueue, h.bus]
  exact hin

/-- A transfer halted before the entry stays as it was halted. -/
theorem DetachedAfter.transfer (h : DetachedAfter t u)
    (hxfer : t.xfer = { s.xfer with outgoing := some { o with phase := .halted, timer := some 2000 } }) :
    u.xfer = { s.xfer with outgoing := some { o with phase := .halted, timer := some 2000 } } := by
  rw [h.xfer, hxfer, haltedXfer]
  simp

/-- A failed Offer, past the entry: a delivery that it resumed is aborted in its turn. -/
theorem DetachedAfter.offer (h : DetachedAfter v.offerFailed u) (hv : OnlyBus s v) (ha : s.deliv.active = some a)
    (hx : s.letters[a.letter] = some x) (hother : ∀ j m, s.deliv.suspended = some (j, m) → j ≠ a.letter) :
    u.letters[a.letter] = some { x with progress := none } ∧ u.deliv.retry = some 1000 ∧
      (s.deliv.suspended = none → u.deliv.active = none) ∧
      (∀ j m y, s.deliv.suspended = some (j, m) → s.letters[j] = some y → y.progress ≠ none →
        u.deliv.active = none ∧ DeliveryAborted j y u) ∧ u.seg = s.seg ∧ SameLines s u := by
  obtain ⟨b, r, rfl⟩ := hv.parts
  obtain ⟨hletter, hretry, hnone, hidle, hresumed, hseg, hlines⟩ :=
    offerFailed_letter (s := { s with bus := b, reports := r }) ha hx hother
  refine ⟨(h.other a.letter (fun e he => ?_) fun j m hjm => absurd (hnone.symm.trans hjm) (by simp)).trans hletter,
    h.retry.trans hretry, fun hs => h.active (hidle hs), fun j m y hjm hy hprogress => ?_, h.seg.trans hseg, hlines.trans h.lines⟩
  · cases hsuspended : s.deliv.suspended with
    | none => exact absurd ((hidle hsuspended).symm.trans he) (by simp)
    | some e' =>
      obtain ⟨j, m⟩ := e'
      obtain ⟨hactive, -⟩ := hresumed j m hsuspended
      rw [hactive] at he
      cases he
      exact hother j m hsuspended
  · obtain ⟨hactive, hletters⟩ := hresumed j m hjm
    obtain ⟨q, hq⟩ := Option.ne_none_iff_exists'.mp hprogress
    obtain ⟨haborted, hgone⟩ := h.aborted hnone _ _ q (activeOf_eq_some.mpr ⟨hactive, hletters y hy, hq⟩)
    exact ⟨hgone, haborted⟩

/-- An aborted delivery, past the entry: a delivery that it resumed is aborted in its turn. -/
theorem DetachedAfter.delivery (h : DetachedAfter t u) (hcut : DeliveryCut a x s t)
    (hother : ∀ j m, s.deliv.suspended = some (j, m) → j ≠ a.letter) :
    DeliveryAborted a.letter x u ∧ u.deliv.retry = s.deliv.retry ∧
      (∀ j m y, s.deliv.suspended = some (j, m) → s.letters[j] = some y → y.progress ≠ none →
        u.deliv.active = none ∧ DeliveryAborted j y u) ∧
      (s.deliv.suspended = none → u.deliv.active = none) ∧ u.seg = s.seg ∧ SameLines s u := by
  refine ⟨(h.other a.letter (fun e he => ?_) fun j m hjm => absurd (hcut.suspended.symm.trans hjm) (by simp)).trans hcut.aborted,
    h.retry.trans hcut.retry, fun j m y hjm hy hprogress => ?_, fun hs => h.active (hcut.active hs), h.seg.trans hcut.seg,
    hcut.lines.trans h.lines⟩
  · cases hsuspended : s.deliv.suspended with
    | none => exact absurd ((hcut.active hsuspended).symm.trans he) (by simp)
    | some e' =>
      obtain ⟨j, m⟩ := e'
      obtain ⟨hactive, -⟩ := hcut.resumed j m hsuspended
      rw [hactive] at he
      cases he
      exact hother j m hsuspended
  · obtain ⟨hactive, hletters⟩ := hcut.resumed j m hjm
    obtain ⟨q, hq⟩ := Option.ne_none_iff_exists'.mp hprogress
    obtain ⟨haborted, hgone⟩ := h.aborted hcut.suspended _ _ q (activeOf_eq_some.mpr ⟨hactive, hletters y hy, hq⟩)
    exact ⟨hgone, haborted⟩

end Sys2Proof.Machine.State
end

section
/-! The arbiter, the starts and the ends of frames, settled (R115, R116, R119, R121 to R123, R126 to R128, R131). -/

namespace Sys2Proof.Machine.State

variable {s t u v : State} {q : QFrame} {c : Current} {kinds : List ErrKind} {n m : Nat} {o : Outgoing} {inc : Incoming}
  {a : Machine.Active} {x y : Letter} {p : Progress} {i j : LetterIx} {st : Station} {tag : BitVec 8} {col : Collection}

/-- A line refused by an abandoned Locate, told of the first station. -/
theorem locate_refused (hv : OnlyBus s v) {l : LineNo} (hrefused : LocateRefused l (v.dropCollection col) t) :
    t.lines[l] = { s.lines[l] with state := .select, locate := none } ∧ t.Sounds l .refused ∧
      t.xfer = { s.xfer with collections := s.xfer.collections.filter (· ≠ col) } ∧
      OtherLines l s t ∧ t.letters = s.letters ∧ t.seg = s.seg := by
  obtain ⟨b, r, rfl⟩ := hv.parts
  exact ⟨hrefused.line, hrefused.sounds, hrefused.xfer, hrefused.others, hrefused.letters, hrefused.seg⟩

/-- A failed Offer, told of the first station (R177). -/
theorem offer_alone (hv : OnlyBus s v) (ha : s.deliv.active = some a) (hx : s.letters[a.letter] = some x)
    (hsuspended : s.deliv.suspended = none) :
    v.offerFailed.letters[a.letter] = some { x with progress := none } ∧ OtherLetters a.letter s v.offerFailed ∧
      v.offerFailed.deliv = { s.deliv with active := none, retry := some 1000 } ∧ v.offerFailed.seg = s.seg ∧
      SameLines s v.offerFailed := by
  obtain ⟨b, r, rfl⟩ := hv.parts
  obtain ⟨hletter, hothers⟩ := onLetter_spec hx fun x => { x with progress := none }
  rw [offerFailed_of_none (s := { s with bus := b, reports := r }) ha hsuspended]
  exact ⟨hletter, hothers, rfl, rfl, rfl, rfl, rfl, rfl⟩

theorem offer_resumes (hv : OnlyBus s v) (ha : s.deliv.active = some a) (hx : s.letters[a.letter] = some x)
    (hsuspended : s.deliv.suspended = some (j, m)) (hj : j ≠ a.letter) (hy : s.letters[j] = some y) :
    v.offerFailed.letters[a.letter] = some { x with progress := none } ∧
      v.offerFailed.letters[j] = some { y with state := .delivering } ∧
      v.offerFailed.deliv = { s.deliv with
        active := some ⟨j, m, .streaming, none, false, true, none⟩, suspended := none, retry := some 1000 } ∧
      v.offerFailed.seg = s.seg ∧ SameLines s v.offerFailed := by
  obtain ⟨b, r, rfl⟩ := hv.parts
  obtain ⟨hletter, hothers⟩ := onLetter_spec hx fun x => { x with progress := none }
  have hresumed := resumeSuspended_resumed (s := offerGone { s with bus := b, reports := r } a) hsuspended
    ((hothers j hj).trans hy)
  have heq : offerFailed { s with bus := b, reports := r } = (offerGone { s with bus := b, reports := r } a).resumeSuspended :=
    offerFailed_of ha
  rw [heq]
  exact ⟨(hresumed.others _ hj.symm).trans hletter, hresumed.letter, hresumed.deliv, hresumed.only.seg, hresumed.only.sameLines⟩

/-- The aborted letter offered again at once, told of the first station (R174, R187). -/
theorem delivery_offers (hv : OnlyBus s v) (h : s.activeOf = some (a, x, p)) (hsuspended : s.deliv.suspended = none)
    (hact : v.Active) (hattached : v.isDetached = false) (hretry : s.deliv.retry = none) (hhead : s.queueHead = none)
    (hnumber : x.number ≠ 0) (hfiling : v.chooseFiling = some st) (hroom : v.bus.link.control.length ≤ 10) :
    JustOffered a.letter st s.streamId v.abortActive.afterEnd := by
  obtain ⟨b, r, rfl⟩ := hv.parts
  exact abortEnd_offers (s := { s with bus := b, reports := r }) h hsuspended hact hattached hretry hhead hnumber hfiling hroom

/-- What the bus side of an abandoned frame's station still says of the first one. -/
theorem abandonedFrame_ctl (s : State) (kinds : List ErrKind) (c : Current) :
    ((s.abandonedFrame kinds c).Active ↔ s.Active) ∧ (s.abandonedFrame kinds c).chooseFiling = s.chooseFiling ∧
      (s.abandonedFrame kinds c).bus.link.fault = faultUp 8 s.bus.link.fault := by
  have hbus := abandonedFrame_bus s kinds c
  have hpeers : (s.abandonedFrame kinds c).peers = s.peers := rfl
  generalize s.abandonedFrame kinds c = v at *
  have hsettings : v.bus.ctl.settings = s.bus.ctl.settings := by rw [hbus]
  refine ⟨by rw [State.Active, hbus], ?_, by rw [hbus]⟩
  simp only [chooseFiling, hsettings, hpeers]

theorem ClaimsAnew.parts (h : ClaimsAnew s t) : SameWork s t ∧
    t.nums = { s.nums with run := 0, link := some (s.nums.next, true), frame := .current } ∧
    t.bus.link.current = some ⟨⟨63, .numberClaim s.nums.next, 0⟩, .control, 0⟩ ∧
    t.bus.link.control = [] ∧ t.bus.link.view = .inFrame ∧ t.bus.link.sending = true :=
  ⟨h.work, h.nums, h.current, h.control, h.view, h.sending⟩

end Sys2Proof.Machine.State
end

section
/-! The sent frames, settled (R115, R116, R119, R121 to R123, R126 to R128, R131). -/

namespace Sys2Proof.Machine.State

variable {s t u v : State} {c : Current}

/-- Settles O51: the arbiter's choices, the consultation of a claim's owner, and the ends of a frame. -/
theorem framesSent : Obligations.FramesSent := by
  unfold Obligations.FramesSent
  refine ⟨fun s hstart => ⟨fun hcurrent hact => ⟨?_, ?_, ?_, ?_, ?_⟩, fun hcurrent hlisten => ⟨?_, ?_⟩, ?_, ?_⟩,
    fun s c hnum hsending hc => ⟨?_, frameSent hnum hsending hc, attemptFailed_counts hnum hsending hc,
      attemptFailed_detaches hnum hsending hc, ?low, ?detached⟩⟩
  · intro q rest hcontrol hclaim
    exact choose_starts hstart hcurrent (arbiterTakes_control hact hcontrol) hclaim
  · intro b hcontrol hbeacon
    obtain ⟨t, hexec, hwork, hnums, hbus⟩ := choose_starts hstart hcurrent (arbiterTakes_beacon hact hcontrol hbeacon) rfl
    refine ⟨t, hexec, hwork, hnums, ?_, ?_, ?_, ?_⟩
    all_goals rw [hbus]; rfl
  · intro q hcontrol hbeacon htransfer hclaim
    obtain ⟨t, hexec, hwork, -, hbus⟩ :=
      choose_starts hstart hcurrent (arbiterTakes_transfer hact hcontrol hbeacon htransfer) hclaim
    refine ⟨t, hexec, hwork, ?_, ?_, ?_, ?_⟩
    all_goals rw [hbus]; rfl
  · intro q hcontrol hbeacon htransfer hdelivery
    refine ⟨fun hready hclaim => ?_, fun hpaced => ?_⟩
    · obtain ⟨t, hexec, hwork, -, hbus⟩ :=
        choose_starts hstart hcurrent (arbiterTakes_delivery hact hcontrol hbeacon htransfer hdelivery hready) hclaim
      refine ⟨t, hexec, hwork, ?_, ?_, ?_, ?_⟩
      all_goals rw [hbus]; rfl
    · exact choose_idles hstart hcurrent (arbiterTakes_paced hact hcontrol hbeacon htransfer hdelivery hpaced)
  · intro q n rest hcontrol hq
    refine ⟨fun hwaiting hlink => chooseClaim_starts hstart hcurrent hact hcontrol hq hwaiting hlink, ?_, ?_⟩
    · rintro hwaiting rfl hbeacon htransfer hdelivery
      exact chooseClaim_goes hstart hcurrent hact hcontrol hq hwaiting hbeacon htransfer hdelivery
    · rintro hwaiting hlink hrun hwait hnext rfl
      obtain ⟨t, hexec, hanew⟩ := chooseClaim_anew hstart hcurrent hact hcontrol hq hwaiting hlink hrun hwait hnext
      exact ⟨t, hexec, hanew.parts⟩
  · intro front q rest why hcontrol hq hfront
    have hrefusal : q.msg.kind = 0x18 := by
      rw [hq]
      rfl
    have hclaim : isClaim q = false := by simp [isClaim, hq]
    exact choose_starts hstart hcurrent (arbiterTakes_refusal hlisten hcontrol hrefusal hfront) hclaim
  · exact fun hnone => choose_idles hstart hcurrent (arbiterTakes_listening hlisten hnone)
  · intro c n hc hn
    obtain ⟨hvalid, hothers⟩ := reattemptClaim hstart hc hn
    refine ⟨hvalid, fun hcontrol hbeacon htransfer hdelivery => ?_⟩
    obtain ⟨hempty, habandons, hanew⟩ := hothers hcontrol hbeacon htransfer hdelivery
    refine ⟨hempty, habandons, fun hact hwaiting hlink hrun hwait hnext => ?_⟩
    obtain ⟨t, hexec, hparts⟩ := hanew hact hwaiting hlink hrun hwait hnext
    exact ⟨t, hexec, hparts.parts⟩
  · intro c hc hclaim
    have hagain := reattempt_plain (s := s.taken .currentFrameReattempt) hclaim
    exact ⟨_, (exec_reattempt hstart hc).trans (congrArg Host.Outcome.next hagain), ⟨⟨rfl, rfl, rfl, rfl⟩, rfl, rfl, rfl, rfl⟩,
      rfl, rfl⟩
  · exact ⟨_, exec_lostArbitration (sendingNow_of hnum hsending hc), rfl, ⟨⟨rfl, rfl, rfl, rfl⟩, rfl, rfl, rfl, rfl⟩, rfl⟩
  case low =>
    intro kinds hlow hfails
    have hexec := exec_frameAbandoned hnum hsending hc kinds hfails
    have hgone := frameGone s kinds c
    obtain ⟨hact, hfiling, hfault⟩ := abandonedFrame_ctl (s.taken (.frameAttemptFailed kinds)) kinds c
    generalize (s.taken (.frameAttemptFailed kinds)).abandonedFrame kinds c = v at *
    have hfault' : v.bus.link.fault = s.bus.link.fault + 8 := hfault.trans (faultUp_low hlow)
    have hattached : v.isDetached = false := isDetached_of_low (by omega)
    have hv := hgone.only
    have hroom : s.bus.link.control.length ≤ 8 → v.HasRoom := fun h => hasRoom_of_ten (hgone.room h)
    rw [detachIfNew_stays (s := v.tellAbandoned c.frame) (by rw [hgone.fault]; omega)] at hexec
    refine ⟨_, hexec, hgone.current, hgone.counted, hgone.event, hgone.fault.trans hfault', hgone.view, hgone.sending,
      tell_silent hv, fun n hmsg => tell_claim hv hmsg, ?locate, ?fetch, ?transfer, ?offer, ?resumes, ?delivery, ?aborted⟩
    case locate =>
      intro author k tag col hmsg hcol hlocate
      exact locate_refused hv (tell_locate hv hmsg hcol hlocate)
    case fetch =>
      intro n author inc x hmsg hinc hname hx
      obtain ⟨hfailed, hin⟩ := tell_fetch hv hmsg hinc hname hx
      exact ⟨hfailed, fun h => hin (hroom h)⟩
    case transfer =>
      intro o hkind ho hname
      obtain ⟨hletters, hlines, hseg, hoff, hhalts, -⟩ := tell_transfer hv hkind ho hname
      obtain ⟨hxfer, hin⟩ := hhalts hattached
      exact ⟨hxfer, hoff, fun hpresent h => hin hpresent (hroom h), hletters, hlines, hseg⟩
    case offer =>
      intro body a x hmsg ha hname hphase hx hsuspended
      have ha' : v.deliv.active = some a := by rw [hv]; exact ha
      rw [tellAbandoned_offer hmsg ha' hname hphase]
      exact offer_alone hv ha hx hsuspended
    case resumes =>
      intro body a x j m y hmsg ha hname hphase hx hsuspended hj hy
      have ha' : v.deliv.active = some a := by rw [hv]; exact ha
      rw [tellAbandoned_offer hmsg ha' hname hphase]
      exact offer_resumes hv ha hx hsuspended hj hy
    case delivery =>
      intro a x p j m y hkind hactive hname hsuspended hj hy hretry
      have hcut := tell_delivery hv hkind hactive hname (.inl hretry) fun j' m' h => by
        rw [hsuspended] at h
        cases h
        exact hj
      obtain ⟨hresumed, hletters⟩ := hcut.resumed j m hsuspended
      exact ⟨hcut.aborted, hletters y hy, hresumed, hcut.suspended, hcut.retry⟩
    case aborted =>
      intro a x p hkind hactive hname hsuspended
      refine ⟨fun hretry => ?_, fun st hact' hretry hhead hnumber hchosen h => ?_⟩
      · have hcut := tell_delivery hv hkind hactive hname (.inl hretry)
          fun j m h => absurd (hsuspended.symm.trans h) (by simp)
        exact ⟨hcut.aborted, fun i hi => hcut.others i hi fun j m h => absurd (hsuspended.symm.trans h) (by simp),
          hcut.active hsuspended, hcut.offDelivery hsuspended, hcut.retry⟩
      · obtain ⟨ha, -⟩ := activeOf_eq_some.mp hactive
        have ha' : v.deliv.active = some a := by rw [hv]; exact ha
        rw [tellAbandoned_delivery hkind ha' hname]
        exact delivery_offers hv hactive hsuspended (hact.mpr hact') hattached hretry hhead hnumber (hfiling.trans hchosen)
          (hgone.room h)
  case detached =>
    intro kinds hlow hhigh hfails
    have hexec := exec_frameAbandoned hnum hsending hc kinds hfails
    have hgone := frameGone s kinds c
    obtain ⟨-, -, hfault⟩ := abandonedFrame_ctl (s.taken (.frameAttemptFailed kinds)) kinds c
    generalize (s.taken (.frameAttemptFailed kinds)).abandonedFrame kinds c = v at *
    have hfault' : v.bus.link.fault = 256 := hfault.trans (faultUp_limit hhigh)
    have hdetached : v.isDetached = true := (state_detached_iff v).mpr (le_of_eq hfault'.symm)
    have hv := hgone.only
    have hroom : s.bus.link.control.length ≤ 8 → v.HasRoom := fun h => hasRoom_of_ten (hgone.room h)
    have hlimit : (v.tellAbandoned c.frame).bus.link.fault = 256 := hgone.fault.trans hfault'
    have hafter := enterDetached_after (v.tellAbandoned c.frame)
    rw [isDetached_of_low hlow, detachIfNew_enters hlimit] at hexec
    refine ⟨_, hexec, ?_, ?_, ?_, ?_, ?_, ?_, ?_, ?_, ?_, hafter.suspended, fun hwhen => ?_, fun h d hdest => ?_, ?silent,
      ?claim, ?locate, ?fetch, ?transfer, ?offer, ?delivery⟩
    case silent =>
      intro hsilent
      rw [tellAbandoned_none hsilent]
      exact (enterDetached_went hfault').of_same hv.sameWork hv.nums hv.peers
    case claim =>
      intro n hmsg
      obtain ⟨hnums, ⟨hlines, -, hseg, -⟩⟩ := tell_claim hv hmsg
      exact ⟨hafter.nums.trans hnums, hlines.trans hafter.lines, hafter.seg.trans hseg⟩
    case locate =>
      intro author k tag col hmsg hcol hlocate
      exact hafter.locate hv (tell_locate hv hmsg hcol hlocate)
    case fetch =>
      intro n author inc x hmsg hinc hname hx hout hactive hsuspended
      obtain ⟨hfailed, hin⟩ := tell_fetch hv hmsg hinc hname hx
      exact ⟨hafter.fetch hfailed hout hactive hsuspended, fun h => hafter.inQueue (hin (hroom h))⟩
    case transfer =>
      intro o hkind ho hname
      obtain ⟨-, hlines, hseg, -, -, hhalts⟩ := tell_transfer hv hkind ho hname
      obtain ⟨hxfer, hcontrol⟩ := hhalts hdetached
      refine ⟨hafter.transfer hxfer, fun q hq => hgone.events q ?_, hlines.trans hafter.lines, hafter.seg.trans hseg⟩
      rw [hafter.bus] at hq
      rw [← hcontrol]
      exact hq
    case offer =>
      intro body a x hmsg ha hname hphase hx hother
      have ha' : v.deliv.active = some a := by rw [hv]; exact ha
      rw [tellAbandoned_offer hmsg ha' hname hphase] at hafter ⊢
      exact hafter.offer hv ha hx hother
    case delivery =>
      intro a x p hkind hactive hname hother
      exact hafter.delivery (tell_delivery hv hkind hactive hname (.inr hdetached) hother) hother
    case refine_10 =>
      rw [hafter.bus]
      exact hgone.counted hwhen
    case refine_11 =>
      obtain ⟨seq, hin⟩ := hgone.event h d hdest
      exact ⟨seq, hafter.inQueue hin⟩
    all_goals rw [hafter.bus]
    · change (v.tellAbandoned c.frame).bus.link.current.bind detachCurrent = none
      rw [hgone.current]
      rfl
    · exact hlimit
    · change (if (v.tellAbandoned c.frame).bus.link.view = .inFrame then BusView.errorWait
        else (v.tellAbandoned c.frame).bus.link.view) = _
      rw [hgone.view]
      rfl
    all_goals rfl

end Sys2Proof.Machine.State
end

section
/-! Claims of other stations, and objections (R29, R141, R150, R152). -/

namespace Sys2Proof.Machine.State

variable {s t u : State} {i j : LetterIx} {x y : Letter} {st claimer : Station} {n : Nat} {e : WindowEntry}

/-! ### Another station's claim (R141, R150) -/

theorem exec_numberClaim (hnum : s.Numbered) (st : Station) (n : Nat) : exec (.numberClaim st n) s = .next
    (if (s.findNumber n).isSome then ((s.taken (.numberClaim st n)).raiseNext (n + 1)).place 63 (.claimObjection n st)
      else (s.taken (.numberClaim st n)).raiseNext (n + 1)) := by
  have hnum' : (s.taken (.numberClaim st n)).isNumbered = true := isNumbered_of hnum
  change execNumberClaim st n s = _
  simp only [execNumberClaim, hnum', if_true]
  rfl

theorem numberClaim_unknown (hnum : s.Numbered) (st : Station) (n : Nat) (hnone : s.findNumber n = none) :
    ∃ t, exec (.numberClaim st n) s = .next t ∧
      t.nums.next = max s.nums.next (min (n + 1) 16777215) ∧
      t.nums.link = s.nums.link.map (fun k => (k.1, k.2 && t.nums.next ≤ k.1)) ∧
      t.nums.waiting = s.nums.waiting ∧ t.nums.window = s.nums.window ∧ t.bus = s.bus ∧ SameWork s t ∧
      t.peers = s.peers := by
  have hexec := exec_numberClaim hnum st n
  rw [hnone] at hexec
  exact ⟨_, hexec, rfl, rfl, rfl, rfl, rfl, ⟨⟨rfl, rfl, rfl, rfl⟩, rfl, rfl, rfl, rfl⟩, rfl⟩

theorem numberClaim_held (hnum : s.Numbered) (st : Station) (n : Nat) (hi : s.findNumber n = some i) (hroom : s.HasRoom) :
    ∃ t, exec (.numberClaim st n) s = .next t ∧
      t.nums.next = max s.nums.next (min (n + 1) 16777215) ∧ Placed 63 (.claimObjection n st) s t ∧
      SameWork s t ∧ t.peers = s.peers := by
  have hexec := exec_numberClaim hnum st n
  rw [hi] at hexec
  exact ⟨_, hexec, rfl, placed_of_room (s := (s.taken (.numberClaim st n)).raiseNext (n + 1)) hroom 63 (.claimObjection n st),
    ⟨⟨rfl, rfl, rfl, rfl⟩, rfl, rfl, rfl, rfl⟩, rfl⟩

/-! ### A Claim Objection (R29, R141, R152) -/

/-- The station with its Next Number raised by an objection (R141). -/
def objected (s : State) (st : Station) (n : Nat) (claimer : Station) : State :=
  (s.taken (.claimObjection st n claimer)).raiseNext (n + 1)

theorem exec_claimObjection (hnum : s.Numbered) (st : Station) (n : Nat) (claimer : Station) :
    exec (.claimObjection st n claimer) s = .next (if s.bus.ctl.number = some claimer
      then (s.objected st n claimer).objectedTo st n else s.objected st n claimer) := by
  have hnum' : (s.taken (.claimObjection st n claimer)).isNumbered = true := isNumbered_of hnum
  change execClaimObjection st n claimer s = _
  simp only [execClaimObjection, hnum', if_true]
  rfl

theorem find_window_none (h : ∀ e ∈ s.nums.window, e.number ≠ n) : s.nums.window.find? (·.number == n) = none :=
  List.find?_eq_none.mpr fun e he => by simpa using h e he

/-- An objection past its window is ignored (R152). -/
theorem objection_late (hnum : s.Numbered) (hnumber : s.bus.ctl.number = some claimer)
    (hnone : ∀ e ∈ s.nums.window, e.number ≠ n) (st : Station) :
    ∃ t, exec (.claimObjection st n claimer) s = .next t ∧
      t.bus.counters.objectionsIgnored = s.bus.counters.objectionsIgnored + 1 ∧
      t.bus.ctl.eventSeq = s.bus.ctl.eventSeq + 1 ∧ t.nums.window = s.nums.window ∧ SameWork s t := by
  have hexec := exec_claimObjection hnum st n claimer
  have hfind : (s.objected st n claimer).nums.window.find? (·.number == n) = none := find_window_none hnone
  have hlate : (s.objected st n claimer).objectedTo st n =
      (s.objected st n claimer).ignoreObjection.raise (.objection n st .tooLate) := by rw [objectedTo, hfind]
  rw [if_pos hnumber, hlate] at hexec
  refine ⟨_, hexec, ?_, raise_eventSeq _ _, rfl, ⟨⟨rfl, rfl, rfl, rfl⟩, rfl, rfl, rfl, rfl⟩⟩
  have hparts := Bus.raise_parts (s.objected st n claimer).ignoreObjection.bus (.objection n st .tooLate)
  change ((s.objected st n claimer).ignoreObjection.bus.raise (.objection n st .tooLate)).counters.objectionsIgnored = _
  rw [hparts]
  rfl

/-- The letter of an objection can give its number back (R29). -/
theorem givesBack_of (hx : s.letters[i] = some x) : s.givesBack i = true ↔
    x.state = .open ∨ x.state = .held ∨ (x.state = .closed ∧ x.progress = none) := by
  rw [givesBack, hx, Option.any_some]
  cases x.state <;> simp

/-- The number is taken back, and the letter heads those that wait for one (R29, R152). -/
theorem objection_takes (hnum : s.Numbered) (hnumber : s.bus.ctl.number = some claimer)
    (he : s.nums.window.find? (·.number == n) = some e) (hx : s.letters[e.letter] = some x)
    (hstate : x.state = .open ∨ x.state = .held ∨ (x.state = .closed ∧ x.progress = none)) (st : Station) :
    ∃ t, exec (.claimObjection st n claimer) s = .next t ∧
      t.letters[e.letter] = some { x with number := 0 } ∧ OtherLetters e.letter s t ∧
      t.nums.waiting = e.letter :: s.nums.waiting ∧
      t.nums.window = s.nums.window.filter (·.number ≠ n) ∧ SameLines s t ∧ t.seg = s.seg := by
  have hexec := exec_claimObjection hnum st n claimer
  have hfind : (s.objected st n claimer).nums.window.find? (·.number == n) = some e := he
  have hgives : (s.objected st n claimer).givesBack e.letter = true :=
    (givesBack_of (s := s.objected st n claimer) hx).mpr hstate
  have htaken : (s.objected st n claimer).objectedTo st n = ((((s.objected st n claimer).onNums fun m => { m with
      window := m.window.filter (·.number ≠ n) }).takeBack e.letter).makeClaim).raise (.objection n st .takenBack) := by
    simp only [objectedTo, hfind, hgives, if_true]
  rw [if_pos hnumber, htaken] at hexec
  obtain ⟨hletter, hothers⟩ := onLetter_spec (s := (s.objected st n claimer).onNums fun m => { m with
      window := m.window.filter (·.number ≠ n) }) hx fun x => { x with number := 0 }
  have hclaim := makeClaim_work (((s.objected st n claimer).onNums fun m => { m with
      window := m.window.filter (·.number ≠ n) }).takeBack e.letter)
  have hwork := hclaim.trans (.raised _ (.objection n st .takenBack))
  refine ⟨_, hexec, by rw [hwork.letters]; exact hletter, fun j hj => by rw [hwork.letters]; exact hothers j hj,
    hwork.waiting, hwork.window, hwork.sameLines, hwork.seg⟩

/-- A letter that cannot give its number back keeps it (R152). -/
theorem objection_refused (hnum : s.Numbered) (hnumber : s.bus.ctl.number = some claimer)
    (he : s.nums.window.find? (·.number == n) = some e) (hx : s.letters[e.letter] = some x)
    (hstate : x.state = .transitOut ∨ x.state = .delivering ∨ x.state = .suspended ∨ x.state = .stranded ∨
      (x.state = .closed ∧ x.progress ≠ none)) (st : Station) :
    ∃ t, exec (.claimObjection st n claimer) s = .next t ∧ t.letters = s.letters ∧
      t.bus.counters.objectionsIgnored = s.bus.counters.objectionsIgnored + 1 ∧
      t.nums.window = s.nums.window.filter (·.number ≠ n) ∧ t.nums.waiting = s.nums.waiting ∧
      SameLines s t ∧ t.seg = s.seg := by
  have hexec := exec_claimObjection hnum st n claimer
  have hfind : (s.objected st n claimer).nums.window.find? (·.number == n) = some e := he
  have hgives : ¬(s.objected st n claimer).givesBack e.letter = true := by
    rw [givesBack_of (s := s.objected st n claimer) hx]
    rcases hstate with h | h | h | h | ⟨h, hp⟩ <;> simp [h]
    exact hp
  have hrefused : (s.objected st n claimer).objectedTo st n = (((s.objected st n claimer).onNums fun m => { m with
      window := m.window.filter (·.number ≠ n) }).ignoreObjection).raise (.objection n st .refused) := by
    simp only [objectedTo, hfind, if_neg hgives]
  rw [if_pos hnumber, hrefused] at hexec
  refine ⟨_, hexec, rfl, ?_, rfl, rfl, ⟨rfl, rfl, rfl, rfl⟩, rfl⟩
  have hparts := Bus.raise_parts (((s.objected st n claimer).onNums fun m => { m with
      window := m.window.filter (·.number ≠ n) }).ignoreObjection).bus (.objection n st .refused)
  change ((((s.objected st n claimer).onNums fun m => { m with
      window := m.window.filter (·.number ≠ n) }).ignoreObjection).bus.raise (.objection n st .refused)).counters.objectionsIgnored = _
  rw [hparts]
  rfl

/-- Settles O34: another station's claim, and an objection's four outcomes. -/
theorem claimsAndObjections : Obligations.ClaimsAndObjections := by
  unfold Obligations.ClaimsAndObjections
  refine ⟨fun s st n hnum => ⟨numberClaim_unknown hnum st n, fun i hi hroom => numberClaim_held hnum st n hi hroom⟩,
    fun s st n claimer hnum => ⟨fun hnumber => ?_, fun hnumber hnone => objection_late hnum hnumber hnone st,
      fun e x hnumber he hx => ⟨fun hstate => objection_takes hnum hnumber he hx hstate st,
        fun hstate => objection_refused hnum hnumber he hx hstate st⟩⟩⟩
  have hexec := exec_claimObjection hnum st n claimer
  rw [if_neg hnumber] at hexec
  exact ⟨_, hexec, rfl, rfl, rfl, rfl, ⟨⟨rfl, rfl, rfl, rfl⟩, rfl, rfl, rfl, rfl⟩⟩

end Sys2Proof.Machine.State
end

section
/-! What the engine's look leaves of a letter no delivery is about, and a claim that completes (R29, R146, R174). -/

namespace Sys2Proof.Machine.State

variable {s t u : State} {i j : LetterIx} {x y : Letter} {st : Station} {n m : Nat} {valid : Bool} {a : Machine.Active}
  {rest : List LetterIx}

/-! ### A letter no delivery is about -/

/-- Of a letter, only the progress may differ. -/
def OnlyProgress (i : LetterIx) (s t : State) : Prop :=
  ∀ x, s.letters[i] = some x → ∃ p, t.letters[i] = some { x with progress := p }

theorem OnlyProgress.of_same (h : t.letters[i] = s.letters[i]) : OnlyProgress i s t :=
  fun x hx => ⟨x.progress, h.trans hx⟩

theorem OnlyProgress.trans (h : OnlyProgress i s t) (k : OnlyProgress i t u) : OnlyProgress i s u := by
  intro x hx
  obtain ⟨p, hp⟩ := h x hx
  obtain ⟨q, hq⟩ := k _ hp
  exact ⟨q, hq⟩

theorem resumeSuspended_progress (h : ∀ m, s.deliv.suspended ≠ some (i, m)) : OnlyProgress i s s.resumeSuspended := by
  cases hsuspended : s.deliv.suspended with
  | none =>
    rw [resumeSuspended_of_none hsuspended]
    exact .of_same rfl
  | some e =>
    obtain ⟨j, m⟩ := e
    obtain ⟨-, hothers⟩ := resumeSuspended_shape hsuspended
    refine .of_same (hothers i ?_)
    rintro rfl
    exact h m hsuspended

theorem offerFailed_progress (h : ∀ m, s.deliv.suspended ≠ some (i, m)) : OnlyProgress i s s.offerFailed := by
  cases hactive : s.deliv.active with
  | none =>
    have heq : s.offerFailed = s := by rw [offerFailed, hactive]
    rw [heq]
    exact .of_same rfl
  | some a =>
    have heq : s.offerFailed = (s.offerGone a).resumeSuspended := offerFailed_of hactive
    rw [heq]
    have hgone : OnlyProgress i s (s.offerGone a) := fun x hx => onLetter_progress hx none a.letter
    exact hgone.trans (resumeSuspended_progress (s := s.offerGone a) h)

theorem offerLetter_progress (h : ∀ m, s.deliv.suspended ≠ some (i, m)) (j : LetterIx) (st : Station) :
    OnlyProgress i s (s.offerLetter j st) := by
  cases hj : s.letters[j] with
  | none =>
    rw [offerLetter_of_free hj]
    exact .of_same rfl
  | some z =>
    have hoffering : OnlyProgress i s ((s.offering j st).onBus (Bus.place ⟨st, .offer (s.offerBody z), s.streamId⟩)) :=
      fun x hx => onLetter_progress hx (some ⟨0, 0, crc32Start, st, none⟩) j
    rw [offerLetter_eq hj]
    split
    · exact hoffering
    · exact hoffering.trans (offerFailed_progress
        (s := (s.offering j st).onBus (Bus.place ⟨st, .offer (s.offerBody z), s.streamId⟩)) h)

theorem afterSuspend_progress (h : ∀ m, s.deliv.suspended ≠ some (i, m)) : OnlyProgress i s s.afterSuspend := by
  unfold afterSuspend
  split
  · split
    · exact offerLetter_progress h _ _
    · exact resumeSuspended_progress h
  · exact resumeSuspended_progress h

/-- The active delivery suspended, and what follows, for a letter it is not about. -/
theorem suspendNow_progress (ha : s.deliv.active = some a) (h : a.letter ≠ i) :
    OnlyProgress i s s.suspendNow.afterSuspend := by
  have heq := suspendNow_of ha
  have hsame : s.suspendNow.letters[i] = s.letters[i] := by
    rw [heq]
    exact onLetter_other s h.symm _
  refine (OnlyProgress.of_same hsame).trans (afterSuspend_progress fun m hm => ?_)
  rw [heq] at hm
  cases hm
  exact h rfl

/-- The engine's look changes of a letter that no delivery is about the progress alone (R174, R185). -/
theorem look_progress (hactive : ∀ a, s.deliv.active = some a → a.letter ≠ i)
    (hsuspended : ∀ m, s.deliv.suspended ≠ some (i, m)) : OnlyProgress i s s.look := by
  unfold look
  split
  · exact .of_same rfl
  · split
    · split
      · exact offerLetter_progress hsuspended _ _
      · exact resumeSuspended_progress hsuspended
    · next a ha =>
      split
      · dsimp only
        split
        · split
          · exact .of_same rfl
          · refine suspendNow_progress (s := State.withdrawDelivery (s.onActive fun a => { a with suspendPending := true }))
              (a := { a with suspendPending := true }) ?_ (hactive a ha)
            change (s.onActive fun a => { a with suspendPending := true }).deliv.active = _
            rw [onActive_deliv ha]
        · exact .of_same rfl
      · exact .of_same rfl

/-! ### The claim completes (R146) -/

/-- A letter has taken its number, and its objection window is open (R146). -/
def numbered (s : State) (n : Nat) (i : LetterIx) (rest : List LetterIx) : State :=
  (s.onLetter i fun x => { x with number := n }).onNums fun m =>
    { m with waiting := rest, window := m.window ++ [⟨n, i, Config.objectionUnits⟩] }

/-- The number link ends, and the Next Number lies past the number (R146). -/
def claimOver (s : State) (n : Nat) : State := (s.onNums fun m => { m with next := max m.next (n + 1) }).endClaim

theorem exec_numberClaimCompletes (hframe : s.nums.frame = .current) (hlink : s.nums.link = some (n, valid)) :
    exec (.numberClaimCompletes n) s =
      .next (((s.taken (.numberClaimCompletes n)).assignNumber n).claimOver n).makeClaim := by
  have hcond : (s.taken (.numberClaimCompletes n)).nums.frame = .current ∧
      (s.taken (.numberClaimCompletes n)).nums.link.map (·.1) = some n := ⟨hframe, by
    change s.nums.link.map (·.1) = some n
    rw [hlink]
    rfl⟩
  change execNumberClaimCompletes n s = _
  simp only [execNumberClaimCompletes, if_pos hcond]
  rfl

theorem numbered_letter (hx : s.letters[i] = some x) (n : Nat) (rest : List LetterIx) :
    (s.numbered n i rest).letters[i] = some { x with number := n } ∧ OtherLetters i s (s.numbered n i rest) :=
  onLetter_spec hx fun x => { x with number := n }

theorem assignNumber_of (hwaiting : s.nums.waiting = i :: rest) (hx : s.letters[i] = some x) (n : Nat) :
    s.assignNumber n = if x.state = .closed then (s.numbered n i rest).look else s.numbered n i rest := by
  obtain ⟨hletter, -⟩ := numbered_letter hx n rest
  have hstate : (s.numbered n i rest).stateOf i = some x.state := by
    rw [stateOf, hletter]
    rfl
  have heq : s.assignNumber n = when ((s.numbered n i rest).stateOf i == some .closed) (·.look) (s.numbered n i rest) := by
    rw [assignNumber, hwaiting]
    rfl
  rw [heq, hstate, when]
  by_cases hclosed : x.state = .closed <;> simp [hclosed]

/-- The frames that wait stay in the Control Queue as the next claim is made, where the queue has room. -/
theorem makeClaim_frames (hroom : s.HasRoom) {q : QFrame} (hq : q ∈ s.bus.link.control) :
    q ∈ s.makeClaim.bus.link.control := by
  unfold makeClaim
  split
  · split
    · unfold placeClaim
      dsimp only
      split
      · exact mem_place_of_mem hq (.inr hroom)
      · exact mem_place_of_mem hq (.inr hroom)
    · unfold exhaust
      split
      · exact hq
      · exact (Bus.Raises.raise s.bus (.exhausted s.nums.next)).mem_control hq
  · exact hq

end Sys2Proof.Machine.State
end

section
/-! The station's own claim completes (R29, R146, R174). -/

namespace Sys2Proof.Machine.State

variable {s t u : State} {i j : LetterIx} {x y : Letter} {st : Station} {n : Nat} {valid : Bool} {rest : List LetterIx}

/-- The head has its number, and joins the Delivery Queue where it is CLOSED; the next claim is not made yet. -/
def claimTaken (s : State) (n : Nat) (i : LetterIx) (rest : List LetterIx) : State := (s.numbered n i rest).claimOver n

theorem numbered_deliv (s : State) (n : Nat) (i : LetterIx) (rest : List LetterIx) :
    (s.numbered n i rest).deliv = s.deliv ∧ (s.numbered n i rest).bus = s.bus ∧
      (s.numbered n i rest).streamId = s.streamId := ⟨rfl, rfl, rfl⟩

/-! ### No letter waits -/

/-- The number of a claim that no letter waits for is a gap (R146). -/
theorem claimCompletes_gap (hwaiting : s.nums.waiting = []) (n : Nat) :
    ((s.assignNumber n).claimOver n).makeClaim = s.claimOver n := by
  have hsame : s.assignNumber n = s := by rw [assignNumber, hwaiting]
  rw [hsame]
  exact makeClaim_of_empty hwaiting

/-! ### The head is not CLOSED -/

theorem claimCompletes_open (hwaiting : s.nums.waiting = i :: rest) (hx : s.letters[i] = some x) (hopen : x.state ≠ .closed)
    (n : Nat) : ((s.assignNumber n).claimOver n).makeClaim = (s.claimTaken n i rest).makeClaim := by
  rw [assignNumber_of hwaiting hx n, if_neg hopen]
  rfl

/-- The next claim, where R144 allows one. -/
theorem claimTaken_claims (hact : s.Active) (hrest : rest ≠ []) (hwait : s.nums.wait = none)
    (hnext : max s.nums.next (n + 1) < 16777215) (hroom : s.HasRoom) :
    (s.claimTaken n i rest).makeClaim.nums.link = some (max s.nums.next (n + 1), true) ∧
      (s.claimTaken n i rest).makeClaim.nums.frame = .queued ∧
      Placed 63 (.numberClaim (max s.nums.next (n + 1))) s (s.claimTaken n i rest).makeClaim := by
  rw [makeClaim_of_room (s := s.claimTaken n i rest) hact hrest rfl hwait hnext hroom]
  exact ⟨rfl, rfl, claimed_placed (s := s.claimTaken n i rest) hroom⟩

theorem claimTaken_last (h : rest = []) : (s.claimTaken n i rest).makeClaim = s.claimTaken n i rest :=
  makeClaim_of_empty h

/-! ### A CLOSED head (R29, R174) -/

/-- A letter with its number has joined the Delivery Queue, and the next claim may be made. -/
def joined (s : State) (n : Nat) (i : LetterIx) (rest : List LetterIx) : State :=
  ((s.numbered n i rest).look.claimOver n).makeClaim

theorem claimCompletes_closed (hwaiting : s.nums.waiting = i :: rest) (hx : s.letters[i] = some x)
    (hclosed : x.state = .closed) (n : Nat) : ((s.assignNumber n).claimOver n).makeClaim = s.joined n i rest := by
  rw [assignNumber_of hwaiting hx n, if_pos hclosed]
  rfl

theorem joined_work (s : State) (n : Nat) (i : LetterIx) (rest : List LetterIx) :
    ClaimWork ((s.numbered n i rest).look.claimOver n) (s.joined n i rest) :=
  makeClaim_work ((s.numbered n i rest).look.claimOver n)

/-- What numbering, the lines, segment memory and the transfers are after a letter joined the queue. -/
theorem joined_nums (s : State) (n : Nat) (i : LetterIx) (rest : List LetterIx) :
    (s.joined n i rest).nums.window = s.nums.window ++ [⟨n, i, 5000⟩] ∧ (s.joined n i rest).nums.waiting = rest ∧
      (s.joined n i rest).nums.next = max s.nums.next (n + 1) ∧ SameLines s (s.joined n i rest) ∧
      (s.joined n i rest).seg = s.seg ∧ (s.joined n i rest).xfer = s.xfer := by
  have hwork := joined_work s n i rest
  have honly := look_only (s.numbered n i rest)
  have hnums := honly.nums
  refine ⟨?_, ?_, ?_, ?_, ?_, ?_⟩
  · rw [hwork.window]
    change (s.numbered n i rest).look.nums.window = _
    rw [hnums]
    rfl
  · rw [hwork.waiting]
    change (s.numbered n i rest).look.nums.waiting = _
    rw [hnums]
    rfl
  · rw [hwork.next]
    change max (s.numbered n i rest).look.nums.next (n + 1) = _
    rw [hnums]
    rfl
  · obtain ⟨hlines, hcoders, htones, hports⟩ := honly.sameLines
    obtain ⟨klines, kcoders, ktones, kports⟩ := hwork.sameLines
    exact ⟨klines.trans hlines, kcoders.trans hcoders, ktones.trans htones, kports.trans hports⟩
  · rw [hwork.seg]
    exact honly.seg
  · rw [hwork.xfer]
    exact honly.xfer

theorem joined_letter (hx : s.letters[i] = some x) (hactive : ∀ a, s.deliv.active = some a → a.letter ≠ i)
    (hsuspended : ∀ m, s.deliv.suspended ≠ some (i, m)) (n : Nat) (rest : List LetterIx) :
    ∃ p, (s.joined n i rest).letters[i] = some { x with number := n, progress := p } := by
  obtain ⟨hletter, -⟩ := numbered_letter hx n rest
  obtain ⟨p, hp⟩ := look_progress (s := s.numbered n i rest) hactive hsuspended _ hletter
  refine ⟨p, ?_⟩
  rw [(joined_work s n i rest).letters]
  exact hp

/-- No delivery starts while the retry timer runs (R174). -/
theorem joined_held (hx : s.letters[i] = some x) (hretry : s.deliv.retry ≠ none) (n : Nat) (rest : List LetterIx) :
    (s.joined n i rest).letters[i] = some { x with number := n } ∧ (s.joined n i rest).deliv = s.deliv ∧
      OtherLetters i s (s.joined n i rest) := by
  obtain ⟨hletter, hothers⟩ := numbered_letter hx n rest
  have hwork := joined_work s n i rest
  rw [look_held (s := s.numbered n i rest) (.inl hretry)] at hwork
  refine ⟨by rw [hwork.letters]; exact hletter, hwork.deliv, fun j hj => ?_⟩
  rw [hwork.letters]
  exact hothers j hj

/-- A letter with the queue to itself is offered where a delivery can start (R174, R176). -/
theorem numbered_starts (hx : s.letters[i] = some x) (hclosed : x.state = .closed) (hn : 0 < n) (hact : s.Active)
    (hattached : s.isDetached = false) (hdeliv : s.deliv = ⟨none, none, none, s.deliv.unconfirmed⟩)
    (hhead : s.queueHead = none) (hfiling : s.chooseFiling = some st) (rest : List LetterIx) :
    (s.numbered n i rest).look = (s.numbered n i rest).offerLetter i st := by
  obtain ⟨hletter, hothers⟩ := numbered_letter hx n rest
  have hnone : ∀ (k : LetterIx) (z : Letter), s.letters[k] = some z → ¬z.queued = true := queueHead_eq_none.mp hhead
  have hpositive : n ≠ 0 := Nat.pos_iff_ne_zero.mp hn
  have hfirst : (s.numbered n i rest).queueHead = some i := by
    refine queueHead_of_only hletter (by simp [Letter.queued, hclosed, hpositive]) fun k z hk hz => ?_
    rw [hothers k hk] at hz
    exact hnone k z hz
  have hsame : (s.numbered n i rest).deliv = s.deliv := rfl
  have hretry : (s.numbered n i rest).deliv.retry = none := by rw [hsame, hdeliv]
  refine look_of_idle (startable_eq_some.mpr ⟨hact, hattached, hretry, hfirst, hfiling⟩) ?_ ?_
  · rw [hsame, hdeliv]
  · rw [hsame, hdeliv]

theorem joined_offered (hx : s.letters[i] = some x) (hclosed : x.state = .closed) (hn : 0 < n) (hact : s.Active)
    (hattached : s.isDetached = false) (hdeliv : s.deliv = ⟨none, none, none, s.deliv.unconfirmed⟩)
    (hhead : s.queueHead = none) (hfiling : s.chooseFiling = some st) (hroom : s.bus.link.control.length ≤ 8)
    (rest : List LetterIx) :
    JustOffered i st s.streamId (s.joined n i rest) ∧ OtherLetters i s (s.joined n i rest) := by
  obtain ⟨hletter, hothers⟩ := numbered_letter hx n rest
  have hroom' : (s.numbered n i rest).HasRoom := by
    change s.bus.link.control.length < 16
    omega
  have hoffered := offerLetter_offered hletter hroom' st
  have hstart := numbered_starts hx hclosed hn hact hattached hdeliv hhead hfiling rest
  rw [← hstart] at hoffered
  obtain ⟨hactive, z, hz, hprogress, hframe⟩ := hoffered.justOffered
  have hwork := joined_work s n i rest
  have hmore : ((s.numbered n i rest).look.claimOver n).HasRoom := by
    change (s.numbered n i rest).look.bus.link.control.length < 16
    rw [hoffered.bus]
    change (s.bus.link.control ++ [_]).length < 16
    rw [List.length_append, List.length_singleton]
    omega
  refine ⟨⟨?_, z, ?_, hprogress, ?_⟩, fun j hj => ?_⟩
  · rw [hwork.deliv]
    exact hactive
  · rw [hwork.letters]
    exact hz
  · have hbody : (s.joined n i rest).offerBody z = (s.numbered n i rest).look.offerBody z := by
      simp only [offerBody, hwork.seg]
      rfl
    rw [hbody]
    exact makeClaim_frames hmore hframe
  · rw [hwork.letters]
    exact (hoffered.others j hj).trans (hothers j hj)

/-- Settles O35: the claim completes for an open head, for a CLOSED head, and for none. -/
theorem claimCompletes : Obligations.ClaimCompletes := by
  unfold Obligations.ClaimCompletes
  intro s n valid hframe hlink
  have hexec := exec_numberClaimCompletes hframe hlink
  refine ⟨fun i rest x hwaiting hx hopen => ?opened, fun i rest x hwaiting hx hclosed hn hactive hsuspended => ?closed,
    fun hwaiting => ?gap⟩
  case opened =>
    obtain ⟨hletter, hothers⟩ := numbered_letter (s := s.taken (.numberClaimCompletes n)) hx n rest
    have hwork := makeClaim_work ((s.taken (.numberClaimCompletes n)).claimTaken n i rest)
    rw [claimCompletes_open (s := s.taken (.numberClaimCompletes n)) hwaiting hx hopen n] at hexec
    refine ⟨_, hexec, by rw [hwork.letters]; exact hletter, fun j hj => by rw [hwork.letters]; exact hothers j hj,
      hwork.waiting, hwork.window, hwork.next, fun hact hrest hwait hnext hroom => ?_, fun hrest => ?_, hwork.sameLines,
      hwork.seg, hwork.deliv, hwork.xfer⟩
    · exact claimTaken_claims (s := s.taken (.numberClaimCompletes n)) hact hrest hwait hnext hroom
    · rw [claimTaken_last hrest]
      exact ⟨rfl, rfl, rfl⟩
  case closed =>
    rw [claimCompletes_closed (s := s.taken (.numberClaimCompletes n)) hwaiting hx hclosed n] at hexec
    obtain ⟨hwindow, hwaits, hnext, hlines, hseg, hxfer⟩ := joined_nums (s.taken (.numberClaimCompletes n)) n i rest
    obtain ⟨p, hletter⟩ := joined_letter (s := s.taken (.numberClaimCompletes n)) hx hactive hsuspended n rest
    have hpositive : n ≠ 0 := Nat.pos_iff_ne_zero.mp hn
    refine ⟨_, _, hexec, hletter, rfl, by simp [Letter.queued, hclosed, hpositive], rfl, rfl, hwindow, hwaits, hnext,
      hlines, hseg, hxfer, fun hretry => ?_, fun st hact hattached hdeliv hhead hfiling hroom => ?_⟩
    · obtain ⟨hsame, hdeliv, hothers⟩ := joined_held (s := s.taken (.numberClaimCompletes n)) hx hretry n rest
      exact ⟨Option.some.inj (hletter.symm.trans hsame), hdeliv, hothers⟩
    · exact joined_offered (s := s.taken (.numberClaimCompletes n)) hx hclosed hn hact hattached hdeliv hhead hfiling hroom
        rest
  case gap =>
    rw [claimCompletes_gap (s := s.taken (.numberClaimCompletes n)) hwaiting n] at hexec
    exact ⟨_, hexec, rfl, rfl, ⟨⟨rfl, rfl, rfl, rfl⟩, rfl, rfl, rfl, rfl⟩⟩

end Sys2Proof.Machine.State
end

section
/-! A peer falls silent (R138, R187). -/

namespace Sys2Proof.Machine.State

variable {s t u : State} {i j : LetterIx} {x y : Letter} {st : Station} {n m : Nat} {p q : Progress} {a : Machine.Active}
  {peer : Peer}

/-! ### The deliveries to an absent filing station (R187) -/

theorem filesTo_of (hx : s.letters[i] = some x) (hq : x.progress = some q) : s.filesTo i st = (q.filing == st) := by
  rw [filesTo, hx, Option.any_some, hq, Option.any_some]

/-- The suspended delivery aborted where it goes to the station. -/
def suspendedCut (s : State) (st : Station) : State :=
  when (s.deliv.suspended.any fun e => s.filesTo e.1 st) (·.abortSuspended) s

theorem suspendedCut_stays (h : ∀ i n y r, s.deliv.suspended = some (i, n) → s.letters[i] = some y →
    y.progress = some r → r.filing ≠ st) : s.suspendedCut st = s := by
  rw [suspendedCut, when, if_neg]
  intro hany
  obtain ⟨⟨i, n⟩, hsuspended, hfiles⟩ := (Option.any_eq_true _ _).mp hany
  obtain ⟨y, hy, hprogress⟩ := (Option.any_eq_true _ _).mp hfiles
  obtain ⟨r, hr, hfiling⟩ := (Option.any_eq_true _ _).mp hprogress
  exact h i n y r hsuspended hy hr (by simpa using hfiling)

theorem suspendedCut_of_none (h : s.deliv.suspended = none) : s.suspendedCut st = s :=
  suspendedCut_stays fun i n _ _ hsome => absurd (h.symm.trans hsome) (by simp)

/-- The suspended delivery stays, or is aborted. -/
theorem suspendedCut_cases (s : State) (st : Station) :
    s.suspendedCut st = s ∨ s.suspendedCut st = s.abortSuspended := by
  unfold suspendedCut when
  split
  · exact .inr rfl
  · exact .inl rfl

theorem abortSuspended_only (s : State) : OnlyDeliv s s.abortSuspended := by
  rw [OnlyDeliv, abortSuspended_rest]

theorem abortActive_only (s : State) : OnlyDeliv s s.abortActive := by
  rw [OnlyDeliv, abortActive_rest]

/-- What the station is after the suspended delivery may have been aborted: nothing else has changed. -/
theorem suspendedCut_rest (s : State) (st : Station) : OnlyDeliv s (s.suspendedCut st) ∧
    (s.suspendedCut st).bus = s.bus ∧ (s.suspendedCut st).deliv.retry = s.deliv.retry ∧
    (s.suspendedCut st).deliv.active = s.deliv.active := by
  rcases suspendedCut_cases s st with h | h <;> rw [h]
  · exact ⟨.refl s, rfl, rfl, rfl⟩
  · refine ⟨abortSuspended_only s, ?_, ?_, ?_⟩ <;> rw [abortSuspended_rest]

theorem suspendedCut_other (h : ∀ i n, s.deliv.suspended = some (i, n) → i ≠ j) :
    (s.suspendedCut st).letters[j] = s.letters[j] := by
  rcases suspendedCut_cases s st with heq | heq <;> rw [heq]
  exact abortSuspended_other h

theorem filingAbsent_eq (s : State) (st : Station) : s.filingAbsent st =
    if (s.deliv.suspended.any fun e => s.filesTo e.1 st) || (s.deliv.active.any fun a => s.filesTo a.letter st) then
      (when (s.deliv.active.any fun a => s.filesTo a.letter st) (·.abortActive) (s.suspendedCut st)).afterEnd
    else s := rfl

theorem filingAbsent_only (s : State) (st : Station) : OnlyDeliv s (s.filingAbsent st) := by
  obtain ⟨hcut, -⟩ := suspendedCut_rest s st
  rw [filingAbsent_eq]
  split
  · unfold when
    split
    · exact (hcut.trans (abortActive_only _)).trans (afterEnd_only _)
    · exact hcut.trans (afterEnd_only _)
  · exact .refl s

/-- The active delivery goes to the station, and is aborted. -/
theorem filingAbsent_active (h : s.activeOf = some (a, x, q)) (hq : q.filing = st) :
    s.filingAbsent st = (s.suspendedCut st).abortActive.afterEnd := by
  obtain ⟨ha, hx, hprogress⟩ := activeOf_eq_some.mp h
  have hfiles : s.filesTo a.letter st = true := by
    rw [filesTo_of hx hprogress, hq]
    exact beq_self_eq_true st
  rw [filingAbsent_eq, ha, Option.any_some, hfiles, Bool.or_true]
  rfl

/-- The suspended delivery goes to the station, and is aborted. -/
theorem filingAbsent_suspended (hsuspended : s.deliv.suspended = some (i, n)) (hx : s.letters[i] = some x)
    (hprogress : x.progress = some q) (hq : q.filing = st) : s.filingAbsent st =
      (when (s.deliv.active.any fun a => s.filesTo a.letter st) (·.abortActive) s.abortSuspended).afterEnd := by
  have hfiles : s.filesTo i st = true := by
    rw [filesTo_of hx hprogress, hq]
    exact beq_self_eq_true st
  rw [filingAbsent_eq, suspendedCut, hsuspended, Option.any_some, hfiles, Bool.true_or]
  rfl

/-! ### Nothing starts after the abort -/

theorem resumeSuspended_retry (s : State) : s.resumeSuspended.deliv.retry = s.deliv.retry := by
  cases h : s.deliv.suspended with
  | none => rw [resumeSuspended_of_none h]
  | some e =>
    obtain ⟨hshape, -⟩ := resumeSuspended_shape (i := e.1) (n := e.2) h
    rw [hshape]

theorem afterEnd_retry (h : s.StartsNothing) : s.afterEnd.deliv.retry = s.deliv.retry := by
  unfold afterEnd when
  split
  · have hresumed := h.of_queued (resumeSuspended_retry s) (resumeSuspended_queued s) (resumeSuspended_only s).peers
    rw [look_held hresumed]
    exact resumeSuspended_retry s
  · rw [look_held h]

/-- An abort after an abort leaves the retry timer and what the engine's look reads. -/
theorem StartsNothing.of_cut (h : s.StartsNothing) (ht : t = s.suspendedCut st ∨ t = (s.suspendedCut st).abortActive) :
    t.StartsNothing ∧ t.deliv.retry = s.deliv.retry := by
  obtain ⟨honly, hbus, hretry, -⟩ := suspendedCut_rest s st
  have hqueued : OnlyQueued s (s.suspendedCut st) := by
    rw [OnlyQueued, hbus]
    exact .refl _
  have hcut : (s.suspendedCut st).StartsNothing := h.of_queued hretry hqueued honly.peers
  obtain ⟨-, hactive⟩ := abortActive_deliv (s.suspendedCut st)
  rcases ht with rfl | rfl
  · exact ⟨hcut, hretry⟩
  · exact ⟨hcut.of_queued hactive (abortActive_queued _) (abortActive_only _).peers, hactive.trans hretry⟩

theorem filingAbsent_retry (h : s.StartsNothing) (st : Station) : (s.filingAbsent st).deliv.retry = s.deliv.retry := by
  rw [filingAbsent_eq]
  split
  · unfold when
    split
    · obtain ⟨hnothing, hretry⟩ := h.of_cut (st := st) (.inr rfl)
      exact (afterEnd_retry hnothing).trans hretry
    · obtain ⟨hnothing, hretry⟩ := h.of_cut (st := st) (.inl rfl)
      exact (afterEnd_retry hnothing).trans hretry
  · rfl

theorem afterEnd_rests (h : s.StartsNothing) (hsuspended : s.deliv.suspended = none) : s.afterEnd = s := by
  rw [afterEnd_of_none hsuspended, look_held h]

/-! ### The suspended delivery's letter, and the active one's -/

theorem filingAbsent_suspended_aborted (h : s.StartsNothing) (hsuspended : s.deliv.suspended = some (i, n))
    (hx : s.letters[i] = some x) (hprogress : x.progress = some q) (hq : q.filing = st)
    (hother : ∀ a, s.deliv.active = some a → a.letter ≠ i) :
    DeliveryAborted i x (s.filingAbsent st) ∧ (s.filingAbsent st).deliv.suspended = none := by
  have haborted := abortSuspended_aborted hsuspended hx
  have hrest := abortSuspended_rest s
  have hdeliv : s.abortSuspended.deliv = { s.deliv with suspended := none } := by rw [hrest]
  have hbus : s.abortSuspended.bus = s.bus := by rw [hrest]
  have hnothing : s.abortSuspended.StartsNothing := h.of_queued (by rw [hdeliv]) (by rw [OnlyQueued, hbus]; exact .refl _)
    (abortSuspended_only s).peers
  have hgone : s.abortSuspended.deliv.suspended = none := by rw [hdeliv]
  rw [filingAbsent_suspended hsuspended hx hprogress hq, when]
  split
  · obtain ⟨hsame, hretry⟩ := abortActive_deliv s.abortSuspended
    have hafter := hnothing.of_queued hretry (abortActive_queued _) (abortActive_only _).peers
    rw [afterEnd_rests hafter (hsame.trans hgone)]
    refine ⟨(abortActive_other fun a ha => hother a ?_).trans haborted, hsame.trans hgone⟩
    rw [hdeliv] at ha
    exact ha
  · rw [afterEnd_rests hnothing hgone]
    exact ⟨haborted, hgone⟩

/-- The active delivery's letter is aborted as when its frame is abandoned (R187). -/
theorem filingAbsent_active_cut (h : s.StartsNothing) (hactive : s.activeOf = some (a, x, q)) (hq : q.filing = st)
    (hother : ∀ i n, s.deliv.suspended = some (i, n) → i ≠ a.letter) :
    DeliveryCut a x (s.suspendedCut st) (s.filingAbsent st) := by
  obtain ⟨ha, hx, hprogress⟩ := activeOf_eq_some.mp hactive
  obtain ⟨-, -, -, hsame⟩ := suspendedCut_rest s st
  have hcut : (s.suspendedCut st).activeOf = some (a, x, q) :=
    activeOf_eq_some.mpr ⟨hsame.trans ha, (suspendedCut_other hother).trans hx, hprogress⟩
  rw [filingAbsent_active hactive hq]
  refine abortEnd_cut hcut (h.of_cut (.inl rfl)).1 fun j k hjk => ?_
  rcases suspendedCut_cases s st with heq | heq <;> rw [heq] at hjk
  · exact hother j k hjk
  · rw [abortSuspended_rest] at hjk
    cases hjk

theorem afterEnd_unconfirmed (h : s.StartsNothing) : s.afterEnd.deliv.unconfirmed = s.deliv.unconfirmed := by
  unfold afterEnd when
  split
  · next hresumes =>
    obtain ⟨⟨i, n⟩, he⟩ := Option.isSome_iff_exists.mp (Bool.and_eq_true _ _ ▸ hresumes).2
    obtain ⟨hshape, -⟩ := resumeSuspended_shape he
    have hresumed := h.of_queued (resumeSuspended_retry s) (resumeSuspended_queued s) (resumeSuspended_only s).peers
    rw [look_held hresumed, hshape]
  · rw [look_held h]

/-- A delivery that had ended is noted as unconfirmed (R187). -/
theorem filingAbsent_noted (h : s.StartsNothing) (hactive : s.activeOf = some (a, x, q)) (hq : q.filing = st)
    (hother : ∀ i n, s.deliv.suspended = some (i, n) → i ≠ a.letter) {g : Nat} (hphase : a.phase = .ended)
    (hg : q.tag = some g) : ⟨x.number, st, g⟩ ∈ (s.filingAbsent st).deliv.unconfirmed := by
  obtain ⟨ha, hx, hprogress⟩ := activeOf_eq_some.mp hactive
  obtain ⟨-, -, -, hsame⟩ := suspendedCut_rest s st
  have hcut : (s.suspendedCut st).activeOf = some (a, x, q) :=
    activeOf_eq_some.mpr ⟨hsame.trans ha, (suspendedCut_other hother).trans hx, hprogress⟩
  obtain ⟨hover, -⟩ := abortActive_over hcut
  rw [filingAbsent_active hactive hq, afterEnd_unconfirmed (h.of_cut (.inr rfl)).1, hover.deliv, ← hq]
  exact notedIfEnded_noted hphase hg _ x

/-! ### The silence timer (R138) -/

theorem exec_silenceTimerExpiry (h : s.peer st = some peer) (hpresent : peer.present = true) :
    exec (.silenceTimerExpiry st) s =
      .next (((s.taken (.silenceTimerExpiry st)).silence st).tellAbsent st peer.cls) := by
  have h' : (s.taken (.silenceTimerExpiry st)).peer st = some peer := h
  change execSilenceTimerExpiry st s = _
  simp only [execSilenceTimerExpiry, h', if_pos hpresent]

theorem tellAbsent_only (s : State) (st : Station) (c : StationClass) : OnlyDeliv s (s.tellAbsent st c) := by
  cases c
  case filing => exact filingAbsent_only s st
  case console => exact rfl
  case squeeze => exact .refl s

/-- Settles O33: a silent console, a silent squeeze station and a silent filing station. -/
theorem peerFallsSilent : Obligations.PeerFallsSilent := by
  unfold Obligations.PeerFallsSilent
  intro s st p hp hpresent
  have hexec := exec_silenceTimerExpiry hp hpresent
  have honly := tellAbsent_only ((s.taken (.silenceTimerExpiry st)).silence st) st p.cls
  refine ⟨_, hexec, honly.peers, fun hcls => ?console, fun hcls => ?squeeze, fun hcls hnothing => ?filing,
    fun a => by rw [honly.seg]; rfl, honly.sameLines, honly.nums⟩
  case console =>
    rw [hcls]
    exact ⟨rfl, ⟨rfl, rfl, rfl, rfl⟩, rfl, rfl, rfl, rfl⟩
  case squeeze =>
    rw [hcls]
    exact ⟨rfl, ⟨rfl, rfl, rfl, rfl⟩, rfl, rfl, rfl, rfl⟩
  case filing =>
    have hheld : ((s.taken (.silenceTimerExpiry st)).silence st).StartsNothing := hnothing.imp_right .inr
    rw [hcls]
    refine ⟨filingAbsent_retry hheld st, fun i n x q hsuspended hx hprogress hq hother =>
      filingAbsent_suspended_aborted hheld hsuspended hx hprogress hq hother, fun a x q hactive hq hother => ?_⟩
    have hcut := filingAbsent_active_cut (s := (s.taken (.silenceTimerExpiry st)).silence st) hheld hactive hq hother
    refine ⟨hcut.aborted, fun g hphase hg =>
      filingAbsent_noted (s := (s.taken (.silenceTimerExpiry st)).silence st) hheld hactive hq hother hphase hg,
      fun hnone => ?_, fun i n y r hsuspended hy hr hne => ?_⟩
    · rw [suspendedCut_of_none (s := (s.taken (.silenceTimerExpiry st)).silence st) hnone] at hcut
      exact ⟨hcut.active hnone, hcut.offDelivery hnone⟩
    · rw [suspendedCut_stays (s := (s.taken (.silenceTimerExpiry st)).silence st) fun i' n' y' r' hs' hy' hr' => by
        cases (hsuspended.symm.trans hs' : some (i, n) = some (i', n'))
        cases (hy.symm.trans hy' : some y = some y')
        cases (hr.symm.trans hr' : some r = some r')
        exact hne] at hcut
      obtain ⟨hactive', hletter⟩ := hcut.resumed i n hsuspended
      exact ⟨hletter y hy, hcut.suspended, hactive'⟩

end Sys2Proof.Machine.State
end

section
/-! What a restart seen of a peer does to the transfers with it (R139, R170). -/

namespace Sys2Proof.Machine.State

variable {s t u : State} {i : LetterIx} {x : Letter} {st : Station} {o : Outgoing} {c : Incoming} {e : Settle} {l : LineNo}
  {old : Peer} {d : Station}

/-! ### What every step of it leaves -/

/-- Events may have joined the Control Queue; the bytes of segment memory, the peers and the Next Number are as they were. -/
structure RestartWork (s t : State) : Prop where
  queue : ∃ qs : List QFrame, (∀ q ∈ qs, q.msg.isEvent = true) ∧ t.bus.link.control = s.bus.link.control ++ qs
  mem : t.seg.mem = s.seg.mem
  peers : t.peers = s.peers
  next : t.nums.next = s.nums.next

namespace RestartWork

theorem of_same (hcontrol : t.bus.link.control = s.bus.link.control) (hmem : t.seg.mem = s.seg.mem) (hpeers : t.peers = s.peers)
    (hnext : t.nums.next = s.nums.next) : RestartWork s t :=
  ⟨⟨[], by simp, by rw [hcontrol, List.append_nil]⟩, hmem, hpeers, hnext⟩

theorem refl (s : State) : RestartWork s s := .of_same rfl rfl rfl rfl

theorem trans (h : RestartWork s t) (k : RestartWork t u) : RestartWork s u := by
  obtain ⟨ps, hps, hpc⟩ := h.queue
  obtain ⟨qs, hqs, hqc⟩ := k.queue
  refine ⟨⟨ps ++ qs, fun q hq => (List.mem_append.mp hq).elim (hps q) (hqs q), ?_⟩, k.mem.trans h.mem, k.peers.trans h.peers,
    k.next.trans h.next⟩
  rw [hqc, hpc, List.append_assoc]

theorem raised (s : State) (ev : Event) : RestartWork s (s.raise ev) := by
  obtain ⟨qs, -, hevents, hcontrol⟩ := Bus.raise_control s.bus ev
  exact ⟨⟨qs, hevents, hcontrol⟩, rfl, rfl, rfl⟩

theorem mem_control (h : RestartWork s t) {q : QFrame} (hq : q ∈ s.bus.link.control) : q ∈ t.bus.link.control := by
  obtain ⟨qs, -, hcontrol⟩ := h.queue
  rw [hcontrol]
  exact List.mem_append_left _ hq

/-- No frame but events has joined the Control Queue. -/
theorem control_old (h : RestartWork s t) {q : QFrame} (hq : q ∈ t.bus.link.control) (hkind : q.msg.kind = 0x01) :
    q ∈ s.bus.link.control := by
  obtain ⟨qs, hevents, hcontrol⟩ := h.queue
  rw [hcontrol] at hq
  refine (List.mem_append.mp hq).resolve_right fun hnew => ?_
  have hevent := hevents q hnew
  cases hmsg : q.msg <;> simp [hmsg, Msg.isEvent, Msg.kind] at hevent hkind

end RestartWork

theorem freeLetter_restartWork (s : State) (i : LetterIx) : RestartWork s (s.freeLetter i) := by
  cases hx : s.letters[i] with
  | none =>
    have hsame : s.freeLetter i = s := by rw [freeLetter, hx]
    rw [hsame]
    exact .refl s
  | some x =>
    have hfreed := freeLetter_freed hx
    obtain ⟨n, hraises⟩ := hfreed.bus
    obtain ⟨qs, -, hevents, hcontrol⟩ := hraises.control
    exact ⟨⟨qs, hevents, hcontrol⟩, mem_freeLetter s i, hfreed.peers, by rw [hfreed.nums]⟩

theorem returnHeld_restartWork (s : State) (i : LetterIx) : RestartWork s (s.returnHeld i) := .of_same rfl rfl rfl rfl

theorem incomingFail_restartWork (s : State) (why : TransferReason) : RestartWork s (s.incomingFail none why) := by
  cases hinc : s.xfer.incoming with
  | none =>
    have hsame : s.incomingFail none why = s := by rw [incomingFail, hinc]
    rw [hsame]
    exact .refl s
  | some inc =>
    have hfreed := freeLetter_restartWork s inc.letter
    have htold := tellFailed_only (s.freeLetter inc.letter).endIncoming inc.letter
    have hmiddle : RestartWork (s.freeLetter inc.letter)
        ((s.freeLetter inc.letter).endIncoming.tellFailed inc.letter) := by
      rw [htold]
      exact .of_same rfl rfl rfl rfl
    rw [incomingFail, hinc]
    exact (hfreed.trans hmiddle).trans (.raised _ (.transferCancelled inc.number inc.giver why))

theorem settle_restartWork (s : State) (e : Settle) : RestartWork s (s.settle e) := by
  unfold settle
  dsimp only
  split
  · exact .of_same rfl rfl rfl rfl
  · exact .of_same rfl rfl rfl rfl

theorem settleAll_restartWork (es : List Settle) (s : State) : RestartWork s (es.foldl settle s) := by
  induction es generalizing s with
  | nil => exact .refl s
  | cons e es ih => exact (settle_restartWork s e).trans (ih (s.settle e))

theorem restartAtGiver_restartWork (s : State) (st : Station) : RestartWork s (s.restartAtGiver st) := by
  unfold restartAtGiver
  split
  · split
    · exact returnHeld_restartWork s _
    · exact .refl s
  · exact .refl s

theorem restartAtTaker_restartWork (s : State) (st : Station) : RestartWork s (s.restartAtTaker st) := by
  unfold restartAtTaker
  split
  · exact incomingFail_restartWork s _
  · exact .refl s

theorem partnerRestart_restartWork (s : State) (st : Station) : RestartWork s (s.partnerRestart st) :=
  ((restartAtGiver_restartWork s st).trans (restartAtTaker_restartWork _ st)).trans (settleAll_restartWork _ _)

theorem seeRestart_restartWork (s : State) (old : Peer) : RestartWork s (s.seeRestart old) :=
  (RestartWork.raised s (.peerRestart old.station old.cls)).trans (partnerRestart_restartWork _ old.station)

/-- The restart's event stands in the Control Queue (R139, R198). -/
theorem seeRestart_told (hlen : s.bus.link.control.length ≤ 8) (hdest : s.bus.ctl.eventDest = some d) (old : Peer) :
    ∃ seq, (s.seeRestart old).InQueue d (.event 13 seq s.bus.ctl.seconds (Event.peerRestart old.station old.cls).details) :=
  ⟨_, (partnerRestart_restartWork (s.raise (.peerRestart old.station old.cls)) old.station).mem_control
    (Bus.raise_told (b := s.bus) (show _ < 16 by omega) hdest (.peerRestart old.station old.cls))⟩

/-! ### A transfer with no part in it, and each of the three kinds -/

theorem restartAtGiver_other (h : s.xfer.outgoing.all (fun o => o.taker != st) = true) : s.restartAtGiver st = s := by
  unfold restartAtGiver
  split
  · next o ho =>
    rw [ho, Option.all_some] at h
    rw [if_neg (by simpa using h)]
  · rfl

theorem restartAtTaker_other (h : s.xfer.incoming.all (fun c => c.giver != st) = true) : s.restartAtTaker st = s := by
  rw [restartAtTaker, if_neg]
  intro hany
  obtain ⟨c, hc, hgiver⟩ := (Option.any_eq_true _ _).mp hany
  rw [hc, Option.all_some] at h
  simp only [beq_iff_eq] at hgiver
  simp [hgiver] at h

theorem settling_other (h : ∀ e ∈ s.xfer.settling, e.giver ≠ st) : s.xfer.settling.filter (·.giver == st) = [] :=
  List.filter_eq_nil_iff.mpr fun e he => by simpa using h e he

/-- The letter lent to a restarted station is HELD again (R170). -/
theorem partnerRestart_giver (ho : s.xfer.outgoing = some o) (htaker : o.taker = st)
    (hincoming : s.xfer.incoming.all (fun c => c.giver != st) = true) (hsettling : ∀ e ∈ s.xfer.settling, e.giver ≠ st) :
    s.partnerRestart st = s.returnHeld o.letter := by
  have hgiver : s.restartAtGiver st = s.returnHeld o.letter := by rw [restartAtGiver, ho]; exact if_pos htaker
  have htakes : (s.returnHeld o.letter).restartAtTaker st = s.returnHeld o.letter := restartAtTaker_other hincoming
  have hnone : (s.returnHeld o.letter).xfer.settling.filter (·.giver == st) = [] :=
    settling_other (s := s.returnHeld o.letter) hsettling
  rw [partnerRestart, hgiver, htakes]
  rw [hnone]
  rfl

/-- A transfer from a restarted giver fails, without a Fetch Cancel (R170). -/
theorem partnerRestart_taker (hc : s.xfer.incoming = some c) (hgiver : c.giver = st) (hx : s.letters[c.letter] = some x)
    (houtgoing : s.xfer.outgoing.all (fun o => o.taker != st) = true) (hsettling : ∀ e ∈ s.xfer.settling, e.giver ≠ st) :
    s.partnerRestart st = s.incomingFail none .partnerRestarted := by
  obtain ⟨-, -, hxfer, -⟩ := incomingFail_failed hc hx none .partnerRestarted
  have htakes : s.restartAtTaker st = s.incomingFail none .partnerRestarted := by
    rw [restartAtTaker, if_pos (by simp [hc, hgiver])]
  have hnone : (s.incomingFail none .partnerRestarted).xfer.settling.filter (·.giver == st) = [] := by
    rw [hxfer]
    exact settling_other (s := s) hsettling
  rw [partnerRestart, restartAtGiver_other houtgoing, htakes]
  rw [hnone]
  rfl

/-- A settling letter of a restarted giver settles (R170). -/
theorem partnerRestart_settles (hsettling : s.xfer.settling = [e]) (hgiver : e.giver = st)
    (houtgoing : s.xfer.outgoing.all (fun o => o.taker != st) = true)
    (hincoming : s.xfer.incoming.all (fun c => c.giver != st) = true) : s.partnerRestart st = s.settle e := by
  rw [partnerRestart, restartAtGiver_other houtgoing, restartAtTaker_other hincoming]
  rw [hsettling]
  simp [hgiver]

end Sys2Proof.Machine.State
end

section
/-! A Beacon received (R136 to R141, R170). -/

namespace Sys2Proof.Machine.State

variable {s t u : State} {i : LetterIx} {x : Letter} {st : Station} {b : BeaconBody} {o : Outgoing} {c : Incoming}
  {e : Settle} {l : LineNo} {old : Peer} {d : Station}

/-! ### The Next Number and the Peer Table -/

theorem exec_beacon_own (hnum : s.Numbered) (hown : s.bus.ctl.number = some st) (b : BeaconBody) :
    exec (.beacon st b) s = .next ((s.taken (.beacon st b)).raiseNext b.next) := by
  have hnum' : (s.taken (.beacon st b)).isNumbered = true := isNumbered_of hnum
  have hown' : (s.taken (.beacon st b)).bus.ctl.number = some st := hown
  change execBeacon st b s = _
  simp only [execBeacon, hnum', hown', if_true]

theorem exec_beacon (hnum : s.Numbered) (hother : s.bus.ctl.number ≠ some st) (b : BeaconBody) :
    exec (.beacon st b) s = .next (((s.taken (.beacon st b)).raiseByBeacon b).takeBeacon st b) := by
  have hnum' : (s.taken (.beacon st b)).isNumbered = true := isNumbered_of hnum
  have hother' : (s.taken (.beacon st b)).bus.ctl.number ≠ some st := hother
  change execBeacon st b s = _
  simp only [execBeacon, hnum', if_neg hother', if_true]

theorem raiseByBeacon_rest (s : State) (b : BeaconBody) : s.raiseByBeacon b = { s with nums := (s.raiseByBeacon b).nums } := by
  unfold raiseByBeacon
  cases b.cls <;> rfl

theorem raiseByBeacon_next (s : State) (b : BeaconBody) : (s.raiseByBeacon b).nums.next = match b.cls with
    | .squeeze => max s.nums.next (min b.next 16777215)
    | .filing => max s.nums.next (min (b.next + 1) 16777215)
    | .console => s.nums.next := by
  unfold raiseByBeacon
  cases b.cls <;> rfl

theorem putPeer_new (h : s.peer st = none) (b : BeaconBody) :
    (s.putPeer st b).peers = s.peers ++ [⟨st, b.cls, b, 0, b.state == 2⟩] := by
  rw [putPeer, h]
  rfl

theorem putPeer_known (h : s.peer st = some old) (b : BeaconBody) : (s.putPeer st b).peers =
    s.peers.map fun p => if p.station = st then ⟨st, b.cls, b, 0, b.state == 2⟩ else p := by
  rw [putPeer, h]
  rfl

theorem peer_station (h : s.peer st = some old) : old.station = st := by
  have hfound : (old.station == st) = true := List.find?_some (p := fun p : Peer => p.station == st) h
  exact eq_of_beq hfound

/-! ### The neighbours told (R138) -/

theorem tellPresent_only (s : State) (cls : StationClass) : OnlyDeliv s (s.tellPresent cls) := by
  cases cls
  case filing =>
    have hrevived : OnlyDeliv s s.reviveStranded := rfl
    exact hrevived.trans (look_only _)
  case console => exact rfl
  case squeeze => exact .refl s

theorem when_only {f : State → State} (h : ∀ s, OnlyDeliv s (f s)) (cond : Bool) (s : State) : OnlyDeliv s (when cond f s) := by
  unfold when
  split
  · exact h s
  · exact .refl s

theorem tellChange_only (s : State) (old : Peer) (b : BeaconBody) : OnlyDeliv s (s.tellChange old b) := by
  have hpresent := when_only (f := (·.tellPresent b.cls)) (fun s => tellPresent_only s b.cls)
  have habsent := when_only (f := (·.tellAbsent old.station old.cls)) (fun s => tellAbsent_only s old.station old.cls)
  unfold tellChange
  split
  · split
    · exact habsent _ s
    · exact hpresent _ s
  · exact (habsent _ s).trans (hpresent _ _)

/-- A squeeze station that comes or goes has no neighbour to be told. -/
theorem tellChange_squeeze (hold : old.cls = .squeeze) (hb : b.cls = .squeeze) (s : State) : s.tellChange old b = s := by
  have hwhen : ∀ cond : Bool, when cond (fun s : State => s) s = s := fun cond => by cases cond <;> rfl
  rw [tellChange, if_pos (hold.trans hb.symm), hold, hb]
  split
  · exact hwhen _
  · exact hwhen _

/-- A peer that was absent, or unknown, and has not restarted is newly present (R137, R138). -/
theorem takeBeacon_appears (hactive : b.state = 2)
    (habsent : ∀ old, s.peer st = some old → old.present = false ∧ old.last.seconds ≤ b.seconds) :
    s.takeBeacon st b = (s.putPeer st b).tellPresent b.cls := by
  have hbeacon : beaconActive b = true := by simp [beaconActive, hactive]
  cases hpeer : s.peer st with
  | none => simp only [takeBeacon, hpeer, hbeacon, when_true]
  | some old =>
    obtain ⟨hpresent, hseconds⟩ := habsent old hpeer
    have hsame : showsRestart old b = false := by simpa [showsRestart] using hseconds
    simp only [takeBeacon, hpeer, hsame, when_false, tellChange, hpresent, hbeacon, when_true]
    split <;> simp

/-- A stranded letter no delivery is about joins the Delivery Queue again (R138, R187). -/
theorem filingPresent_revives (hx : s.letters[i] = some x) (hstate : x.state = .stranded)
    (hactive : ∀ a, s.deliv.active = some a → a.letter ≠ i) (hsuspended : ∀ n, s.deliv.suspended ≠ some (i, n)) :
    ∃ y, s.filingPresent.letters[i] = some y ∧ y.state = .closed ∧ y.attempts = 0 ∧ y.number = x.number ∧
      y.chain = x.chain := by
  have hrevived : s.reviveStranded.letters[i] = some { x with state := .closed, attempts := 0 } := by
    have hmap : s.reviveStranded.letters[i] = s.letters[i].map fun y =>
        if y.state = .stranded then { y with state := .closed, attempts := 0 } else y := Vector.getElem_map _ _
    rw [hmap, hx, Option.map_some, if_pos hstate]
  obtain ⟨p, hp⟩ := look_progress (s := s.reviveStranded) hactive hsuspended _ hrevived
  exact ⟨_, hp, rfl, rfl, rfl, rfl⟩

/-! ### A Beacon of a peer already known -/

/-- The station as the entry is about to be replaced: a restart, if there was one, has been seen (R139). -/
theorem takeBeacon_known (hpeer : s.peer st = some old) (b : BeaconBody) : ∃ r, RestartWork s r ∧
    s.takeBeacon st b = (r.putPeer st b).tellChange old b := by
  refine ⟨when (showsRestart old b) (·.seeRestart old) s, ?_, by simp only [takeBeacon, hpeer]⟩
  unfold when
  split
  · exact seeRestart_restartWork s old
  · exact .refl s

theorem takeBeacon_entry (hpeer : s.peer st = some old) (b : BeaconBody) : (s.takeBeacon st b).peers =
      s.peers.map (fun p => if p.station = st then ⟨st, b.cls, b, 0, b.state == 2⟩ else p) ∧
    (s.takeBeacon st b).nums.next = s.nums.next ∧ (s.takeBeacon st b).seg.mem = s.seg.mem := by
  obtain ⟨r, hwork, heq⟩ := takeBeacon_known hpeer b
  have honly := tellChange_only (r.putPeer st b) old b
  have hknown : r.peer st = some old := by rw [peer, hwork.peers]; exact hpeer
  rw [heq, honly.peers, honly.nums, honly.seg, putPeer_known hknown, hwork.peers]
  exact ⟨rfl, hwork.next, hwork.mem⟩

/-! ### A squeeze station restarts (R139, R170) -/

/-- The restart's event raised, and no transfer resolved yet. -/
def restartSeen (s : State) (st : Station) (b : BeaconBody) : State :=
  ((s.taken (.beacon st b)).raiseNext b.next).raise (.peerRestart st .squeeze)

theorem exec_beacon_restart (hnum : s.Numbered) (hother : s.bus.ctl.number ≠ some st) (hpeer : s.peer st = some old)
    (hold : old.cls = .squeeze) (hb : b.cls = .squeeze) (hseconds : b.seconds < old.last.seconds) :
    exec (.beacon st b) s = .next (((s.restartSeen st b).partnerRestart st).putPeer st b) := by
  have hraise : (s.taken (.beacon st b)).raiseByBeacon b = (s.taken (.beacon st b)).raiseNext b.next := by
    rw [raiseByBeacon, hb]
  have hpeer' : ((s.taken (.beacon st b)).raiseNext b.next).peer st = some old := hpeer
  have hrestart : showsRestart old b = true := by simpa [showsRestart] using hseconds
  have hseen : ((s.taken (.beacon st b)).raiseNext b.next).seeRestart old = (s.restartSeen st b).partnerRestart st := by
    rw [seeRestart, peer_station hpeer, hold]
    rfl
  rw [exec_beacon hnum hother b, hraise]
  simp only [takeBeacon, hpeer', hrestart, when_true, tellChange_squeeze hold hb, hseen]

theorem restartSeen_settings (s : State) (st : Station) (b : BeaconBody) :
    (s.restartSeen st b).bus.ctl.settings = s.bus.ctl.settings := by
  have hparts := Bus.raise_parts s.bus (.peerRestart st .squeeze)
  have hbus : (s.restartSeen st b).bus = s.bus.raise (.peerRestart st .squeeze) := rfl
  rw [hbus, hparts]

/-- A letter HELD since the restart was seen (R33). -/
theorem nowHeld_restartSeen (h : NowHeld i x (s.restartSeen st b) t) : NowHeld i x s t := by
  obtain ⟨hletter, hothers, hlines⟩ := h
  rw [restartSeen_settings] at hletter
  exact ⟨hletter, hothers, hlines⟩

theorem restart_told (hlen : s.bus.link.control.length ≤ 8) (hdest : s.bus.ctl.eventDest = some d) (b : BeaconBody) :
    ∃ seq, (((s.restartSeen st b).partnerRestart st).putPeer st b).InQueue d
      (.event 13 seq s.bus.ctl.seconds [BitVec.ofNat 8 st, 0#8]) :=
  ⟨_, (partnerRestart_restartWork (s.restartSeen st b) st).mem_control
    (Bus.raise_told (b := s.bus) (show _ < 16 by omega) hdest (.peerRestart st .squeeze))⟩

/-- The Control Queue's Fetch Cancels were there before the restart (R170). -/
theorem restart_cancels {q : QFrame} (hq : q ∈ (((s.restartSeen st b).partnerRestart st).putPeer st b).bus.link.control)
    (hkind : q.msg.kind = 0x01) : q ∈ s.bus.link.control := by
  have hafter := (partnerRestart_restartWork (s.restartSeen st b) st).control_old hq hkind
  exact (RestartWork.raised ((s.taken (.beacon st b)).raiseNext b.next) (.peerRestart st .squeeze)).control_old hafter hkind

/-- Settles O32: a new peer, a known one, the station's own Beacon, a peer newly present, and a restart. -/
theorem beaconTaken : Obligations.BeaconTaken := by
  unfold Obligations.BeaconTaken
  intro s st b hnum
  have hbefore := raiseByBeacon_rest (s.taken (.beacon st b)) b
  have hnext := raiseByBeacon_next (s.taken (.beacon st b)) b
  refine ⟨fun hother hpeer => ?fresh, fun old hother hpeer => ?known, fun hown => ?own, fun hother hactive habsent => ?appears,
    fun old hother hpeer hold hb hseconds hlen => ?restart⟩
  case fresh =>
    have hpeer' : ((s.taken (.beacon st b)).raiseByBeacon b).peer st = none := by rw [hbefore]; exact hpeer
    have htaken : ((s.taken (.beacon st b)).raiseByBeacon b).takeBeacon st b =
        when (beaconActive b) (·.tellPresent b.cls) (((s.taken (.beacon st b)).raiseByBeacon b).putPeer st b) := by
      simp only [takeBeacon, hpeer']
    have honly := when_only (fun s => tellPresent_only s b.cls) (beaconActive b)
      (((s.taken (.beacon st b)).raiseByBeacon b).putPeer st b)
    refine ⟨_, exec_beacon hnum hother b, ?_, ?_, fun a => ?_, ?_⟩ <;> rw [htaken]
    · rw [honly.peers, putPeer_new hpeer', hbefore]
      rfl
    · rw [honly.nums]
      exact hnext
    · rw [honly.seg]
      change Memory.read ((s.taken (.beacon st b)).raiseByBeacon b).seg.mem a = _
      rw [hbefore]
      rfl
    · have hlines : SameLines s (((s.taken (.beacon st b)).raiseByBeacon b).putPeer st b) := by
        rw [hbefore]
        exact ⟨rfl, rfl, rfl, rfl⟩
      exact hlines.trans honly.sameLines
  case known =>
    have hpeer' : ((s.taken (.beacon st b)).raiseByBeacon b).peer st = some old := by rw [hbefore]; exact hpeer
    obtain ⟨hpeers, hsame, hmem⟩ := takeBeacon_entry hpeer' b
    refine ⟨_, exec_beacon hnum hother b, ?_, ?_, fun a => ?_⟩
    · rw [hpeers, hbefore]
      rfl
    · rw [hsame]
      exact hnext
    · rw [hmem, hbefore]
      rfl
  case own =>
    exact ⟨_, exec_beacon_own hnum hown b, rfl, rfl, ⟨⟨rfl, rfl, rfl, rfl⟩, rfl, rfl, rfl, rfl⟩, rfl⟩
  case appears =>
    have hknown : ∀ old, ((s.taken (.beacon st b)).raiseByBeacon b).peer st = some old →
        old.present = false ∧ old.last.seconds ≤ b.seconds := by
      rw [hbefore]
      exact habsent
    have hexec := exec_beacon hnum hother b
    rw [takeBeacon_appears hactive hknown, hbefore] at hexec
    refine ⟨_, hexec, fun hcls => ?_, fun hcls i x hx hstate hrunning hsuspended => ?_⟩
    · rw [hcls]
      exact ⟨rfl, rfl, ⟨rfl, rfl, rfl, rfl⟩, rfl, rfl, rfl, rfl⟩
    · rw [hcls]
      exact filingPresent_revives hx hstate hrunning hsuspended
  case restart =>
    refine ⟨_, exec_beacon_restart hnum hother hpeer hold hb hseconds, fun d hdest => restart_told hlen hdest b,
      fun o x ho htaker hx hincoming hsettling => ?giver, fun c x hc hgiver hx houtgoing hsettling => ?taker,
      fun e x hsettling hgiver hx houtgoing hincoming => ?settles⟩
    case giver =>
      rw [partnerRestart_giver (s := s.restartSeen st b) ho htaker hincoming hsettling]
      exact ⟨nowHeld_restartSeen (returnHeld_held (s := s.restartSeen st b) hx), rfl, rfl, rfl⟩
    case taker =>
      have hcancels := fun q => restart_cancels (s := s) (st := st) (b := b) (q := q)
      rw [partnerRestart_taker (s := s.restartSeen st b) hc hgiver hx houtgoing hsettling] at hcancels ⊢
      obtain ⟨hfreed, hothers, hxfer, hreservation, -, -, hline, -⟩ :=
        incomingFail_failed (s := s.restartSeen st b) hc hx none .partnerRestarted
      exact ⟨hfreed, hothers, hxfer, hreservation, hline, hcancels⟩
    case settles =>
      rw [partnerRestart_settles (s := s.restartSeen st b) hsettling hgiver houtgoing hincoming]
      have hempty : (s.restartSeen st b).xfer.settling.filter (·.letter ≠ e.letter) = [] := by
        change s.xfer.settling.filter _ = []
        rw [hsettling]
        simp
      cases hline : s.attachingLine e.letter with
      | none =>
        obtain ⟨hheld, hxfer, -, hseg⟩ := settle_holds (s := s.restartSeen st b) hx hline
        rw [hempty] at hxfer
        generalize (s.restartSeen st b).settle e = v at *
        exact ⟨hxfer, hseg, fun _ => nowHeld_restartSeen hheld, fun l hl => absurd hl (by simp)⟩
      | some l =>
        have hdone := settle_lands (s := s.restartSeen st b) hx hline
        have hxfer := hdone.xfer
        rw [hempty] at hxfer
        generalize (s.restartSeen st b).settle e = v at *
        refine ⟨hxfer, hdone.seg, fun hnone => absurd hnone (by simp), fun l' hl => ?_⟩
        cases hl
        exact ⟨hdone.line, hdone.sounds, hdone.otherLines, hdone.letter, hdone.others⟩

end Sys2Proof.Machine.State
end

section
/-! The steps a clock owes, and what 10 µs and a millisecond of the timebase do (R69, R134, R138, R147, R151, R190). -/

namespace Sys2Proof.Machine.State

variable {s t u : State} {i : LetterIx} {l m : LineNo} {x : Letter} {r : Instr}

/-! ### Steps owed -/

/-- No step owed is forgotten. -/
def StillOwes (s t : State) : Prop := ∀ r ∈ s.reports, r ∈ t.reports

theorem StillOwes.refl (s : State) : StillOwes s s := fun _ h => h

theorem StillOwes.trans (h : StillOwes s t) (k : StillOwes t u) : StillOwes s u := fun r hr => k r (h r hr)

theorem StillOwes.of_append {rs : List Instr} (h : t.reports = s.reports ++ rs) : StillOwes s t := fun r hr => by
  rw [h]
  exact List.mem_append_left _ hr

/-- A step owed where a condition holds. -/
def owed (c : Bool) (r : Instr) : List Instr := if c then [r] else []

theorem mem_owed {c : Bool} (h : c = true) (r : Instr) : r ∈ owed c r := by simp [owed, h]

theorem reportIf_eq (c : Bool) (r : Instr) (s : State) :
    reportIf c r s = { s with reports := s.reports ++ owed c r } := by
  cases c
  · exact congrArg (fun rs => { s with reports := rs }) (List.append_nil _).symm
  · rfl

/-! ### One entry's turn in a round -/

/-- A round visits an entry once; what the other entries' turns leave of it holds before its turn and after. -/
theorem foldl_visits {α : Type} [DecidableEq α] {f : State → α → State} {a : α} {Away : State → State → Prop}
    (hrefl : ∀ s, Away s s) (htrans : ∀ s t u, Away s t → Away t u → Away s u)
    (haway : ∀ s b, b ≠ a → Away s (f s b)) {xs : List α} (hmem : a ∈ xs) (hnodup : xs.Nodup) (s : State) :
    ∃ u, Away s u ∧ Away (f u a) (xs.foldl f s) := by
  have hothers : ∀ (ys : List α) (s : State), a ∉ ys → Away s (ys.foldl f s) := by
    intro ys
    induction ys with
    | nil => exact fun s _ => hrefl s
    | cons y ys ih =>
      intro s hnot
      obtain ⟨hne, hrest⟩ := List.ne_and_not_mem_of_not_mem_cons hnot
      exact htrans _ _ _ (haway s y hne.symm) (ih (f s y) hrest)
  induction xs generalizing s with
  | nil => cases hmem
  | cons y ys ih =>
    obtain ⟨hnot, hrest⟩ := List.nodup_cons.mp hnodup
    rcases List.mem_cons.mp hmem with rfl | hin
    · exact ⟨s, hrefl s, hothers ys _ hnot⟩
    · have hne : y ≠ a := fun heq => hnot (heq ▸ hin)
      obtain ⟨u, hbefore, hafter⟩ := ih hin hrest (f s y)
      exact ⟨u, htrans _ _ _ (haway s y hne) hbefore, hafter⟩

/-- What every turn of a round does, the round does. -/
theorem foldl_only {α : Type} {f : State → α → State} {R : State → State → Prop} (hrefl : ∀ s, R s s)
    (htrans : ∀ s t u, R s t → R t u → R s u) (hstep : ∀ s a, R s (f s a)) (xs : List α) (s : State) : R s (xs.foldl f s) := by
  induction xs generalizing s with
  | nil => exact hrefl s
  | cons x xs ih => exact htrans _ _ _ (hstep s x) (ih (f s x))

/-! ### 10 µs: the objection window and the line-active inputs (R69, R151) -/

/-- Another line's entry of a table of lines. -/
theorem set_away {α : Type} (v : Vector α 8) (h : m ≠ l) (a : α) : (v.set m a)[l] = v[l] :=
  Vector.getElem_set_ne _ _ (Fin.val_inj.not.mpr h)

/-- Only the ports and the steps owed differ. -/
def OnlyPins (s t : State) : Prop := t = { s with ports := t.ports, reports := t.reports }

/-- A line's port is as it was, and the steps owed are still owed. -/
def PinAway (l : LineNo) (s t : State) : Prop := t.ports[l] = s.ports[l] ∧ StillOwes s t

/-- The line-active inputs of all lines at 10 µs (R69). -/
def pins (s : State) (levels : Vector Bool 8) : State := allLines.foldl (fun s l => s.linePin l levels[l]) s

theorem pins_only (s : State) (levels : Vector Bool 8) : OnlyPins s (s.pins levels) :=
  foldl_only (R := OnlyPins) (fun _ => rfl) (fun s t u h k => by unfold OnlyPins at *; rw [k, h])
    (fun s l => by rw [OnlyPins, linePin_eq]) allLines s

theorem pins_owes (s : State) (levels : Vector Bool 8) : StillOwes s (s.pins levels) :=
  foldl_only (R := StillOwes) StillOwes.refl (fun _ _ _ h k => h.trans k)
    (fun s l => .of_append (congrArg State.reports (linePin_eq s l _))) allLines s

theorem pins_line (s : State) (levels : Vector Bool 8) (l : LineNo) :
    (s.pins levels).ports[l] = { s.ports[l] with
      activeRun := if levels[l] = s.ports[l].active then 0 else s.ports[l].activeRun + 1 } ∧
    (levels[l] ≠ s.ports[l].active → 1999 ≤ s.ports[l].activeRun →
      (if levels[l] = true then Instr.lineActiveRising l else .lineClear l) ∈ (s.pins levels).reports) := by
  obtain ⟨u, ⟨hbefore, -⟩, hafter, howes⟩ := foldl_visits (f := fun s l => s.linePin l levels[l]) (Away := PinAway l)
    (fun s => ⟨rfl, .refl s⟩) (fun _ _ _ h k => ⟨k.1.trans h.1, h.2.trans k.2⟩)
    (fun s m hm => ⟨by rw [linePin_eq]; exact set_away s.ports hm _,
      .of_append (congrArg State.reports (linePin_eq s m _))⟩) (mem_allLines l) allLines_nodup s
  have hturn := linePin_eq u l levels[l]
  constructor
  · refine hafter.trans ?_
    rw [hturn, ← hbefore]
    exact Vector.getElem_set_self _
  · intro hlevel hrun
    refine howes _ ?_
    rw [hturn, hbefore]
    refine List.mem_append_right _ ?_
    rw [if_pos ⟨hlevel, Nat.succ_le_succ hrun⟩]
    exact List.mem_singleton_self _

/-! ### A millisecond (R70, R81, R134, R138, R147, R155, R158, R160, R164, R169, R176, R177, R180, R190) -/

/-- The steps that LISTEN and the seconds count owe at a millisecond. -/
def controlOwes (s : State) : List Instr :=
  owed (999 ≤ s.subMs) .secondsSinceResetTick ++ owed (runsOut s.bus.ctl.listen) .listenTimerExpiry

theorem controlMs_eq (s : State) : s.controlMs = { s with
    bus := { s.bus with ctl := { s.bus.ctl with listen := s.bus.ctl.listen.map (· - 1) } }
    subMs := if 999 ≤ s.subMs then 0 else s.subMs + 1
    reports := s.reports ++ controlOwes s } := by
  rw [controlOwes, ← List.append_assoc]
  by_cases h : 999 ≤ s.subMs
  · have hms : 1000 ≤ (s.onBus fun b => { b with ctl := { b.ctl with listen := down b.ctl.listen } }).subMs + 1 :=
      Nat.succ_le_succ h
    simp only [controlMs, reportIf_eq, if_pos h, if_pos hms, owed, decide_eq_true h, if_true]
    rfl
  · have hms : ¬1000 ≤ (s.onBus fun b => { b with ctl := { b.ctl with listen := down b.ctl.listen } }).subMs + 1 :=
      fun hle => h (Nat.le_of_succ_le_succ hle)
    simp only [controlMs, reportIf_eq, if_neg h, if_neg hms, owed, decide_eq_false h, Bool.false_eq_true, if_false,
      List.append_nil]
    rfl

/-- A line's context after a millisecond. -/
def lineDown (c : Line) : Line := { c with
  digitTimer := c.digitTimer.map (· - 1), waitTimer := c.waitTimer.map (· - 1), windTimer := c.windTimer.map (· - 1) }

/-- The steps a line's timers owe at a millisecond. -/
def lineOwes (l : LineNo) (c : Line) : List Instr :=
  owed (runsOut c.digitTimer) (if c.state = .seek then .seekDigitTimeout l else .authorDigitTimeout l) ++
    owed (runsOut c.waitTimer) (.waitTimerExpiry l) ++ owed (runsOut c.windTimer) (.windStep l)

theorem lineMs_eq (s : State) (l : LineNo) : s.lineMs l = { s with
    lines := s.lines.set l (lineDown s.lines[l]), reports := s.reports ++ lineOwes l s.lines[l] } := by
  simp only [lineMs, reportIf_eq, lineOwes, ← List.append_assoc, onLine]
  rfl

theorem letterMs_eq (s : State) (i : LetterIx) : s.letterMs i = { s.onLetter i (fun x => { x with held := x.held.map (· - 1) })
    with reports := s.reports ++ owed (runsOut (s.letters[i].bind (·.held))) (.heldTimerExpiry i) } := by
  simp only [letterMs, reportIf_eq]
  rfl

/-- The lines of the station at a millisecond. -/
def linesMs (s : State) : State := allLines.foldl lineMs s

/-- The letters of the station at a millisecond. -/
def lettersMs (s : State) : State := allLetters.foldl letterMs s

theorem linesMs_only (s : State) : s.linesMs = { s with lines := s.linesMs.lines, reports := s.linesMs.reports } ∧
    StillOwes s s.linesMs :=
  ⟨foldl_only (R := fun s t => t = { s with lines := t.lines, reports := t.reports }) (fun _ => rfl)
      (fun s t u h k => by rw [k, h]) (fun s l => by rw [lineMs_eq]) allLines s,
    foldl_only (R := StillOwes) StillOwes.refl (fun _ _ _ h k => h.trans k)
      (fun s l => .of_append (congrArg State.reports (lineMs_eq s l))) allLines s⟩

theorem linesMs_line (s : State) (l : LineNo) : s.linesMs.lines[l] = lineDown s.lines[l] ∧
    ∀ r ∈ lineOwes l s.lines[l], r ∈ s.linesMs.reports := by
  obtain ⟨u, ⟨hbefore, -⟩, hafter, howes⟩ := foldl_visits (f := lineMs)
    (Away := fun s t => t.lines[l] = s.lines[l] ∧ StillOwes s t) (fun s => ⟨rfl, .refl s⟩)
    (fun _ _ _ h k => ⟨k.1.trans h.1, h.2.trans k.2⟩)
    (fun s m hm => ⟨by rw [lineMs_eq]; exact set_away s.lines hm _,
      .of_append (congrArg State.reports (lineMs_eq s m))⟩) (mem_allLines l) allLines_nodup s
  have hturn := lineMs_eq u l
  constructor
  · refine hafter.trans ?_
    rw [hturn, ← hbefore]
    exact Vector.getElem_set_self _
  · intro r hr
    refine howes _ ?_
    rw [hturn, hbefore]
    exact List.mem_append_right _ hr

theorem lettersMs_only (s : State) : s.lettersMs = { s with letters := s.lettersMs.letters, reports := s.lettersMs.reports } ∧
    StillOwes s s.lettersMs :=
  ⟨foldl_only (R := fun s t => t = { s with letters := t.letters, reports := t.reports }) (fun _ => rfl)
      (fun s t u h k => by rw [k, h]) (fun s i => by rw [letterMs_eq]; rfl) allLetters s,
    foldl_only (R := StillOwes) StillOwes.refl (fun _ _ _ h k => h.trans k)
      (fun s i => .of_append (congrArg State.reports (letterMs_eq s i))) allLetters s⟩

theorem lettersMs_letter (s : State) (i : LetterIx) :
    s.lettersMs.letters[i] = s.letters[i].map (fun x => { x with held := x.held.map (· - 1) }) ∧
    (s.letters[i].bind (·.held) = some 1 → .heldTimerExpiry i ∈ s.lettersMs.reports) := by
  obtain ⟨u, ⟨hbefore, -⟩, hafter, howes⟩ := foldl_visits (f := letterMs)
    (Away := fun s t => t.letters[i] = s.letters[i] ∧ StillOwes s t) (fun s => ⟨rfl, .refl s⟩)
    (fun _ _ _ h k => ⟨k.1.trans h.1, h.2.trans k.2⟩)
    (fun s j hj => ⟨by rw [letterMs_eq]; exact onLetter_other s hj.symm _,
      .of_append (congrArg State.reports (letterMs_eq s j))⟩) (List.mem_finRange i) (List.nodup_finRange 64) s
  have hturn := letterMs_eq u i
  constructor
  · refine hafter.trans ?_
    rw [hturn, ← hbefore]
    exact onLetter_same u i _
  · intro hout
    refine howes _ ?_
    rw [hturn, hbefore, hout]
    exact List.mem_append_right _ (List.mem_singleton_self _)

/-- The steps the silence timers owe at a millisecond. -/
def peersOwes (ps : List Peer) : List Instr :=
  (ps.filter fun p => p.present && p.silence + 1 == 3500).map fun p => .silenceTimerExpiry p.station

theorem peersMs_eq (s : State) : s.peersMs = { s with
    peers := s.peers.map fun p => { p with silence := min 3500 (p.silence + 1) }
    reports := s.reports ++ peersOwes s.peers } := by
  rw [peersMs, reports_fold]
  rfl

/-- The steps the timers of numbering owe at a millisecond. -/
def numsOwes (n : Numbers) : List Instr :=
  owed (runsOut n.beacon) .beaconTimerExpiry ++ owed (runsOut n.wait) .claimWaitTimerExpiry

theorem numsMs_eq (s : State) : s.numsMs = { s with
    nums := { s.nums with beacon := s.nums.beacon.map (· - 1), wait := s.nums.wait.map (· - 1) }
    reports := s.reports ++ numsOwes s.nums } := by
  simp only [numsMs, reportIf_eq, numsOwes, ← List.append_assoc]
  rfl

/-- The transfer engine's timers after a millisecond. -/
def xferDown (x : Transfer) : Transfer := { x with
  collections := x.collections.map fun c => { c with timer := c.timer - 1 }
  incoming := x.incoming.map fun c => { c with timer := c.timer - 1 }
  settling := x.settling.map fun e => { e with timer := e.timer - 1 }
  outgoing := x.outgoing.map fun o => { o with timer := o.timer.map (· - 1) } }

/-- The steps the transfer engine's timers owe at a millisecond. -/
def xferOwes (x : Transfer) : List Instr :=
  (x.collections.filter (·.timer == 1)).map (fun c =>
      if c.collecting then .collectionWindowExpiry c.line else .locateQueuedTimeout c.line) ++
    owed (x.incoming.any fun c => c.timer == 1 && c.snapshot.isNone) .acceptTimerExpiry ++
    owed (x.incoming.any fun c => c.timer == 1 && c.snapshot.isSome) .receiveTimerExpiry ++
    (x.settling.filter (·.timer == 1)).map (fun e => .takeTimerExpiry e.number) ++
    owed (x.outgoing.any fun o => runsOut o.timer) .checkTimerExpiry

theorem xferMs_eq (s : State) : s.xferMs = { s with xfer := xferDown s.xfer, reports := s.reports ++ xferOwes s.xfer } := by
  simp only [xferMs, reportIf_eq, reports_fold, xferOwes, ← List.append_assoc, onXfer, xferDown, down]

/-- The delivery engine's timers after a millisecond. -/
def delivDown (d : Delivery) : Delivery := { d with
  active := d.active.map fun a => { a with timer := a.timer.map (· - 1) }, retry := d.retry.map (· - 1) }

/-- The steps the delivery engine's timers owe at a millisecond. -/
def delivOwes (d : Delivery) : List Instr :=
  owed (d.active.any fun a => runsOut a.timer && a.phase != .ended) .offerAnswerTimeout ++
    owed (d.active.any fun a => runsOut a.timer && a.phase == .ended) .letterEndAnswerTimeout ++
    owed (runsOut d.retry) .retryTimerExpiry

theorem delivMs_eq (s : State) : s.delivMs = { s with deliv := delivDown s.deliv, reports := s.reports ++ delivOwes s.deliv } := by
  simp only [delivMs, reportIf_eq, delivOwes, ← List.append_assoc, onDeliv]
  rfl

end Sys2Proof.Machine.State
end

section
/-! 10 µs of the timebase, whole (R69, R131, R134, R138, R147, R151, R190). -/

namespace Sys2Proof.Machine.State

variable {s t : State} {i : LetterIx} {l : LineNo} {x : Letter} {r : Instr}

/-- What a millisecond leaves: every timer is down by 1, and the rows of those that ran out are owed. -/
structure MillisecondOver (s t : State) : Prop where
  lines : ∀ l : LineNo, t.lines[l] = lineDown s.lines[l]
  lineOwes : ∀ l : LineNo, ∀ r ∈ lineOwes l s.lines[l], r ∈ t.reports
  letters : ∀ i : LetterIx, t.letters[i] = s.letters[i].map fun x => { x with held := x.held.map (· - 1) }
  letterOwes : ∀ i : LetterIx, s.letters[i].bind (·.held) = some 1 → .heldTimerExpiry i ∈ t.reports
  rest : t = { s with
    lines := t.lines
    letters := t.letters
    bus := { s.bus with ctl := { s.bus.ctl with listen := s.bus.ctl.listen.map (· - 1) } }
    subMs := if 999 ≤ s.subMs then 0 else s.subMs + 1
    peers := s.peers.map fun p => { p with silence := min 3500 (p.silence + 1) }
    nums := { s.nums with beacon := s.nums.beacon.map (· - 1), wait := s.nums.wait.map (· - 1) }
    xfer := xferDown s.xfer
    deliv := delivDown s.deliv
    reports := t.reports }
  owes : ∀ r ∈ s.reports ++ controlOwes s ++ peersOwes s.peers ++ numsOwes s.nums ++ xferOwes s.xfer ++ delivOwes s.deliv,
    r ∈ t.reports

/-- The timers of the units after those of the lines and the letters. -/
theorem unitsMs_eq (s : State) : s.peersMs.numsMs.xferMs.delivMs = { s with
    peers := s.peers.map fun p => { p with silence := min 3500 (p.silence + 1) }
    nums := { s.nums with beacon := s.nums.beacon.map (· - 1), wait := s.nums.wait.map (· - 1) }
    xfer := xferDown s.xfer
    deliv := delivDown s.deliv
    reports := s.reports ++ peersOwes s.peers ++ numsOwes s.nums ++ xferOwes s.xfer ++ delivOwes s.deliv } := by
  rw [delivMs_eq, xferMs_eq, numsMs_eq, peersMs_eq]

theorem millisecond_over (s : State) : MillisecondOver s s.millisecond := by
  have hstages : s.millisecond = s.controlMs.linesMs.lettersMs.peersMs.numsMs.xferMs.delivMs := rfl
  obtain ⟨hlines, hlinesOwe⟩ := linesMs_only s.controlMs
  obtain ⟨hletters, hlettersOwe⟩ := lettersMs_only s.controlMs.linesMs
  have hline := linesMs_line s.controlMs
  have hletter := lettersMs_letter s.controlMs.linesMs
  have hsame : s.controlMs.linesMs.letters = s.letters := by
    rw [hlines, controlMs_eq]
  have hcontrol : s.controlMs.lines = s.lines := by rw [controlMs_eq]
  have hcontrolOwes : s.controlMs.reports = s.reports ++ controlOwes s := by rw [controlMs_eq]
  have hafter : s.controlMs.linesMs.lettersMs = { s.controlMs with
      lines := s.controlMs.linesMs.lines
      letters := s.controlMs.linesMs.lettersMs.letters
      reports := s.controlMs.linesMs.lettersMs.reports } := by
    rw [hletters, hlines]
  rw [hstages, unitsMs_eq]
  rw [hsame] at hletter
  rw [hcontrol] at hline
  generalize s.controlMs.linesMs.lettersMs = v at *
  generalize s.controlMs.linesMs = w at *
  rw [controlMs_eq] at hafter
  have hlast : StillOwes v { v with
      peers := v.peers.map fun p => { p with silence := min 3500 (p.silence + 1) }
      nums := { v.nums with beacon := v.nums.beacon.map (· - 1), wait := v.nums.wait.map (· - 1) }
      xfer := xferDown v.xfer
      deliv := delivDown v.deliv
      reports := v.reports ++ peersOwes v.peers ++ numsOwes v.nums ++ xferOwes v.xfer ++ delivOwes v.deliv } := fun r hr => by
    simp only [List.mem_append]
    exact .inl (.inl (.inl (.inl hr)))
  have hvlines : v.lines = w.lines := by rw [hafter]
  have hpeers : v.peers = s.peers := by rw [hafter]
  have hnums : v.nums = s.nums := by rw [hafter]
  have hxfer : v.xfer = s.xfer := by rw [hafter]
  have hdeliv : v.deliv = s.deliv := by rw [hafter]
  refine ⟨fun l => ?_, fun l r hr => hlast r (hlettersOwe r ((hline l).2 r hr)), fun i => (hletter i).1,
    fun i hi => hlast _ ((hletter i).2 hi), ?_, fun r hr => ?_⟩
  · change v.lines[l] = _
    rw [hvlines]
    exact (hline l).1
  · rw [hpeers, hnums, hxfer, hdeliv]
    generalize v.reports ++ _ = rs
    generalize v.letters = ls at hafter ⊢
    generalize w.lines = ws at hafter hvlines
    generalize v.reports = vs at hafter
    subst hafter
    rfl
  · simp only [List.mem_append] at hr ⊢
    rw [hpeers, hnums, hxfer, hdeliv]
    rcases hr with ((((hr | hr) | hr) | hr) | hr) | hr
    · exact .inl (.inl (.inl (.inl (hlettersOwe r (hlinesOwe r (hcontrolOwes ▸ List.mem_append_left _ hr))))))
    · exact .inl (.inl (.inl (.inl (hlettersOwe r (hlinesOwe r (hcontrolOwes ▸ List.mem_append_right _ hr))))))
    · exact .inl (.inl (.inl (.inr hr)))
    · exact .inl (.inl (.inr hr))
    · exact .inl (.inr hr)
    · exact .inr hr

end Sys2Proof.Machine.State
end

section
/-! A tick of the timebase (R69, R131, R134, R138, R147, R151, R155, R190). -/

namespace Sys2Proof.Machine.State

variable {s t : State} {i : LetterIx} {l : LineNo} {x : Letter} {r : Instr} {rest : List Tick} {levels : Vector Bool 8}

/-- The station after its 10 µs counts, before the millisecond that they may complete. -/
def tenUnits (s : State) (levels : Vector Bool 8) (rest : List Tick) : State :=
  ({ s with ticks := rest } : State).paceLink.windowUnits.pins levels

theorem tick_running (hrun : s.resetHeld = false) (x : Tick) (rest : List Tick) : s.tick x rest = s.clockTick x rest :=
  if_neg (by simp [hrun])

theorem tick_timebase (hrun : s.resetHeld = false) (levels : Vector Bool 8) (rest : List Tick) :
    s.tick (.timebase levels) rest = if 99 ≤ s.sub10us then ({ s.tenUnits levels rest with sub10us := 0 } : State).millisecond
      else { s.tenUnits levels rest with sub10us := s.sub10us + 1 } := by
  have hcount : (s.tenUnits levels rest).sub10us = s.sub10us := by
    rw [tenUnits, pins_only, windowUnits_eq]
    rfl
  have hticks : s.tick (.timebase levels) rest = if 100 ≤ (s.tenUnits levels rest).sub10us + 1 then
      ({ s.tenUnits levels rest with sub10us := 0 } : State).millisecond
      else { s.tenUnits levels rest with sub10us := (s.tenUnits levels rest).sub10us + 1 } := by
    rw [tick_running hrun]
    rfl
  rw [hticks, hcount]
  by_cases h : 99 ≤ s.sub10us
  · rw [if_pos h, if_pos (Nat.succ_le_succ h)]
  · rw [if_neg h, if_neg fun hle => h (Nat.le_of_succ_le_succ hle)]

theorem tenUnits_rest (s : State) (levels : Vector Bool 8) (rest : List Tick) : s.tenUnits levels rest = { s with
    ticks := rest
    bus := { s.bus with link := { s.bus.link with
      lastDelivery := s.bus.link.lastDelivery.map fun d => (d.1, min 255 (d.2 + 1)) } }
    nums := { s.nums with window := s.nums.window.map fun e => { e with left := e.left - 1 } }
    ports := (s.tenUnits levels rest).ports
    reports := (s.tenUnits levels rest).reports } := by
  have honly := pins_only ({ s with ticks := rest } : State).paceLink.windowUnits levels
  have heq : s.tenUnits levels rest = ({ s with ticks := rest } : State).paceLink.windowUnits.pins levels := rfl
  rw [← heq] at honly
  generalize s.tenUnits levels rest = v at *
  rw [OnlyPins, windowUnits_eq] at honly
  exact honly

theorem tenUnits_line (s : State) (levels : Vector Bool 8) (rest : List Tick) (l : LineNo) :
    (s.tenUnits levels rest).ports[l] = { s.ports[l] with
      activeRun := if levels[l] = s.ports[l].active then 0 else s.ports[l].activeRun + 1 } ∧
    (levels[l] ≠ s.ports[l].active → 1999 ≤ s.ports[l].activeRun →
      (if levels[l] = true then Instr.lineActiveRising l else .lineClear l) ∈ (s.tenUnits levels rest).reports) := by
  have hline := pins_line ({ s with ticks := rest } : State).paceLink.windowUnits levels l
  have hports : ({ s with ticks := rest } : State).paceLink.windowUnits.ports = s.ports := by rw [windowUnits_eq]; rfl
  rw [hports] at hline
  exact hline

theorem tenUnits_window (s : State) (levels : Vector Bool 8) (rest : List Tick) {e : WindowEntry} (he : e ∈ s.nums.window)
    (hleft : e.left = 1) : .objectionWindowExpiry e.number ∈ (s.tenUnits levels rest).reports := by
  refine pins_owes _ levels _ ?_
  rw [windowUnits_eq]
  refine List.mem_append_right _ (List.mem_map_of_mem (List.mem_filter.mpr ⟨he, ?_⟩))
  rw [hleft]
  rfl

/-- What a tick of the timebase leaves whether or not it completes a millisecond. -/
theorem timebase_keeps (hrun : s.resetHeld = false) (levels : Vector Bool 8) (rest : List Tick) :
    StillOwes (s.tenUnits levels rest) (s.tick (.timebase levels) rest) ∧
    (s.tick (.timebase levels) rest).ports = (s.tenUnits levels rest).ports ∧
    (s.tick (.timebase levels) rest).bus.link = (s.tenUnits levels rest).bus.link ∧
    (s.tick (.timebase levels) rest).coders = s.coders ∧ (s.tick (.timebase levels) rest).tones = s.tones ∧
    (s.tick (.timebase levels) rest).seg = s.seg ∧ (s.tick (.timebase levels) rest).ticks = rest ∧
    (s.tick (.timebase levels) rest).pending = s.pending := by
  have hten := tenUnits_rest s levels rest
  rw [tick_timebase hrun]
  generalize s.tenUnits levels rest = v at *
  have hsame : v.coders = s.coders ∧ v.tones = s.tones ∧ v.seg = s.seg ∧ v.ticks = rest ∧ v.pending = s.pending := by
    rw [hten]
    exact ⟨rfl, rfl, rfl, rfl, rfl⟩
  split
  · have hover := millisecond_over ({ v with sub10us := 0 } : State)
    refine ⟨fun r hr => hover.owes r ?_, ?_⟩
    · simp only [List.mem_append]
      exact .inl (.inl (.inl (.inl (.inl hr))))
    · rw [hover.rest]
      exact ⟨rfl, rfl, hsame⟩
  · exact ⟨.refl v, rfl, rfl, hsame⟩

/-- The bank of clauses for 10 µs that complete no millisecond. -/
theorem timebase_between (hrun : s.resetHeld = false) (levels : Vector Bool 8) (rest : List Tick) (hcount : s.sub10us < 99) :
    s.tick (.timebase levels) rest = { s with
      ticks := rest
      bus := { s.bus with link := { s.bus.link with
        lastDelivery := s.bus.link.lastDelivery.map fun d => (d.1, min 255 (d.2 + 1)) } }
      nums := { s.nums with window := s.nums.window.map fun e => { e with left := e.left - 1 } }
      ports := (s.tick (.timebase levels) rest).ports
      sub10us := s.sub10us + 1
      reports := (s.tick (.timebase levels) rest).reports } := by
  have hten := tenUnits_rest s levels rest
  rw [tick_timebase hrun, if_neg (Nat.not_le.mpr hcount)]
  generalize s.tenUnits levels rest = v at *
  generalize v.ports = ps at *
  generalize v.reports = rs at *
  subst hten
  rfl

/-- What a tick that completes a millisecond leaves. -/
theorem timebase_millisecond (hrun : s.resetHeld = false) (levels : Vector Bool 8) (rest : List Tick) (hcount : 99 ≤ s.sub10us) :
    MillisecondOver { s.tenUnits levels rest with sub10us := 0 } (s.tick (.timebase levels) rest) := by
  rw [tick_timebase hrun, if_pos hcount]
  exact millisecond_over _

theorem runsOut_iff {t : Option Nat} : runsOut t = true ↔ t = some 1 := by
  unfold runsOut
  exact beq_iff_eq

/-! ### The rows each unit's timers owe -/

theorem mem_lineOwes (l : LineNo) (c : Line) :
    (c.digitTimer = some 1 → (if c.state = .seek then Instr.seekDigitTimeout l else .authorDigitTimeout l) ∈ lineOwes l c) ∧
    (c.waitTimer = some 1 → .waitTimerExpiry l ∈ lineOwes l c) ∧ (c.windTimer = some 1 → .windStep l ∈ lineOwes l c) := by
  simp only [lineOwes, List.mem_append]
  exact ⟨fun h => .inl (.inl (mem_owed (runsOut_iff.mpr h) _)), fun h => .inl (.inr (mem_owed (runsOut_iff.mpr h) _)),
    fun h => .inr (mem_owed (runsOut_iff.mpr h) _)⟩

theorem mem_peersOwes {ps : List Peer} {p : Peer} (hp : p ∈ ps) (hpresent : p.present = true) (hsilence : p.silence = 3499) :
    .silenceTimerExpiry p.station ∈ peersOwes ps := by
  refine List.mem_map_of_mem (f := fun p : Peer => Instr.silenceTimerExpiry p.station) (List.mem_filter.mpr ⟨hp, ?_⟩)
  rw [hpresent, hsilence]
  rfl

theorem mem_numsOwes (n : Numbers) : (n.beacon = some 1 → .beaconTimerExpiry ∈ numsOwes n) ∧
    (n.wait = some 1 → .claimWaitTimerExpiry ∈ numsOwes n) := by
  simp only [numsOwes, List.mem_append]
  exact ⟨fun h => .inl (mem_owed (runsOut_iff.mpr h) _), fun h => .inr (mem_owed (runsOut_iff.mpr h) _)⟩

theorem mem_controlOwes (s : State) : (s.bus.ctl.listen = some 1 → .listenTimerExpiry ∈ controlOwes s) ∧
    (999 ≤ s.subMs → .secondsSinceResetTick ∈ controlOwes s) := by
  simp only [controlOwes, List.mem_append]
  exact ⟨fun h => .inr (mem_owed (runsOut_iff.mpr h) _), fun h => .inl (mem_owed (decide_eq_true h) _)⟩

theorem mem_xferOwes (x : Transfer) :
    (∀ c ∈ x.collections, c.timer = 1 →
      (if c.collecting = true then Instr.collectionWindowExpiry c.line else .locateQueuedTimeout c.line) ∈ xferOwes x) ∧
    (∀ c, x.incoming = some c → c.timer = 1 →
      (if c.snapshot = none then Instr.acceptTimerExpiry else .receiveTimerExpiry) ∈ xferOwes x) ∧
    (∀ e ∈ x.settling, e.timer = 1 → .takeTimerExpiry e.number ∈ xferOwes x) ∧
    (∀ o, x.outgoing = some o → o.timer = some 1 → .checkTimerExpiry ∈ xferOwes x) := by
  simp only [xferOwes, List.mem_append]
  refine ⟨fun c hc htimer => .inl (.inl (.inl (.inl ?_))), fun c hc htimer => ?_, fun e he htimer => .inl (.inr ?_),
    fun o ho htimer => .inr (mem_owed ?_ _)⟩
  · exact List.mem_map_of_mem
      (f := fun c : Collection => if c.collecting then Instr.collectionWindowExpiry c.line else .locateQueuedTimeout c.line)
      (List.mem_filter.mpr ⟨hc, by simp [htimer]⟩)
  · cases hsnap : c.snapshot with
    | none => exact .inl (.inl (.inl (.inr (mem_owed (by simp [hc, htimer, hsnap]) _))))
    | some p => exact .inl (.inl (.inr (mem_owed (by simp [hc, htimer, hsnap]) _)))
  · exact List.mem_map_of_mem (f := fun e : Settle => Instr.takeTimerExpiry e.number)
      (List.mem_filter.mpr ⟨he, by simp [htimer]⟩)
  · rw [ho, Option.any_some]
    exact runsOut_iff.mpr htimer

theorem mem_delivOwes (d : Delivery) :
    (∀ a, d.active = some a → a.timer = some 1 →
      (if a.phase = .ended then Instr.letterEndAnswerTimeout else .offerAnswerTimeout) ∈ delivOwes d) ∧
    (d.retry = some 1 → .retryTimerExpiry ∈ delivOwes d) := by
  simp only [delivOwes, List.mem_append]
  refine ⟨fun a ha htimer => .inl ?_, fun h => .inr (mem_owed (runsOut_iff.mpr h) _)⟩
  have hout : runsOut a.timer = true := runsOut_iff.mpr htimer
  by_cases hended : a.phase = .ended
  · rw [if_pos hended]
    exact .inr (mem_owed (by simp [ha, hout, hended]) _)
  · rw [if_neg hended]
    exact .inl (mem_owed (by simp [ha, hout, hended]) _)

end Sys2Proof.Machine.State
end

section
/-! A bus bit, and a frame sync on every line (R52, R65, R101, R102, R105, R111, R120, R122, R124). -/

namespace Sys2Proof.Machine.State

variable {s t u : State} {l m : LineNo} {r : Instr} {rest : List Tick} {others disturbed : Bool}

/-! ### What a bit in a frame owes (R114 to R118) -/

theorem receiveBit_owes (s : State) (f : Scan) (level : Bool) : StillOwes s (s.receiveBit f level) := by
  unfold receiveBit
  split
  · exact .refl s
  · exact .of_append rfl
  · exact .of_append rfl

theorem sendBit_owes (s : State) (f : Scan) (sent level : Bool) : StillOwes s (s.sendBit f sent level) := by
  unfold sendBit
  split
  · have hlost : StillOwes s (s.report .lostArbitration) := .of_append rfl
    exact hlost.trans (receiveBit_owes _ _ _)
  · exact .of_append rfl
  · split
    · exact .refl s
    · exact .of_append rfl
    · exact .of_append rfl

theorem reportIf_owes (c : Bool) (r : Instr) (s : State) : StillOwes s (reportIf c r s) := by
  rw [reportIf_eq]
  exact .of_append rfl

theorem reportIf_told {c : Bool} (h : c = true) (r : Instr) (s : State) : r ∈ (reportIf c r s).reports := by
  rw [reportIf_eq]
  exact List.mem_append_right _ (mem_owed h r)

theorem viewBit_owes (s : State) (sent level : Bool) (run : Nat) : StillOwes s (s.viewBit sent level run) := by
  unfold viewBit
  split
  · split
    · exact reportIf_owes _ _ (s.onBus (Bus.onLink fun k => { k with holdOff := down k.holdOff }))
    · exact receiveBit_owes (s.onBus (Bus.onLink fun k => { k with view := .inFrame, holdOff := none })) .empty false
  · split
    · split
      · exact sendBit_owes _ _ _ _
      · exact receiveBit_owes _ _ _
    · exact .refl s
  · exact reportIf_owes _ _ _
  · exact reportIf_owes _ _ _
  · exact reportIf_owes _ _ _

/-! ### A bus bit (R110, R111, R120, R124) -/

/-- The station with the runs of a bit counted. -/
def bitCounted (s : State) (level : Bool) (rest : List Tick) : State :=
  ({ s with ticks := rest } : State).onBus (Bus.onLink fun k => stepRuns level (stepBurst k))

theorem tick_busBit (hrun : s.resetHeld = false) (hnum : s.Numbered) (hdue : s.startDue = none) (others disturbed : Bool)
    (rest : List Tick) : s.tick (.busBit others disturbed) rest =
      if (s.bitCounted ((others && s.drives) != disturbed) rest).stepRecovery.bus.link.dominantRun = 64 then
        (s.bitCounted ((others && s.drives) != disturbed) rest).stepRecovery.report .stuckEvent
      else (s.bitCounted ((others && s.drives) != disturbed) rest).stepRecovery.viewBit s.drives
        ((others && s.drives) != disturbed)
        (s.bitCounted ((others && s.drives) != disturbed) rest).bus.link.recessiveRun := by
  have hnum' : ({ s with ticks := rest } : State).isNumbered = true := isNumbered_of (s := { s with ticks := rest }) hnum
  have htick : s.tick (.busBit others disturbed) rest = ({ s with ticks := rest } : State).busBit others disturbed := by
    rw [tick_running hrun]
    simp only [clockTick, hdue]
  rw [htick, busBit, if_pos hnum']
  rfl

theorem stepBurst_keeps (k : Link) : (stepBurst k).view = k.view ∧ (stepBurst k).holdOff = k.holdOff ∧
    (stepBurst k).state = k.state ∧ (stepBurst k).recoveryRuns = k.recoveryRuns ∧
    (stepBurst k).recessiveRun = k.recessiveRun ∧ (stepBurst k).dominantRun = k.dominantRun := by
  unfold stepBurst
  split <;> exact ⟨rfl, rfl, rfl, rfl, rfl, rfl⟩

theorem bitCounted_link (s : State) (level : Bool) (rest : List Tick) :
    (s.bitCounted level rest).bus.link.view = s.bus.link.view ∧
    (s.bitCounted level rest).bus.link.holdOff = s.bus.link.holdOff ∧
    (s.bitCounted level rest).bus.link.state = s.bus.link.state ∧
    (s.bitCounted level rest).bus.link.recoveryRuns = s.bus.link.recoveryRuns ∧
    (s.bitCounted level rest).bus.link.recessiveRun = (if level then min 16 (s.bus.link.recessiveRun + 1) else 0) ∧
    (s.bitCounted level rest).bus.link.dominantRun = (if level then 0 else s.bus.link.dominantRun + 1) := by
  obtain ⟨hview, hhold, hstate, hruns, hrecessive, hdominant⟩ := stepBurst_keeps s.bus.link
  rw [← hview, ← hhold, ← hstate, ← hruns, ← hrecessive, ← hdominant]
  exact ⟨rfl, rfl, rfl, rfl, rfl, rfl⟩

theorem stepRecovery_keeps (s : State) : s.stepRecovery.bus.link.view = s.bus.link.view ∧
    s.stepRecovery.bus.link.holdOff = s.bus.link.holdOff ∧ s.stepRecovery.bus.link.dominantRun = s.bus.link.dominantRun := by
  unfold stepRecovery
  split
  · rw [reportIf_eq]
    exact ⟨rfl, rfl, rfl⟩
  · exact ⟨rfl, rfl, rfl⟩

theorem stepRecovery_told (hdetached : s.isDetached = true) (hrun : s.bus.link.recessiveRun = 16)
    (hruns : s.bus.link.recoveryRuns = 95) : .linkRecovery ∈ s.stepRecovery.reports := by
  rw [stepRecovery, if_pos ⟨hdetached, hrun⟩]
  exact reportIf_told (by rw [hruns]; rfl) _ _

/-- A recessive bit: the recovery run is counted, and the bus view takes its step (R111, R124). -/
theorem busBit_recessive (hrun : s.resetHeld = false) (hnum : s.Numbered) (hdue : s.startDue = none)
    (hlevel : ((others && s.drives) != disturbed) = true) (rest : List Tick) : s.tick (.busBit others disturbed) rest =
      (s.bitCounted true rest).stepRecovery.viewBit s.drives true (min 16 (s.bus.link.recessiveRun + 1)) := by
  obtain ⟨-, -, -, -, hrecessive, hdominant⟩ := bitCounted_link s true rest
  obtain ⟨-, -, hsame⟩ := stepRecovery_keeps (s.bitCounted true rest)
  rw [tick_busBit hrun hnum hdue, hlevel, hsame, hdominant, hrecessive]
  rfl

/-- A bus view that waits for a run of recessive bits has it (R111). -/
theorem busBit_idles (hrun : s.resetHeld = false) (hnum : s.Numbered) (hdue : s.startDue = none)
    (hlevel : ((others && s.drives) != disturbed) = true)
    (hview : (8 ≤ s.bus.link.recessiveRun ∧ (s.bus.link.view = .joining ∨ s.bus.link.view = .errorWait)) ∨
      (15 ≤ s.bus.link.recessiveRun ∧ s.bus.link.view = .stuckWait)) (rest : List Tick) :
    .busViewIdle ∈ (s.tick (.busBit others disturbed) rest).reports := by
  obtain ⟨hsame, -⟩ := stepRecovery_keeps (s.bitCounted true rest)
  obtain ⟨hbefore, -⟩ := bitCounted_link s true rest
  have hkept := hsame.trans hbefore
  rw [busBit_recessive hrun hnum hdue hlevel]
  generalize (s.bitCounted true rest).stepRecovery = v at *
  rcases hview with ⟨hlen, hjoining | hwaiting⟩ | ⟨hlen, hstuck⟩
  · simp only [viewBit, hkept, hjoining]
    exact reportIf_told (decide_eq_true (by omega)) _ _
  · simp only [viewBit, hkept, hwaiting]
    exact reportIf_told (decide_eq_true (by omega)) _ _
  · simp only [viewBit, hkept, hstuck]
    exact reportIf_told (decide_eq_true (by omega)) _ _

/-- An idle bit takes the last unit of the hold-off (R122). -/
theorem busBit_holdOff (hrun : s.resetHeld = false) (hnum : s.Numbered) (hdue : s.startDue = none)
    (hlevel : ((others && s.drives) != disturbed) = true) (hview : s.bus.link.view = .idle)
    (hhold : s.bus.link.holdOff = some 1) (rest : List Tick) :
    .holdOffExpiry ∈ (s.tick (.busBit others disturbed) rest).reports := by
  obtain ⟨hsame, hsameHold, -⟩ := stepRecovery_keeps (s.bitCounted true rest)
  obtain ⟨hbefore, hbeforeHold, -⟩ := bitCounted_link s true rest
  have hkept := (hsame.trans hbefore).trans hview
  have hheld := (hsameHold.trans hbeforeHold).trans hhold
  rw [busBit_recessive hrun hnum hdue hlevel]
  generalize (s.bitCounted true rest).stepRecovery = v at *
  simp only [viewBit, hkept, if_true, idleBit]
  exact reportIf_told (runsOut_iff.mpr hheld) _ _

/-- The 96th recovery run of a DETACHED link (R124). -/
theorem busBit_recovers (hrun : s.resetHeld = false) (hnum : s.Numbered) (hdue : s.startDue = none)
    (hlevel : ((others && s.drives) != disturbed) = true) (hdetached : s.isDetached = true)
    (hlen : 15 ≤ s.bus.link.recessiveRun) (hruns : s.bus.link.recoveryRuns = 95) (rest : List Tick) :
    .linkRecovery ∈ (s.tick (.busBit others disturbed) rest).reports := by
  obtain ⟨-, -, hstate, hrecovery, hrecessive, -⟩ := bitCounted_link s true rest
  have hdetached' : (s.bitCounted true rest).isDetached = true := by
    rw [isDetached, hstate]
    exact hdetached
  have hsixteen : (s.bitCounted true rest).bus.link.recessiveRun = 16 := by
    rw [hrecessive, if_pos rfl]
    omega
  rw [busBit_recessive hrun hnum hdue hlevel]
  exact viewBit_owes _ _ _ _ _ (stepRecovery_told hdetached' hsixteen (hrecovery.trans hruns))

/-- The 64th dominant bit in a row (R120). -/
theorem busBit_stuck (hrun : s.resetHeld = false) (hnum : s.Numbered) (hdue : s.startDue = none)
    (hlevel : ((others && s.drives) != disturbed) = false) (hlen : s.bus.link.dominantRun = 63) (rest : List Tick) :
    .stuckEvent ∈ (s.tick (.busBit others disturbed) rest).reports := by
  obtain ⟨-, -, -, -, -, hdominant⟩ := bitCounted_link s false rest
  obtain ⟨-, -, hsame⟩ := stepRecovery_keeps (s.bitCounted false rest)
  have hstuck : (s.bitCounted false rest).stepRecovery.bus.link.dominantRun = 64 := by
    rw [hsame, hdominant, hlen]
    rfl
  rw [tick_busBit hrun hnum hdue, hlevel, if_pos hstuck]
  exact List.mem_append_right _ (List.mem_singleton_self _)

/-! ### A frame sync on one line (R52, R65, R101, R105) -/

/-- A prompt after a sample: one that has run out stays, with nothing left, until its end is taken (R105). -/
def promptAfter (p : PromptRun) : PromptRun := p.next.getD { p with left := 0 }

theorem stepPrompt_line (s : State) (l : LineNo) :
    (s.stepPrompt l).tones[l] = { s.tones[l] with prompt := s.tones[l].prompt.map promptAfter } ∧
    (s.stepPrompt l).ports = s.ports ∧ StillOwes s (s.stepPrompt l) ∧
    (∀ p, s.tones[l].prompt = some p → p.next = none → .promptEnded l ∈ (s.stepPrompt l).reports) := by
  cases hprompt : s.tones[l].prompt with
  | none =>
    have heq : s.stepPrompt l = s := by simp only [stepPrompt, hprompt]
    rw [heq]
    refine ⟨?_, rfl, .refl s, fun p hp => absurd hp (by simp)⟩
    rw [Option.map_none, ← hprompt]
  | some p =>
    cases hnext : p.next with
    | some q =>
      have heq : s.stepPrompt l = s.onTone l fun t => { t with prompt := some q } := by simp only [stepPrompt, hprompt, hnext]
      have hafter : promptAfter p = q := by rw [promptAfter, hnext, Option.getD_some]
      rw [heq, Option.map_some, hafter]
      refine ⟨onTone_same s l _, rfl, .refl s, fun p' hp hnone => ?_⟩
      cases hp
      rw [hnext] at hnone
      cases hnone
    | none =>
      have heq : s.stepPrompt l = (s.onTone l fun t => { t with prompt := some { p with left := 0 } }).report (.promptEnded l) := by
        simp only [stepPrompt, hprompt, hnext]
      have hafter : promptAfter p = { p with left := 0 } := by rw [promptAfter, hnext, Option.getD_none]
      rw [heq, Option.map_some, hafter]
      exact ⟨onTone_same s l fun t => { t with prompt := some { p with left := 0 } }, rfl, .of_append rfl,
        fun _ _ _ => List.mem_append_right _ (List.mem_singleton_self _)⟩

/-- The line's port and Tone Unit before its prompt moves on. -/
def heard (s : State) (l : LineNo) (x : Sample) : State :=
  ((s.onPort l fun p => { p with out := s.outSample l, inbound := p.inbound ++ [x] }).onTone l fun _ =>
    (s.tones[l].feed s.filters x).1).reportAll
      (eventRows l s.lines[l] s.tones[l].heldMark (s.tones[l].feed s.filters x).2)

theorem lineSync_eq (s : State) (l : LineNo) (x : Sample) : s.lineSync l x = (s.heard l x).stepPrompt l := rfl

theorem heard_line (s : State) (l : LineNo) (x : Sample) : (s.heard l x).tones[l] = (s.tones[l].feed s.filters x).1 ∧
    (s.heard l x).ports[l] = { s.ports[l] with out := s.outSample l, inbound := s.ports[l].inbound ++ [x] } ∧
    (s.heard l x).reports = s.reports ++ eventRows l s.lines[l] s.tones[l].heldMark (s.tones[l].feed s.filters x).2 :=
  ⟨onTone_same (s.onPort l fun p => { p with out := s.outSample l, inbound := p.inbound ++ [x] }) l fun _ =>
    (s.tones[l].feed s.filters x).1, onPort_same s l fun p => { p with out := s.outSample l, inbound := p.inbound ++ [x] }, rfl⟩

/-- A sample on a line: the Tone Unit, the port, and the rows owed (R101, R105). -/
structure Synced (l : LineNo) (x : Sample) (s t : State) : Prop where
  tone : t.tones[l] = { (s.tones[l].feed s.filters x).1 with prompt := s.tones[l].prompt.map promptAfter }
  port : t.ports[l] = { s.ports[l] with out := s.outSample l, inbound := s.ports[l].inbound ++ [x] }
  events : ∀ r ∈ eventRows l s.lines[l] s.tones[l].heldMark (s.tones[l].feed s.filters x).2, r ∈ t.reports
  ended : ∀ p, s.tones[l].prompt = some p → p.next = none → .promptEnded l ∈ t.reports

theorem lineSync_synced (s : State) (l : LineNo) (x : Sample) : Synced l x s (s.lineSync l x) := by
  obtain ⟨htone, hport, hreports⟩ := heard_line s l x
  obtain ⟨hstep, hports, howes, hended⟩ := stepPrompt_line (s.heard l x) l
  obtain ⟨-, -, -, hprompt⟩ := Tone.feed_keeps s.filters x s.tones[l]
  rw [htone, hprompt] at hstep hended
  rw [lineSync_eq]
  refine ⟨hstep, ?_, fun r hr => howes r ?_, hended⟩
  · rw [hports]
    exact hport
  · rw [hreports]
    exact List.mem_append_right _ hr

theorem lineSync_owes (s : State) (l : LineNo) (x : Sample) : StillOwes s (s.lineSync l x) := by
  obtain ⟨-, -, hreports⟩ := heard_line s l x
  obtain ⟨-, -, howes, -⟩ := stepPrompt_line (s.heard l x) l
  rw [lineSync_eq]
  exact StillOwes.trans (.of_append hreports) howes

/-! ### A frame sync on all lines (R52, R102) -/

/-- A sample on every line. -/
def syncs (s : State) (inbound : Vector Sample 8) : State := allLines.foldl (fun s l => s.lineSync l inbound[l]) s

/-- What a line's sample reads is as it was, and the steps owed are still owed. -/
def SyncAway (l : LineNo) (s t : State) : Prop :=
  t.tones[l] = s.tones[l] ∧ t.ports[l] = s.ports[l] ∧ t.lines = s.lines ∧ t.frames = s.frames ∧ t.filters = s.filters ∧
    StillOwes s t

theorem SyncAway.trans (h : SyncAway l s t) (k : SyncAway l t u) : SyncAway l s u := by
  obtain ⟨htone, hport, hlines, hframes, hfilters, howes⟩ := h
  obtain ⟨ktone, kport, klines, kframes, kfilters, kowes⟩ := k
  exact ⟨ktone.trans htone, kport.trans hport, klines.trans hlines, kframes.trans hframes, kfilters.trans hfilters,
    howes.trans kowes⟩

theorem lineSync_away (s : State) (m : LineNo) (x : Sample) (h : m ≠ l) : SyncAway l s (s.lineSync m x) := by
  have honly := lineSync_only s m x
  obtain ⟨htone, hport⟩ := lineSync_other s m l x h.symm
  have howes := lineSync_owes s m x
  dsimp only at honly
  generalize s.lineSync m x = v at *
  exact ⟨htone, hport, by rw [honly], by rw [honly], by rw [honly], howes⟩

theorem syncs_only (s : State) (inbound : Vector Sample 8) : s.syncs inbound = { s with
    tones := (s.syncs inbound).tones, ports := (s.syncs inbound).ports, reports := (s.syncs inbound).reports } :=
  foldl_only (R := fun s t => t = { s with tones := t.tones, ports := t.ports, reports := t.reports }) (fun _ => rfl)
    (fun s t u h k => by rw [k, h]) (fun s l => lineSync_only s l _) allLines s

theorem outSample_congr (htone : t.tones[l] = s.tones[l]) (hport : t.ports[l] = s.ports[l]) (hframes : t.frames = s.frames) :
    t.outSample l = s.outSample l := by
  simp only [outSample, htone, hport, hframes]

/-- A sample's outcome, told of an earlier station and a later one. -/
theorem Synced.between {x : Sample} (h : Synced l x u t) (hbefore : SyncAway l s u) {v : State} (htone : v.tones[l] = t.tones[l])
    (hport : v.ports[l] = t.ports[l]) (howes : StillOwes t v) : Synced l x s v := by
  obtain ⟨ktone, kport, klines, kframes, kfilters, -⟩ := hbefore
  have hout := outSample_congr ktone kport kframes
  refine ⟨htone.trans ?_, hport.trans ?_, fun r hr => howes r (h.events r ?_), fun p hp hnone =>
    howes _ (h.ended p (by rw [ktone]; exact hp) hnone)⟩
  · rw [← ktone, ← kfilters]
    exact h.tone
  · rw [← hout, ← kport]
    exact h.port
  · rw [klines, ktone, kfilters]
    exact hr

/-- Every line has taken its sample. -/
theorem syncs_synced (s : State) (inbound : Vector Sample 8) (l : LineNo) : Synced l inbound[l] s (s.syncs inbound) := by
  obtain ⟨u, hbefore, ktone, kport, -, -, -, kowes⟩ :=
    foldl_visits (f := fun s l => s.lineSync l inbound[l]) (Away := SyncAway l)
      (fun s => ⟨rfl, rfl, rfl, rfl, rfl, .refl s⟩) (fun _ _ _ h k => h.trans k) (fun s m hm => lineSync_away s m _ hm)
      (mem_allLines l) allLines_nodup s
  exact (lineSync_synced u l inbound[l]).between hbefore ktone kport kowes

/-- The count of the period after a frame sync, and the period's end at the 160th (R52). -/
def counted (s : State) : State :=
  if 160 ≤ s.frames + 1 then ({ s with frames := s.frames + 1 } : State).report (.slicePeriodEnd s.periodSlices)
  else { s with frames := s.frames + 1 }

theorem tick_frameSync (hrun : s.resetHeld = false) (inbound : Vector Sample 8) (rest : List Tick) :
    s.tick (.frameSync inbound) rest = (({ s with ticks := rest } : State).syncs inbound).counted := by
  have heq : ({ s with ticks := rest } : State).frameSync inbound = (({ s with ticks := rest } : State).syncs inbound).counted := by
    rw [frameSync]
    change (let v : State := { ({ s with ticks := rest } : State).syncs inbound with
      frames := (({ s with ticks := rest } : State).syncs inbound).frames + 1 }
      if 160 ≤ v.frames then v.report (.slicePeriodEnd v.periodSlices) else v) = _
    generalize ({ s with ticks := rest } : State).syncs inbound = v
    rfl
  rw [tick_running hrun]
  exact heq

theorem counted_keeps (s : State) : s.counted = { s with frames := s.frames + 1, reports := s.counted.reports } ∧
    StillOwes s s.counted ∧ (159 ≤ s.frames → .slicePeriodEnd s.periodSlices ∈ s.counted.reports) := by
  unfold counted
  split
  · exact ⟨rfl, .of_append rfl, fun _ => List.mem_append_right _ (List.mem_singleton_self _)⟩
  · next h => exact ⟨rfl, .refl s, fun hframes => absurd (Nat.succ_le_succ hframes) h⟩

/-- What a frame sync leaves whether or not it ends a period. -/
theorem frameSync_keeps (hrun : s.resetHeld = false) (inbound : Vector Sample 8) (rest : List Tick) :
    s.tick (.frameSync inbound) rest = { s with
      ticks := rest
      frames := s.frames + 1
      tones := (({ s with ticks := rest } : State).syncs inbound).tones
      ports := (({ s with ticks := rest } : State).syncs inbound).ports
      reports := (s.tick (.frameSync inbound) rest).reports } ∧
    StillOwes (({ s with ticks := rest } : State).syncs inbound) (s.tick (.frameSync inbound) rest) := by
  have honly := syncs_only ({ s with ticks := rest } : State) inbound
  obtain ⟨hkeeps, howes, -⟩ := counted_keeps (({ s with ticks := rest } : State).syncs inbound)
  rw [tick_frameSync hrun]
  refine ⟨?_, howes⟩
  generalize ({ s with ticks := rest } : State).syncs inbound = v at *
  generalize v.counted = w at *
  generalize w.reports = ws at *
  generalize v.tones = ts at *
  generalize v.ports = ps at *
  generalize v.reports = rs at *
  subst honly
  exact hkeeps

/-- A line after a frame sync. -/
theorem frameSync_synced (hrun : s.resetHeld = false) (inbound : Vector Sample 8) (rest : List Tick) (l : LineNo) :
    Synced l inbound[l] s (s.tick (.frameSync inbound) rest) := by
  obtain ⟨hkeeps, howes⟩ := frameSync_keeps hrun inbound rest
  have htones : (s.tick (.frameSync inbound) rest).tones = (({ s with ticks := rest } : State).syncs inbound).tones := by
    rw [hkeeps]
  have hports : (s.tick (.frameSync inbound) rest).ports = (({ s with ticks := rest } : State).syncs inbound).ports := by
    rw [hkeeps]
  have hbefore : SyncAway l s { s with ticks := rest } := ⟨rfl, rfl, rfl, rfl, rfl, fun _ h => h⟩
  exact (syncs_synced ({ s with ticks := rest } : State) inbound l).between hbefore (by rw [htones]) (by rw [hports]) howes

end Sys2Proof.Machine.State
end

section
/-! What the three clocks do (R52, R69, R105, R111, R134, R138, R147, R151, R190). -/

namespace Sys2Proof.Machine.State

variable {s t u : State} {l : LineNo} {rest : List Tick} {levels : Vector Bool 8}

theorem tick_held (hheld : s.resetHeld = true) (x : Tick) (rest : List Tick) : s.tick x rest = { s with ticks := rest } :=
  if_pos hheld

theorem exec_secondsSinceResetTick (s : State) : exec .secondsSinceResetTick s = .next { s with
    bus := { s.bus with ctl := { s.bus.ctl with seconds := s.bus.ctl.seconds + 1 } }
    reports := s.reports.erase .secondsSinceResetTick } := rfl

/-! ### A millisecond of the timebase, unit by unit -/

/-- The timers of the lines and the letters at a tick that completes a millisecond. -/
theorem timebase_lines (hrun : s.resetHeld = false) (levels : Vector Bool 8) (rest : List Tick) (hcount : 99 ≤ s.sub10us)
    (l : LineNo) : (s.tick (.timebase levels) rest).lines[l] = lineDown s.lines[l] ∧
      ∀ r ∈ lineOwes l s.lines[l], r ∈ (s.tick (.timebase levels) rest).reports := by
  have hover := timebase_millisecond hrun levels rest hcount
  have hlines : (s.tenUnits levels rest).lines = s.lines := by rw [tenUnits_rest]
  have hline := hover.lines l
  have howes := hover.lineOwes l
  change _ = lineDown (s.tenUnits levels rest).lines[l] at hline
  change ∀ r ∈ lineOwes l (s.tenUnits levels rest).lines[l], _ at howes
  rw [hlines] at hline howes
  exact ⟨hline, howes⟩

theorem timebase_letters (hrun : s.resetHeld = false) (levels : Vector Bool 8) (rest : List Tick) (hcount : 99 ≤ s.sub10us)
    {i : LetterIx} {x : Letter} (hx : s.letters[i] = some x) :
    (s.tick (.timebase levels) rest).letters[i] = some { x with held := x.held.map (· - 1) } ∧
      (x.held = some 1 → .heldTimerExpiry i ∈ (s.tick (.timebase levels) rest).reports) := by
  have hover := timebase_millisecond hrun levels rest hcount
  have hletters : (s.tenUnits levels rest).letters = s.letters := by rw [tenUnits_rest]
  have hletter := hover.letters i
  have howes := hover.letterOwes i
  change _ = (s.tenUnits levels rest).letters[i].map _ at hletter
  change (s.tenUnits levels rest).letters[i].bind _ = some 1 → _ at howes
  rw [hletters, hx] at hletter howes
  exact ⟨hletter, howes⟩

/-- The units' own state after a tick that completes a millisecond. -/
theorem timebase_units (hrun : s.resetHeld = false) (levels : Vector Bool 8) (rest : List Tick) (hcount : 99 ≤ s.sub10us) :
    (s.tick (.timebase levels) rest).sub10us = 0 ∧
    (s.tick (.timebase levels) rest).peers = s.peers.map (fun p => { p with silence := min 3500 (p.silence + 1) }) ∧
    (s.tick (.timebase levels) rest).nums = { s.nums with
      beacon := s.nums.beacon.map (· - 1)
      wait := s.nums.wait.map (· - 1)
      window := s.nums.window.map fun e => { e with left := e.left - 1 } } ∧
    (s.tick (.timebase levels) rest).xfer = xferDown s.xfer ∧ (s.tick (.timebase levels) rest).deliv = delivDown s.deliv ∧
    (s.tick (.timebase levels) rest).bus.ctl = { s.bus.ctl with listen := s.bus.ctl.listen.map (· - 1) } ∧
    (s.tick (.timebase levels) rest).subMs = if 999 ≤ s.subMs then 0 else s.subMs + 1 := by
  have hover := timebase_millisecond hrun levels rest hcount
  have hten := tenUnits_rest s levels rest
  rw [hover.rest]
  generalize s.tenUnits levels rest = v at *
  generalize v.ports = ps at hten
  generalize v.reports = rs at hten
  subst hten
  exact ⟨rfl, rfl, rfl, rfl, rfl, rfl, rfl⟩

/-- The rows the units owe at a tick that completes a millisecond. -/
theorem timebase_owes (hrun : s.resetHeld = false) (levels : Vector Bool 8) (rest : List Tick) (hcount : 99 ≤ s.sub10us) :
    (∀ r ∈ controlOwes s, r ∈ (s.tick (.timebase levels) rest).reports) ∧
    (∀ r ∈ peersOwes s.peers, r ∈ (s.tick (.timebase levels) rest).reports) ∧
    (∀ r ∈ numsOwes s.nums, r ∈ (s.tick (.timebase levels) rest).reports) ∧
    (∀ r ∈ xferOwes s.xfer, r ∈ (s.tick (.timebase levels) rest).reports) ∧
    (∀ r ∈ delivOwes s.deliv, r ∈ (s.tick (.timebase levels) rest).reports) := by
  have howes := (timebase_millisecond hrun levels rest hcount).owes
  have hten := tenUnits_rest s levels rest
  generalize s.tenUnits levels rest = v at *
  have hcontrol : controlOwes { v with sub10us := 0 } = controlOwes s := by
    simp only [controlOwes]
    rw [hten]
  have hnums : numsOwes v.nums = numsOwes s.nums := by rw [hten]; rfl
  have hpeers : v.peers = s.peers := by rw [hten]
  have hxfer : v.xfer = s.xfer := by rw [hten]
  have hdeliv : v.deliv = s.deliv := by rw [hten]
  rw [hcontrol] at howes
  simp only [List.mem_append, hpeers, hnums, hxfer, hdeliv] at howes
  exact ⟨fun r hr => howes r (.inl (.inl (.inl (.inl (.inr hr))))), fun r hr => howes r (.inl (.inl (.inl (.inr hr)))),
    fun r hr => howes r (.inl (.inl (.inr hr))), fun r hr => howes r (.inl (.inr hr)), fun r hr => howes r (.inr hr)⟩

/-! ### A frame sync -/

/-- The period's slices after a frame sync (R52, R102). -/
theorem frameSync_period (hrun : s.resetHeld = false) (inbound : Vector Sample 8) (rest : List Tick)
    (hframes : 159 ≤ s.frames) : .slicePeriodEnd (([0, 1, 2, 3, 4, 5, 6, 7] : List LineNo).map fun l =>
      ⟨s.ports[l].inbound ++ [inbound[l]], (s.tick (.frameSync inbound) rest).tones[l].toneTouched,
        (s.tick (.frameSync inbound) rest).tones[l].speech⟩) ∈ (s.tick (.frameSync inbound) rest).reports := by
  obtain ⟨hkeeps, -⟩ := frameSync_keeps hrun inbound rest
  have hports : (s.tick (.frameSync inbound) rest).ports = (({ s with ticks := rest } : State).syncs inbound).ports := by
    rw [hkeeps]
  have htones : (s.tick (.frameSync inbound) rest).tones = (({ s with ticks := rest } : State).syncs inbound).tones := by
    rw [hkeeps]
  have hcount : (({ s with ticks := rest } : State).syncs inbound).frames = s.frames := by rw [syncs_only]
  have hport := fun l => (frameSync_synced hrun inbound rest l).port
  have hslices : (([0, 1, 2, 3, 4, 5, 6, 7] : List LineNo).map fun l =>
      (⟨s.ports[l].inbound ++ [inbound[l]], (s.tick (.frameSync inbound) rest).tones[l].toneTouched,
        (s.tick (.frameSync inbound) rest).tones[l].speech⟩ : InSlice)) =
      (({ s with ticks := rest } : State).syncs inbound).periodSlices := by
    rw [htones, periodSlices, ← hports, show allLines = [0, 1, 2, 3, 4, 5, 6, 7] from by decide]
    exact List.map_congr_left fun l _ => by rw [hport l]
  obtain ⟨-, -, hends⟩ := counted_keeps (({ s with ticks := rest } : State).syncs inbound)
  rw [hslices, tick_frameSync hrun]
  exact hends (by rw [hcount]; exact hframes)

/-- Settles O6: the seconds count, RESETN held low, and a tick of each clock. -/
theorem timersTick : Obligations.TimersTick := by
  unfold Obligations.TimersTick
  refine ⟨exec_secondsSinceResetTick, fun s x rest hheld => tick_held hheld x rest, fun s rest hrun =>
    ⟨fun levels => ?timebase, fun others disturbed hnum hdue => ?bit, fun inbound => ?frame⟩⟩
  case timebase =>
    obtain ⟨howes, hports, hlink, hcoders, htones, hseg, hticks, hpending⟩ := timebase_keeps hrun levels rest
    dsimp only
    refine ⟨fun l => ⟨?_, fun hlevel hlen => howes _ ((tenUnits_line s levels rest l).2 hlevel hlen)⟩, ?_, hcoders, htones, hseg,
      hticks, hpending, fun hcount => ?between, fun e he hleft => howes _ (tenUnits_window s levels rest he hleft),
      fun hcount => ?millisecond⟩
    · rw [hports]
      exact (tenUnits_line s levels rest l).1
    · rw [hlink, tenUnits_rest]
    case between =>
      have hbetween := timebase_between hrun levels rest hcount
      generalize s.tick (.timebase levels) rest = v at *
      rw [hbetween]
      exact ⟨rfl, rfl, rfl, rfl, rfl, rfl, rfl, rfl⟩
    case millisecond =>
      obtain ⟨hsub, hpeers, hnums, hxfer, hdeliv, hctl, hms⟩ := timebase_units hrun levels rest hcount
      obtain ⟨hcontrolOwe, hpeersOwe, hnumsOwe, hxferOwe, hdelivOwe⟩ := timebase_owes hrun levels rest hcount
      have hlines := timebase_lines hrun levels rest hcount
      have hletters := fun i x => timebase_letters hrun levels rest hcount (i := i) (x := x)
      obtain ⟨hcollections, hincoming, hsettling, houtgoing⟩ := mem_xferOwes s.xfer
      obtain ⟨hactive, hretry⟩ := mem_delivOwes s.deliv
      obtain ⟨hbeacon, hwait⟩ := mem_numsOwes s.nums
      obtain ⟨hlisten, hseconds⟩ := mem_controlOwes s
      generalize s.tick (.timebase levels) rest = v at *
      refine ⟨hsub, fun l => ?_, hletters, hpeers, fun p hp hpresent hsilence =>
        hpeersOwe _ (mem_peersOwes hp hpresent hsilence), hnums, fun h => hnumsOwe _ (hbeacon h), fun h => hnumsOwe _ (hwait h),
        fun c hc h => hxferOwe _ (hcollections c hc h), fun c hc => ⟨?_, fun h => hxferOwe _ (hincoming c hc h)⟩,
        fun e he h => hxferOwe _ (hsettling e he h), fun o ho => ⟨?_, fun h => hxferOwe _ (houtgoing o ho h)⟩,
        fun a ha => ⟨?_, fun h => hdelivOwe _ (hactive a ha h)⟩, ?_, fun h => hdelivOwe _ (hretry h), hctl,
        fun h => hcontrolOwe _ (hlisten h), hms, fun h => hcontrolOwe _ (hseconds h)⟩
      · obtain ⟨hline, hlineOwe⟩ := hlines l
        obtain ⟨hdigit, hwaits, hwind⟩ := mem_lineOwes l s.lines[l]
        exact ⟨hline, fun h => hlineOwe _ (hdigit h), fun h => hlineOwe _ (hwaits h), fun h => hlineOwe _ (hwind h)⟩
      · rw [hxfer, xferDown, hc]
        rfl
      · rw [hxfer, xferDown, ho]
        rfl
      · rw [hdeliv, delivDown, ha]
        rfl
      · rw [hdeliv]
        rfl
  case bit =>
    dsimp only
    exact ⟨fun hlevel hlen hview => busBit_idles hrun hnum hdue hlevel (.inl ⟨hlen, hview⟩) rest,
      fun hlevel hlen hview => busBit_idles hrun hnum hdue hlevel (.inr ⟨hlen, hview⟩) rest,
      fun hlevel hview hhold => busBit_holdOff hrun hnum hdue hlevel hview hhold rest,
      fun hlevel hdetached hlen hruns => busBit_recovers hrun hnum hdue hlevel hdetached hlen hruns rest,
      fun hlevel hlen => busBit_stuck hrun hnum hdue hlevel hlen rest⟩
  case frame =>
    obtain ⟨hkeeps, -⟩ := frameSync_keeps hrun inbound rest
    have hsynced := frameSync_synced hrun inbound rest
    have hperiod := frameSync_period hrun inbound rest
    dsimp only
    generalize s.tick (.frameSync inbound) rest = v at *
    refine ⟨by rw [hkeeps], fun l => ?_, hperiod, fun l p hp hnone => (hsynced l).ended p hp hnone, by rw [hkeeps],
      by rw [hkeeps], by rw [hkeeps], by rw [hkeeps]⟩
    have hport := (hsynced l).port
    rw [hport]
    exact ⟨rfl, rfl⟩

end Sys2Proof.Machine.State
end

section
/-! What a key event does to the Tone Unit of its line (R97, R98, R100). -/

namespace Sys2Proof.Machine.State

variable {s t u : State} {l m : LineNo} {i : LetterIx} {x : Letter} {k : Key} {c : Instr}

/-- Of a line's Tone Unit, only the prompt may differ. -/
def OnlyPrompt (l : LineNo) (s t : State) : Prop := t.tones[l] = { s.tones[l] with prompt := t.tones[l].prompt }

namespace OnlyPrompt

theorem of_tones (h : t.tones = s.tones) : OnlyPrompt l s t := by rw [OnlyPrompt, h]

theorem refl (l : LineNo) (s : State) : OnlyPrompt l s s := .of_tones rfl

theorem trans (h : OnlyPrompt l s t) (k : OnlyPrompt l t u) : OnlyPrompt l s u := by
  unfold OnlyPrompt at *
  generalize u.tones[l].prompt = p at *
  rw [k, h]

theorem prompt (s : State) (m : LineNo) (p : Prompt) : OnlyPrompt l s (s.prompt m p) := by
  have htones : (s.prompt m p).tones = s.tones.set m { s.tones[m] with prompt := some (.start p) } := rfl
  rw [OnlyPrompt, htones]
  by_cases h : m = l
  · subst h
    rw [show (s.tones.set m { s.tones[m] with prompt := some (.start p) })[m] = _ from Vector.getElem_set_self _]
  · rw [set_away s.tones h]

/-- A prompt after work that leaves the Tone Units. -/
theorem prompted (h : t.tones = s.tones) (m : LineNo) (p : Prompt) : OnlyPrompt l s (t.prompt m p) :=
  (of_tones h).trans (.prompt t m p)

end OnlyPrompt

/-! ### What the units the line asks leave of the Tone Units -/

theorem makeClaim_tones (s : State) : s.makeClaim.tones = s.tones := by rw [(makeClaim_work s).rest]

theorem look_tones (s : State) : s.look.tones = s.tones := by rw [look_only s]

theorem freeLetter_tones (s : State) (i : LetterIx) : (s.freeLetter i).tones = s.tones := by rw [freeLetter_only s i]

theorem closeLetter_tones (s : State) (i : LetterIx) : (s.closeLetter i).tones = s.tones := by rw [closeLetter_only s i]

theorem dropRecords_tones (rs : List SegRec) (s : State) : (dropRecords rs s).tones = s.tones := by rw [dropRecords_only rs s]

theorem endQueued_prompt (s : State) (tag : BitVec 8) : OnlyPrompt l s (s.endQueued tag) := by
  unfold endQueued
  split
  · unfold givePick
    split
    · exact .prompted rfl _ _
    · exact .of_tones rfl
  · exact .refl l s

theorem requestLocate_prompt (s : State) (m : LineNo) (author n : Nat) : OnlyPrompt l s (s.requestLocate m author n) := by
  unfold requestLocate
  dsimp only
  split
  · exact .of_tones rfl
  · exact OnlyPrompt.trans (.of_tones rfl) (endQueued_prompt _ _)

/-! ### The keys, state by state (R73, R75, R76, R80, R82, R83) -/

theorem authorKey_prompt (s : State) (l : LineNo) (k : Key) : OnlyPrompt l s (s.authorKey l k) := by
  unfold authorKey
  split
  · unfold authorDigit
    split
    · exact .of_tones rfl
    · exact .prompted rfl _ _
  · split
    · unfold authorEnter
      split
      · exact .prompted rfl _ _
      · exact .prompted rfl _ _
    · exact .prompted rfl _ _

theorem newLetter_prompt (s : State) (l : LineNo) : OnlyPrompt l s (s.newLetter l) := by
  cases hfree : s.freeEntry with
  | none =>
    have heq : s.newLetter l = s.refuse l := by rw [newLetter, hfree]
    rw [heq]
    exact .prompt s l .refused
  | some i =>
    have heq : s.newLetter l = (s.letterOpened l i).makeClaim := by
      rw [newLetter, hfree]
      rfl
    rw [heq]
    have hopened : OnlyPrompt l s (s.letterOpened l i) := by
      rw [OnlyPrompt, letterOpened_tones]
      exact OnlyPrompt.prompt s l .ready
    exact hopened.trans (.of_tones (makeClaim_tones _))

theorem selectKey_prompt (s : State) (l : LineNo) (k : Key) : OnlyPrompt l s (s.selectKey l k) := by
  unfold selectKey
  split
  · exact newLetter_prompt s l
  · exact .prompted rfl _ _
  · exact .prompt s l .refused

theorem seekKey_prompt (s : State) (l : LineNo) (k : Key) : OnlyPrompt l s (s.seekKey l k) := by
  unfold seekKey
  split
  · unfold seekDigit
    dsimp only
    split
    · exact .of_tones rfl
    · exact .prompted rfl _ _
  · split
    · exact requestLocate_prompt s l _ _
    · exact .prompted rfl _ _

theorem markKey_prompt (s : State) (l : LineNo) (i : LetterIx) (k : Key) : OnlyPrompt l s (s.markKey l i k) := by
  unfold markKey
  split
  · exact .prompted rfl _ _
  · exact .prompted rfl _ _
  · exact .prompted rfl _ _
  · exact .prompt s l .refused

theorem letGo_prompt (s : State) (l : LineNo) : OnlyPrompt l s (s.letGo l) := .prompted rfl _ _

theorem endLetter_prompt (s : State) (l : LineNo) (i : LetterIx) (x : Letter) : OnlyPrompt l s (s.endLetter l i x) := by
  unfold endLetter
  split
  · exact (letGo_prompt s l).trans (.of_tones (closeLetter_tones _ i))
  · exact (letGo_prompt s l).trans (.of_tones (freeLetter_tones _ i))

theorem discard_prompt (s : State) (l : LineNo) (i : LetterIx) (x : Letter) : OnlyPrompt l s (s.discard l i x) := by
  unfold discard
  split
  · exact .prompt s l .refused
  · exact .prompted (dropRecords_tones _ _) _ _

theorem readyKey_prompt (s : State) (l : LineNo) (k : Key) : OnlyPrompt l s (s.readyKey l k) := by
  unfold readyKey
  split
  · exact .prompt s l .refused
  · next i x _ =>
    cases k
    case k1 =>
      dsimp only
      unfold record
      split
      · exact .prompt s l .refused
      · exact .of_tones rfl
    case k3 =>
      dsimp only
      unfold play
      split
      · exact .prompted rfl _ _
      · exact .of_tones rfl
    case k4 | k5 => exact .refl l s
    case k6 | k7 | k8 => exact markKey_prompt s l i _
    case kB | k0 => exact .of_tones rfl
    case k9 => exact endLetter_prompt s l i x
    case kC => exact discard_prompt s l i x
    case kD => exact OnlyPrompt.trans (.of_tones rfl) (letGo_prompt _ l)
    case k2 | kA | star | hash => exact .prompt s l .refused

end Sys2Proof.Machine.State
end

section
/-! The rows of a key's recognition, hold and release (R71, R81, R97, R98, R100). -/

namespace Sys2Proof.Machine.State

variable {s t u : State} {l m : LineNo} {k : Key} {c : Instr} {w : Wind}

/-! ### The pass a key ends (R82, R87) -/

theorem sealFilling_tones (s : State) (l : LineNo) : (s.sealFilling l).tones = s.tones := by
  unfold sealFilling
  cases s.lines[l].filling with
  | none => rfl
  | some b => rw [Option.elim_some, sealBlock_only s b]

theorem endPass_tones (s : State) (l : LineNo) : (s.endPass l).tones = s.tones := by
  have hdrop : ∀ t : State, (t.dropPass l).tones = t.tones := fun t => by
    unfold dropPass
    cases t.lines[l].attached <;> rfl
  rw [endPass_eq]
  exact (hdrop _).trans (sealFilling_tones s l)

theorem finishPass_tones (s : State) (l : LineNo) : (s.finishPass l).1.tones = s.tones := by
  have hflush := (flushHold_work l s.lines[l].hold s).tones
  unfold finishPass
  split
  · next t f heq =>
    rw [heq] at hflush
    exact (endPass_tones t l).trans hflush
  · next t heq =>
    rw [heq] at hflush
    exact (endPass_tones t l).trans hflush

theorem closePass_prompt (s : State) (l : LineNo) (p : Option Prompt) : OnlyPrompt l s (s.closePass l p) := by
  have hfinish : ((s.finishPass l).1.goto l .ready).tones = s.tones := finishPass_tones s l
  unfold closePass
  dsimp only
  split
  · exact .prompted hfinish _ _
  · exact .prompted hfinish _ _
  · exact .of_tones hfinish

theorem recordingKey_prompt (s : State) (l : LineNo) (k : Key) : OnlyPrompt l s (s.recordingKey l k) := by
  have hdrop : OnlyPrompt l s (s.dropTouched l) := .of_tones rfl
  have hclose := hdrop.trans (closePass_prompt (s.dropTouched l) l none)
  have hready := fun k => hclose.trans (readyKey_prompt ((s.dropTouched l).closePass l none) l k)
  have hrefuse : OnlyPrompt l s ((s.dropTouched l).refuse l) := hdrop.trans (.prompt _ l .refused)
  have hmark : ∀ k, OnlyPrompt l s (match (s.dropTouched l).lineLetter l with
      | some (i, _) => (s.dropTouched l).markKey l i k
      | none => (s.dropTouched l).refuse l) := by
    intro k
    split
    · exact hdrop.trans (markKey_prompt _ l _ k)
    · exact hrefuse
  cases k
  case k2 | k4 | k5 => exact hclose
  case k3 | kB | k0 | k9 | kC | kD => exact hready _
  case k6 => exact hmark .k6
  case k7 => exact hmark .k7
  case k8 => exact hmark .k8
  case k1 | kA | star | hash => exact hrefuse

theorem playingKey_prompt (s : State) (l : LineNo) (k : Key) : OnlyPrompt l s (s.playingKey l k) := by
  have hstop : OnlyPrompt l s (s.stopPlaying l) := .of_tones rfl
  cases k
  case k2 => exact hstop
  case k9 | kD => exact hstop.trans (readyKey_prompt _ l _)
  case k1 | k4 | k5 | kB | k0 | kC => exact readyKey_prompt s l _
  case k3 | k6 | k7 | k8 | kA | star | hash => exact .prompt s l .refused

/-- A key acts on the line, and of its Tone Unit on the prompt alone (R71, R107). -/
theorem keyActs_prompt (s : State) (l : LineNo) (k : Key) : OnlyPrompt l s (s.keyActs l k) := by
  unfold keyActs
  split
  case h_1 => exact .refl l s
  case h_2 => exact authorKey_prompt s l k
  case h_3 => exact selectKey_prompt s l k
  case h_4 => exact seekKey_prompt s l k
  case h_5 => exact readyKey_prompt s l k
  case h_6 => exact recordingKey_prompt s l k
  case h_7 => exact playingKey_prompt s l k
  all_goals exact .prompt s l .refused

/-! ### Recognition (R97) -/

/-- Every row of a recognised key is the recognition of that key (log 7). -/
theorem exec_keyRow (st : LineState) (l : LineNo) (k : Key) (s : State) :
    exec (keyRow st l k) s = .next ((s.taken (keyRow st l k)).keyRecognised l k) := by
  cases st <;> cases k <;> rfl

theorem keyRecognised_tone (hfree : s.KeyFree l) (k : Key) : (s.keyRecognised l k).tones[l] = { s.tones[l] with
    keyDown := some k
    heldMark := false
    downRun := 0
    gapRun := 0
    candidate := none
    candidateRun := 0
    keySeen := true
    prompt := (s.keyRecognised l k).tones[l].prompt } := by
  have hold : s.releaseOld l = s := by rw [releaseOld, hfree, Option.elim_none]
  have htone : (s.toneRecognised l k).tones[l] = { s.tones[l] with
      keyDown := some k
      heldMark := false
      downRun := 0
      gapRun := 0
      candidate := none
      candidateRun := 0
      keySeen := true } := onTone_same s l fun t => { t with
        keyDown := some k, heldMark := false, downRun := 0, gapRun := 0, candidate := none, candidateRun := 0, keySeen := true }
  have hafter : OnlyPrompt l (s.toneRecognised l k) (s.keyRecognised l k) := by
    rw [keyRecognised_eq, hold]
    split
    · exact .refl l _
    · exact OnlyPrompt.trans (.of_tones rfl) (keyActs_prompt _ l k)
  rw [OnlyPrompt, htone] at hafter
  exact hafter

/-! ### Release (R81, R98) -/

theorem windReleased_prompt (s : State) (l : LineNo) (w : Wind) (held : Bool) : OnlyPrompt l s (s.windReleased l w held) := by
  unfold windReleased
  split
  · split
    · unfold when
      split <;> exact .of_tones rfl
    · exact .refl l s
  · split
    · unfold when
      split <;> exact .of_tones rfl
    · exact .refl l s
  · unfold endWinding
    split
    · dsimp only
      split
      · exact .prompted rfl _ _
      · exact .of_tones rfl
    · exact .of_tones rfl
  · exact .refl l s

theorem windKey_of {k : Key} {w : Wind} (h : keyWind k = some w) : windKey w = k := by
  cases k
  case k4 | k5 =>
    cases h
    rfl
  all_goals cases h

/-- Every row of a released key is the release of that key. -/
theorem exec_releaseRow (c : Line) (mark : Bool) (l : LineNo) (k : Key) (s : State) :
    exec (releaseRow c mark l k) s = .next ((s.taken (releaseRow c mark l k)).keyReleased l k) := by
  unfold releaseRow
  split
  · next w hw _ =>
    have hkey := windKey_of hw
    subst hkey
    rfl
  · next w hw _ =>
    have hkey := windKey_of hw
    subst hkey
    split <;> rfl
  · next w hw _ =>
    have hkey := windKey_of hw
    subst hkey
    split <;> rfl
  · rfl

theorem keyReleased_tone (hdown : s.tones[l].keyDown = some k) : (s.keyReleased l k).tones[l] = { s.tones[l] with
    keyDown := none
    heldMark := false
    downRun := 0
    gapRun := 0
    prompt := (s.keyReleased l k).tones[l].prompt } := by
  have htone : (s.toneReleased l).tones[l] = { s.tones[l] with keyDown := none, heldMark := false, downRun := 0, gapRun := 0 } :=
    onTone_same s l fun t => { t with keyDown := none, heldMark := false, downRun := 0, gapRun := 0 }
  have hafter : OnlyPrompt l (s.toneReleased l) (s.keyReleased l k) := by
    unfold keyReleased
    rw [if_pos hdown]
    dsimp only
    split
    · split
      · exact OnlyPrompt.trans (.of_tones rfl) (windReleased_prompt _ l _ _)
      · exact .of_tones rfl
    · exact .refl l _
  rw [OnlyPrompt, htone] at hafter
  exact hafter

/-! ### A key become held (R81, R100) -/

theorem exec_heldRow (c : Line) (l : LineNo) (k : Key) (s : State) :
    exec (heldRow c l k) s = .next ((s.taken (heldRow c l k)).keyHeld l k) := by
  unfold heldRow
  split
  · next w hw _ =>
    have hkey := windKey_of hw
    subst hkey
    rfl
  · next w hw _ =>
    have hkey := windKey_of hw
    subst hkey
    rfl
  · rfl

theorem keyHeld_tone (hdown : s.tones[l].keyDown = some k) (hmark : s.tones[l].heldMark = false) :
    (s.keyHeld l k).tones[l] = { s.tones[l] with heldMark := true, downRun := 4800 } := by
  have htone : (s.onTone l fun t => { t with heldMark := true, downRun := Config.heldSamples }).tones[l] =
      { s.tones[l] with heldMark := true, downRun := 4800 } :=
    onTone_same s l fun t => { t with heldMark := true, downRun := Config.heldSamples }
  have hafter : (s.keyHeld l k).tones = (s.onTone l fun t => { t with heldMark := true, downRun := Config.heldSamples }).tones := by
    unfold keyHeld
    rw [if_pos ⟨hdown, hmark⟩]
    dsimp only
    split
    · split <;> rfl
    · rfl
  rw [hafter]
  exact htone

end Sys2Proof.Machine.State
end

section
/-! A Tone Unit at one sample: its detectors, its flags and its key work (R93 to R102). -/

namespace Sys2Proof.Machine

open State

variable {bank : FilterBank} {x : Sample} {d : Tone} {k k' : Key} {l : LineNo} {c : Line}

/-! ### The detectors (R93 to R95) -/

theorem levelAtLeast_iff (m e level : Nat) : levelAtLeast m e level = true ↔
    (65536 ^ 2 * 21473525780) ^ m ≤ level ^ m * 10 ^ e := by
  unfold levelAtLeast
  exact decide_eq_true_iff

theorem sumSquares_cast (window : List Int) : (sumSquares window : Int) = (window.map fun y => y * y).sum := by
  unfold sumSquares
  induction window with
  | nil => rfl
  | cons y ys ih =>
    rw [List.map_cons, List.sum_cons, List.map_cons, List.sum_cons, Nat.cast_add, ih, Nat.cast_mul, Int.natCast_natAbs,
      abs_mul_abs_self]

/-- What a detector does with a sample: it filters it, measures its window, and turns on or off (R93 to R95). -/
theorem Detector.feed_spec (sections : List Biquad) (j : Fin 9) (x : Sample) (d : Detector) :
    let r := cascadeStep sections d.history (65536 * x.toInt)
    let e := d.feed sections j x
    e.history = r.1 ∧ e.window = d.window.drop 1 ++ [r.2] ∧ (e.level : Int) = (e.window.map fun y => y * y).sum ∧
      (j ≠ 8 → d.on = false → (e.on = true ↔ (65536 ^ 2 * 21473525780) ^ 5 ≤ e.level ^ 5 * 10 ^ 14)) ∧
      (j ≠ 8 → d.on = true → (e.on = true ↔ (65536 ^ 2 * 21473525780) ^ 5 ≤ e.level ^ 5 * 10 ^ 17)) ∧
      (j = 8 → d.on = false → (e.on = true ↔ (65536 ^ 2 * 21473525780) ^ 2 ≤ e.level ^ 2 * 10 ^ 9)) ∧
      (j = 8 → d.on = true → (e.on = true ↔ (65536 ^ 2 * 21473525780) ^ 5 ≤ e.level ^ 5 * 10 ^ 26)) := by
  have hon : (d.feed sections j x).on = if d.on then staysOn j (d.feed sections j x).level
    else turnsOn j (d.feed sections j x).level := rfl
  have hlevel : ((d.feed sections j x).level : Int) = ((d.feed sections j x).window.map fun y => y * y).sum :=
    sumSquares_cast _
  dsimp only
  refine ⟨rfl, rfl, hlevel, fun hj hd => ?_, fun hj hd => ?_, fun hj hd => ?_, fun hj hd => ?_⟩
  · rw [hon, hd, if_neg Bool.false_ne_true, turnsOn, if_neg hj]
    exact levelAtLeast_iff 5 14 _
  · rw [hon, hd, if_pos rfl, staysOn, if_neg hj]
    exact levelAtLeast_iff 5 17 _
  · rw [hon, hd, if_neg Bool.false_ne_true, turnsOn, if_pos hj]
    exact levelAtLeast_iff 2 9 _
  · rw [hon, hd, if_pos rfl, staysOn, if_pos hj]
    exact levelAtLeast_iff 5 26 _

/-! ### The sample heard (R101) -/

/-- The detectors of a Tone Unit after a sample. -/
def Tone.heardBy (bank : FilterBank) (x : Sample) (d : Tone) : Vector Detector 9 :=
  Vector.ofFn fun j => (d.detectors[j]).feed (bank.sections j) j x

/-- The Tone Unit with the sample in its window, before its key work. -/
def Tone.heard (bank : FilterBank) (x : Sample) (d : Tone) : Tone :=
  { d with input := d.input.drop 1 ++ [x], detectors := d.heardBy bank x }

/-- The key work of a sample. -/
def Tone.keyWork (d : Tone) (seen : Option Key) : Tone × List KeyEvent :=
  match d.keyDown with
  | none => d.seekKey seen
  | some k => d.followKey k seen

theorem Tone.feed_eq (bank : FilterBank) (x : Sample) (d : Tone) : d.feed bank x =
    ({ ((d.heard bank x).keyWork (observe (d.heardBy bank x))).1 with
        toneTouched := ((d.heard bank x).keyWork (observe (d.heardBy bank x))).1.toneTouched ||
          ((d.heardBy bank x).toList.take 8).any (·.on)
        speech := ((d.heard bank x).keyWork (observe (d.heardBy bank x))).1.speech ||
          ((d.heardBy bank x).toList.drop 8).any (·.on) },
      ((d.heard bank x).keyWork (observe (d.heardBy bank x))).2) := rfl

/-- The key work leaves what the detectors measured, and the flags. -/
theorem Tone.keyWork_keeps (d : Tone) (seen : Option Key) : (d.keyWork seen).1.input = d.input ∧
    (d.keyWork seen).1.detectors = d.detectors ∧ (d.keyWork seen).1.toneTouched = d.toneTouched ∧
    (d.keyWork seen).1.speech = d.speech := by
  unfold keyWork seekKey followKey
  split
  · split <;> exact ⟨rfl, rfl, rfl, rfl⟩
  · dsimp only
    split
    · split <;> exact ⟨rfl, rfl, rfl, rfl⟩
    · exact ⟨rfl, rfl, rfl, rfl⟩

theorem Tone.feed_input (bank : FilterBank) (x : Sample) (d : Tone) : (d.feed bank x).1.input = d.input.drop 1 ++ [x] := by
  obtain ⟨hinput, -⟩ := (d.heard bank x).keyWork_keeps (observe (d.heardBy bank x))
  rw [feed_eq]
  exact hinput

theorem Tone.feed_detectors (bank : FilterBank) (x : Sample) (d : Tone) : (d.feed bank x).1.detectors = d.heardBy bank x := by
  obtain ⟨-, hdetectors, -⟩ := (d.heard bank x).keyWork_keeps (observe (d.heardBy bank x))
  rw [feed_eq]
  exact hdetectors

theorem Tone.heardBy_get (bank : FilterBank) (x : Sample) (d : Tone) (j : Fin 9) :
    (d.heardBy bank x)[j] = (d.detectors[j]).feed (bank.sections j) j x := by
  simp [heardBy]

/-- Some keypad filter is on: one of the first eight. -/
theorem any_keypad (ds : Vector Detector 9) : (ds.toList.take 8).any (·.on) = true ↔ ∃ j : Fin 9, j ≠ 8 ∧ ds[j].on = true := by
  rw [List.any_eq_true]
  constructor
  · rintro ⟨e, he, hon⟩
    obtain ⟨n, hn, rfl⟩ := List.mem_take_iff_getElem.mp he
    have hlen : n < 8 := lt_of_lt_of_le hn (Nat.min_le_left _ _)
    refine ⟨⟨n, by omega⟩, fun h => ?_, ?_⟩
    · have hval : n = 8 := congrArg Fin.val h
      omega
    · simpa using hon
  · rintro ⟨j, hj, hon⟩
    have hlen : j.val < 8 := by
      have hne : j.val ≠ 8 := fun h => hj (Fin.ext h)
      omega
    refine ⟨ds[j], List.mem_take_iff_getElem.mpr ⟨j.val, ?_, ?_⟩, hon⟩
    · simp [hlen]
    · simp

theorem any_speech (ds : Vector Detector 9) : (ds.toList.drop 8).any (·.on) = true ↔ ds[(8 : Fin 9)].on = true := by
  have hdrop : ds.toList.drop 8 = [ds[(8 : Fin 9)]] := by
    have hlen : ds.toList.length = 9 := by simp
    rw [List.drop_eq_getElem_cons (by rw [hlen]; decide), List.drop_eq_nil_of_le (by rw [hlen])]
    simp
  rw [hdrop, List.any_cons, List.any_nil, Bool.or_false]

theorem Tone.feed_flags (bank : FilterBank) (x : Sample) (d : Tone) :
    ((d.feed bank x).1.toneTouched = true ↔
      d.toneTouched = true ∨ ∃ j : Fin 9, j ≠ 8 ∧ (d.heardBy bank x)[j].on = true) ∧
    ((d.feed bank x).1.speech = true ↔ d.speech = true ∨ (d.heardBy bank x)[(8 : Fin 9)].on = true) := by
  obtain ⟨-, -, htouched, hspeech⟩ := (d.heard bank x).keyWork_keeps (observe (d.heardBy bank x))
  rw [feed_eq]
  dsimp only
  rw [htouched, hspeech, Bool.or_eq_true, Bool.or_eq_true, any_keypad, any_speech]
  exact ⟨Iff.rfl, Iff.rfl⟩

/-! ### No key down: the candidate (R97) -/

/-- The key work of a sample leaves with the Tone Unit's window what it makes of the pair observed. -/
theorem Tone.feed_key (bank : FilterBank) (x : Sample) (d : Tone) :
    (d.feed bank x).1.downRun = ((d.heard bank x).keyWork (observe (d.heardBy bank x))).1.downRun ∧
    (d.feed bank x).1.gapRun = ((d.heard bank x).keyWork (observe (d.heardBy bank x))).1.gapRun ∧
    (d.feed bank x).1.candidate = ((d.heard bank x).keyWork (observe (d.heardBy bank x))).1.candidate ∧
    (d.feed bank x).1.candidateRun = ((d.heard bank x).keyWork (observe (d.heardBy bank x))).1.candidateRun ∧
    (d.feed bank x).2 = ((d.heard bank x).keyWork (observe (d.heardBy bank x))).2 := ⟨rfl, rfl, rfl, rfl, rfl⟩

theorem Tone.keyWork_up (h : d.keyDown = none) (seen : Option Key) : d.keyWork seen = d.seekKey seen := by
  rw [keyWork, h]

theorem Tone.keyWork_down (h : d.keyDown = some k) (seen : Option Key) : d.keyWork seen = d.followKey k seen := by
  rw [keyWork, h]

theorem Tone.seekKey_keeps (d : Tone) (seen : Option Key) :
    (d.seekKey seen).1.downRun = d.downRun ∧ (d.seekKey seen).1.gapRun = d.gapRun := by
  unfold seekKey
  split <;> exact ⟨rfl, rfl⟩

/-- A candidate that has stood for its samples is recognised. -/
theorem Tone.seekKey_recognises (h : 320 ≤ (d.seekKey (some k)).1.candidateRun) : (d.seekKey (some k)).2 = [.recognised k] := by
  exact if_pos h

/-! ### A key down: its run, its hold and its release (R98 to R100) -/

/-- The key becomes held at this sample (R100). -/
def Tone.becomesHeld (d : Tone) : Prop := d.heldMark = false ∧ 4799 ≤ d.downRun

theorem min_held (n : Nat) : min 4800 (n + 1) = 4800 ↔ 4799 ≤ n := by omega

/-- The key events of a hold (R100). -/
def Tone.heldEvents (d : Tone) (k : Key) : List KeyEvent :=
  if d.heldMark = false ∧ min 4800 (d.downRun + 1) = 4800 then [.held k] else []

theorem Tone.heldEvents_of (h : d.becomesHeld) (k : Key) : d.heldEvents k = [.held k] :=
  if_pos ⟨h.1, (min_held _).mpr h.2⟩

theorem Tone.heldEvents_of_not (h : ¬d.becomesHeld) (k : Key) : d.heldEvents k = [] :=
  if_neg fun ⟨hmark, hrun⟩ => h ⟨hmark, (min_held _).mp hrun⟩

theorem Tone.followKey_none (d : Tone) (k : Key) : d.followKey k none =
    ({ d with downRun := min 4800 (d.downRun + 1), gapRun := d.gapRun + 1 },
      if 240 ≤ d.gapRun + 1 then d.heldEvents k ++ [.released k] else d.heldEvents k) := rfl

theorem Tone.followKey_same (d : Tone) (k : Key) : d.followKey k (some k) =
    ({ d with downRun := min 4800 (d.downRun + 1), gapRun := 0 }, d.heldEvents k) := if_pos rfl

theorem Tone.followKey_other (h : k' ≠ k) (d : Tone) : d.followKey k (some k') =
    ({ d with downRun := min 4800 (d.downRun + 1), candidate := some k', candidateRun := 1 },
      d.heldEvents k ++ [.released k]) := if_neg h

/-- The row of a hold is owed (R81, R100). -/
theorem eventRows_held (h : d.becomesHeld) (l : LineNo) (c : Line) (k : Key) (rest : List KeyEvent) :
    heldRow c l k ∈ eventRows l c d.heldMark (d.heldEvents k ++ rest) := by
  rw [d.heldEvents_of h]
  exact List.mem_cons_self

/-- The row of a release is owed: one that follows a hold at the same sample finds the line and the mark as the hold left
them (R81, R98). -/
theorem eventRows_released (d : Tone) (l : LineNo) (c : Line) (k : Key) :
    (d.becomesHeld → releaseRow (c.afterHeld k) true l k ∈ eventRows l c d.heldMark (d.heldEvents k ++ [.released k])) ∧
    (¬d.becomesHeld → releaseRow c d.heldMark l k ∈ eventRows l c d.heldMark (d.heldEvents k ++ [.released k])) := by
  constructor
  · intro h
    rw [d.heldEvents_of h]
    exact List.mem_cons_of_mem _ List.mem_cons_self
  · intro h
    rw [d.heldEvents_of_not h]
    exact List.mem_cons_self

end Sys2Proof.Machine
end

section
/-! The valid pair observed (R96). -/

namespace Sys2Proof.Machine

variable {ds : Vector Detector 9} {k : Key} {p : Nat → Bool} {a b n : Nat}

/-- A list without repeats whose only member is `a`. -/
theorem eq_singleton_iff {l : List Nat} (h : l.Nodup) : l = [a] ↔ ∀ j, j ∈ l ↔ j = a := by
  constructor
  · rintro rfl j
    exact List.mem_singleton
  · intro hmem
    match l, h with
    | [], _ => cases (hmem a).mpr rfl
    | j :: js, h =>
      obtain ⟨hnot, -⟩ := List.nodup_cons.mp h
      have hj : j = a := (hmem j).mp List.mem_cons_self
      have hjs : js = [] := List.eq_nil_iff_forall_not_mem.mpr fun i hi => by
        have hi' : i = a := (hmem i).mp (List.mem_cons_of_mem _ hi)
        rw [hi', ← hj] at hi
        exact hnot hi
      rw [hj, hjs]

/-- One of the first four holds, and it is `a`. -/
theorem filter_four_iff : (List.range 4).filter p = [a] ↔ a < 4 ∧ ∀ j < 4, p j = true ↔ j = a := by
  rw [eq_singleton_iff (List.nodup_range.filter p)]
  simp only [List.mem_filter, List.mem_range]
  constructor
  · intro h
    obtain ⟨ha, -⟩ := (h a).mpr rfl
    exact ⟨ha, fun j hj => ⟨fun hp => (h j).mp ⟨hj, hp⟩, fun heq => ((h j).mpr heq).2⟩⟩
  · rintro ⟨ha, h⟩ j
    refine ⟨fun ⟨hj, hp⟩ => (h j hj).mp hp, fun heq => ?_⟩
    rw [heq]
    exact ⟨ha, (h a ha).mpr rfl⟩

theorem oneOn_eq_some : oneOn ds n = some a ↔
    a < 4 ∧ ∀ j < 4, (ds.toList.getD (n + j) .reset).on = true ↔ j = a := by
  rw [← filter_four_iff (p := fun j => (ds.toList.getD (n + j) .reset).on)]
  unfold oneOn
  split
  · next j h => rw [h]; simp
  · next hnot =>
    refine ⟨fun h => (by cases h), fun h => absurd h (hnot a)⟩

theorem getD_detector (ds : Vector Detector 9) (j : Fin 9) : ds.toList.getD j.val .reset = ds[j] := by
  rw [List.getD_eq_getElem _ _ (by simp)]
  simp

/-- The one low tone that is on. -/
theorem oneOn_low : oneOn ds 0 = some a ↔ a < 4 ∧ ∀ j : Fin 9, j < 4 → (ds[j].on = true ↔ j.val = a) := by
  rw [oneOn_eq_some]
  refine and_congr_right fun _ => ⟨fun h j hj => ?_, fun h j hj => ?_⟩
  · have hone := h j.val hj
    rw [Nat.zero_add, getD_detector] at hone
    exact hone
  · have hone := h ⟨j, by omega⟩ hj
    rw [← getD_detector] at hone
    rw [Nat.zero_add]
    exact hone

/-- The one high tone that is on. -/
theorem oneOn_high : oneOn ds 4 = some b ↔
    b < 4 ∧ ∀ j : Fin 9, 4 ≤ j → j < 8 → (ds[j].on = true ↔ j.val = 4 + b) := by
  rw [oneOn_eq_some]
  refine and_congr_right fun _ => ⟨fun h j hlow hj => ?_, fun h j hj => ?_⟩
  · have hfour : 4 ≤ j.val := hlow
    have height : j.val < 8 := hj
    have hone := h (j.val - 4) (by omega)
    rw [show 4 + (j.val - 4) = j.val by omega, getD_detector] at hone
    exact hone.trans ⟨fun h => by omega, fun h => by omega⟩
  · have hone := h ⟨4 + j, by omega⟩ (Nat.le_add_right 4 j) (Nat.add_lt_add_left hj 4)
    rw [← getD_detector] at hone
    exact hone.trans ⟨fun h => Nat.add_left_cancel h, fun h => congrArg (4 + ·) h⟩

theorem twistFits_iff (m n : Nat) : twistFits m n = true ↔ m ^ 5 ≤ 10 ^ 4 * n ^ 5 ∧ n ^ 5 ≤ 10 ^ 4 * m ^ 5 := by
  unfold twistFits
  rw [Bool.and_eq_true, decide_eq_true_iff, decide_eq_true_iff]

theorem observe_eq_some : observe ds = some k ↔ ∃ a b : Nat, oneOn ds 0 = some a ∧ oneOn ds 4 = some b ∧
    twistFits (ds.toList.getD a .reset).level (ds.toList.getD (4 + b) .reset).level = true ∧ pairKey a b = k := by
  unfold observe
  split
  · next a b ha hb =>
    constructor
    · intro h
      split at h
      · next hfits => exact ⟨a, b, ha, hb, hfits, Option.some.inj h⟩
      · cases h
    · rintro ⟨a', b', ha', hb', hfits, hkey⟩
      cases ha.symm.trans ha'
      cases hb.symm.trans hb'
      rw [if_pos hfits, hkey]
  · next hnot =>
    refine ⟨fun h => (by cases h), fun ⟨a, b, ha, hb, _⟩ => absurd hb (hnot a b ha)⟩

/-- The keypad, row by low tone and column by high tone (R96). -/
def keypad : List (List Key) :=
  [[.k1, .k2, .k3, .kA], [.k4, .k5, .k6, .kB], [.k7, .k8, .k9, .kC], [.star, .k0, .hash, .kD]]

theorem keypad_pair : ∀ a < 4, ∀ b < 4, keypad[a]?.bind (·[b]?) = some (pairKey a b) := by decide

/-- The pair observed: one low tone and one high tone within the twist, and their key (R96). -/
theorem observe_iff (ds : Vector Detector 9) (k : Key) : observe ds = some k ↔ ∃ a b : Fin 9, a < 4 ∧ 4 ≤ b ∧ b < 8 ∧
    (∀ j : Fin 9, j < 4 → (ds[j].on = true ↔ j = a)) ∧
    (∀ j : Fin 9, 4 ≤ j → j < 8 → (ds[j].on = true ↔ j = b)) ∧
    ds[a].level ^ 5 ≤ 10 ^ 4 * ds[b].level ^ 5 ∧ ds[b].level ^ 5 ≤ 10 ^ 4 * ds[a].level ^ 5 ∧
    keypad[a.val]?.bind (·[b.val - 4]?) = some k := by
  rw [observe_eq_some]
  constructor
  · rintro ⟨a, b, ha, hb, hfits, hkey⟩
    obtain ⟨halow, hlow⟩ := oneOn_low.mp ha
    obtain ⟨hblow, hhigh⟩ := oneOn_high.mp hb
    have hla := getD_detector ds ⟨a, by omega⟩
    have hlb := getD_detector ds ⟨4 + b, by omega⟩
    rw [hla, hlb, twistFits_iff] at hfits
    obtain ⟨hone, hother⟩ := hfits
    refine ⟨⟨a, by omega⟩, ⟨4 + b, by omega⟩, halow, Nat.le_add_right 4 b, Nat.add_lt_add_left hblow 4,
      fun j hj => (hlow j hj).trans ⟨fun h => Fin.ext h, fun h => congrArg Fin.val h⟩,
      fun j hj hj' => (hhigh j hj hj').trans ⟨fun h => Fin.ext h, fun h => congrArg Fin.val h⟩, hone, hother, ?_⟩
    have hpair := keypad_pair a halow b hblow
    rw [hkey] at hpair
    change keypad[a]?.bind (fun row => row[4 + b - 4]?) = some k
    simp only [Nat.add_sub_cancel_left]
    exact hpair
  · rintro ⟨a, b, ha, hb, hb', hlow, hhigh, hone, hother, hkey⟩
    have halow : a.val < 4 := ha
    have hfour : 4 ≤ b.val := hb
    have height : b.val < 8 := hb'
    have hback : 4 + (b.val - 4) = b.val := by omega
    refine ⟨a.val, b.val - 4, oneOn_low.mpr ⟨halow, fun j hj => (hlow j hj).trans Fin.ext_iff⟩,
      oneOn_high.mpr ⟨by omega, fun j hj hj' => ?_⟩, ?_, ?_⟩
    · rw [hback]
      exact (hhigh j hj hj').trans Fin.ext_iff
    · rw [hback, getD_detector, getD_detector, twistFits_iff]
      exact ⟨hone, hother⟩
    · have hpair := keypad_pair a.val halow (b.val - 4) (by omega)
      exact Option.some.inj (hpair.symm.trans hkey)

end Sys2Proof.Machine
end

section
/-! Prompts: how long each lasts, and the samples it sends (R104 to R106). -/

namespace Sys2Proof.Machine

/-! ### The run of a prompt (R104, R105) -/

/-- One sample of a prompt that may have ended. -/
def promptStep (r : Option PromptRun) : Option PromptRun := r.bind PromptRun.next

theorem promptStep_none (n : Nat) : promptStep^[n] none = none := Function.iterate_fixed rfl n

theorem next_of_long {r : PromptRun} (h : 1 < r.left) : r.next = some { r with left := r.left - 1 } := if_pos h

theorem next_of_off {r : PromptRun} (h : r.left ≤ 1) (hoff : r.on = false) :
    r.next = some ⟨r.prompt, true, r.rep + 1, r.prompt.onSamples⟩ := by
  rw [PromptRun.next, if_neg (Nat.not_lt.mpr h), if_neg (by simp [hoff])]

theorem next_of_on {r : PromptRun} (h : r.left ≤ 1) (hon : r.on = true) (hmore : r.prompt.repeats ≠ some r.rep) :
    r.next = some ⟨r.prompt, false, r.rep, r.prompt.offSamples⟩ := by
  rw [PromptRun.next, if_neg (Nat.not_lt.mpr h), if_pos hon, if_neg hmore]

theorem next_of_last {r : PromptRun} (h : r.left ≤ 1) (hon : r.on = true) (hlast : r.prompt.repeats = some r.rep) :
    r.next = none := by
  rw [PromptRun.next, if_neg (Nat.not_lt.mpr h), if_pos hon, if_pos hlast]

/-- A phase of a prompt runs out, and the prompt goes on as its last sample does. -/
theorem promptStep_phase (p : Prompt) (on : Bool) (rep n : Nat) :
    promptStep^[n + 1] (some ⟨p, on, rep, n + 1⟩) = PromptRun.next ⟨p, on, rep, 1⟩ := by
  have hlast := PromptRun.next_iterate ⟨p, on, rep, n + 1⟩ n (Nat.lt_succ_self n)
  have hleft : n + 1 - n = 1 := Nat.add_sub_cancel_left n 1
  rw [Function.iterate_succ_apply']
  unfold promptStep
  rw [hlast, hleft]
  rfl

/-- A prompt has gone on for `n` samples and stands at a phase's start. -/
def AfterSamples (n : Nat) (p : Prompt) (r : Option PromptRun) : Prop := promptStep^[n] (some (.start p)) = r

theorem AfterSamples.phase {p : Prompt} {n m rep : Nat} {on : Bool} (h : AfterSamples n p (some ⟨p, on, rep, m + 1⟩)) :
    AfterSamples (n + (m + 1)) p (PromptRun.next ⟨p, on, rep, 1⟩) := by
  unfold AfterSamples at *
  rw [Nat.add_comm, Function.iterate_add_apply, h]
  exact promptStep_phase p on rep m

/-- In its last phase's last sample the prompt still runs. -/
theorem AfterSamples.last {p : Prompt} {n m rep : Nat} {on : Bool} (h : AfterSamples n p (some ⟨p, on, rep, m + 1⟩)) :
    AfterSamples (n + m) p (some ⟨p, on, rep, 1⟩) := by
  unfold AfterSamples at *
  have hlast := PromptRun.next_iterate ⟨p, on, rep, m + 1⟩ m (Nat.lt_succ_self m)
  have hleft : m + 1 - m = 1 := Nat.add_sub_cancel_left m 1
  rw [Nat.add_comm, Function.iterate_add_apply, h]
  rw [hleft] at hlast
  exact hlast

theorem afterSamples_start (p : Prompt) : AfterSamples 0 p (some ⟨p, true, 1, p.onSamples⟩) := rfl

/-- A prompt ends at its last sample, not before. -/
def Lasts (p : Prompt) (n : Nat) : Prop :=
  promptStep^[n] (some (.start p)) = none ∧ promptStep^[n - 1] (some (.start p)) ≠ none

theorem AfterSamples.lasts {p : Prompt} {n m rep : Nat} (h : AfterSamples n p (some ⟨p, true, rep, m + 1⟩))
    (hlast : p.repeats = some rep) : Lasts p (n + (m + 1)) := by
  refine ⟨h.phase.trans (next_of_last (Nat.le_refl 1) rfl hlast), ?_⟩
  have hbefore := h.last
  unfold AfterSamples at hbefore
  rw [show n + (m + 1) - 1 = n + m from rfl, hbefore]
  exact Option.some_ne_none _

/-- One repeat more: an on-phase that is not the last, and its off-phase. -/
theorem AfterSamples.repeat {p : Prompt} {n m k rep : Nat} (h : AfterSamples n p (some ⟨p, true, rep, m + 1⟩))
    (hmore : p.repeats ≠ some rep) (hoff : p.offSamples = k + 1) :
    AfterSamples (n + (m + 1) + (k + 1)) p (some ⟨p, true, rep + 1, p.onSamples⟩) := by
  have hon := h.phase
  rw [next_of_on (Nat.le_refl 1) rfl hmore] at hon
  change AfterSamples _ p (some ⟨p, false, rep, p.offSamples⟩) at hon
  rw [hoff] at hon
  have hafter := hon.phase
  rw [next_of_off (Nat.le_refl 1) rfl] at hafter
  exact hafter

theorem lasts_ready : Lasts .ready 1200 := (afterSamples_start .ready).lasts (n := 0) (m := 1199) rfl

theorem lasts_refused : Lasts .refused 3200 := (afterSamples_start .refused).lasts (n := 0) (m := 3199) rfl

theorem lasts_ending : Lasts .ending 2400 := (afterSamples_start .ending).lasts (n := 0) (m := 2399) rfl

theorem lasts_accepted : Lasts .accepted 1920 := by
  have hsecond := (afterSamples_start .accepted).repeat (n := 0) (m := 639) (k := 639) (by decide) rfl
  exact hsecond.lasts (n := 1280) (m := 639) rfl

theorem lasts_paused : Lasts .paused 4000 := by
  have hsecond := (afterSamples_start .paused).repeat (n := 0) (m := 799) (k := 799) (by decide) rfl
  have hthird := AfterSamples.repeat (n := 1600) (m := 799) (k := 799) hsecond (by decide) rfl
  exact AfterSamples.lasts (n := 3200) (m := 799) hthird rfl

theorem lasts_memoryFull : Lasts .memoryFull 7200 := by
  have hsecond := (afterSamples_start .memoryFull).repeat (n := 0) (m := 799) (k := 799) (by decide) rfl
  have hthird := AfterSamples.repeat (n := 1600) (m := 799) (k := 799) hsecond (by decide) rfl
  have hfourth := AfterSamples.repeat (n := 3200) (m := 799) (k := 799) hthird (by decide) rfl
  have hfifth := AfterSamples.repeat (n := 4800) (m := 799) (k := 799) hfourth (by decide) rfl
  exact AfterSamples.lasts (n := 6400) (m := 799) hfifth rfl

theorem next_keeps_wait {r q : PromptRun} (h : r.prompt = .wait) (hnext : r.next = some q) : q.prompt = .wait := by
  unfold PromptRun.next at hnext
  split at hnext
  · cases hnext
    exact h
  · split at hnext
    · split at hnext
      · cases hnext
      · cases hnext
        exact h
    · cases hnext
      exact h

theorem next_wait {r : PromptRun} (h : r.prompt = .wait) : r.next ≠ none := by
  have hrepeats : r.prompt.repeats ≠ some r.rep := by
    rw [h]
    exact (Option.some_ne_none r.rep).symm
  unfold PromptRun.next
  rw [if_neg hrepeats]
  split
  · exact Option.some_ne_none _
  · split <;> exact Option.some_ne_none _

/-- A Wait prompt has no last sample (R104). -/
theorem wait_goes_on (n : Nat) : ∃ r : PromptRun, promptStep^[n] (some (.start .wait)) = some r ∧ r.prompt = .wait := by
  induction n with
  | zero => exact ⟨_, rfl, rfl⟩
  | succ n ih =>
    obtain ⟨r, hr, hwait⟩ := ih
    obtain ⟨q, hq⟩ := Option.ne_none_iff_exists'.mp (next_wait hwait)
    refine ⟨q, ?_, next_keeps_wait hwait hq⟩
    rw [Function.iterate_succ_apply', hr]
    exact hq

/-! ### The samples of an on-phase (R106) -/

/-- The sum that sample `n` of two tones, in steps of 10 Hz, is rounded from (R106). -/
def tonesAt (a b n : Nat) : Int := sineAt (a * n) + sineAt (b * n)

/-- A sum rounds to a sample, and lies clear of the middle between two samples. -/
abbrev RoundsClear (x : Int) : Prop :=
  |roundSample x * 65536 - x| ≤ 32765 ∧ -32768 ≤ roundSample x ∧ roundSample x < 32768

/-- A sum's size lies clear of the middle between two samples, and within what a sample holds. -/
def clearSize (m : Nat) : Bool := (m % 65536 ≤ 32765 || 32771 ≤ m % 65536) && m < 2147418112

theorem roundsClear_of {x : Int} (h : clearSize x.natAbs = true) : RoundsClear x := by
  simp only [clearSize, Bool.and_eq_true, Bool.or_eq_true, decide_eq_true_eq] at h
  obtain ⟨hclear, hsize⟩ := h
  rw [RoundsClear, abs_le]
  unfold roundSample
  dsimp only
  split
  · omega
  · omega

/-- The sums of two tones are clear at `n` samples from sample `m` on. -/
def clearFrom (a b m n : Nat) : Bool := (List.range n).all fun k => clearSize (tonesAt a b (m + k)).natAbs

theorem clearFrom_iff (a b m n : Nat) :
    clearFrom a b m n = true ↔ ∀ k < n, clearSize (tonesAt a b (m + k)).natAbs = true := by
  simp only [clearFrom, List.all_eq_true, List.mem_range]

/-- A period in stretches of 40 samples each. -/
theorem tonesAt_clear_stretches {a b n : Nat} (h : ∀ c < n, clearFrom a b (40 * c) 40 = true) :
    ∀ k < 40 * n, RoundsClear (tonesAt a b k) := by
  intro k hk
  have hstretch := (clearFrom_iff a b (40 * (k / 40)) 40).mp (h (k / 40) (by omega)) (k % 40) (by omega)
  rw [Nat.div_add_mod] at hstretch
  exact roundsClear_of hstretch

/-- The sums of the prompts' tones over one period each (R106, log 23). -/
theorem tonesAt_clear_440_880 : ∀ n < 200, RoundsClear (tonesAt 44 88 n) :=
  tonesAt_clear_stretches (n := 5) fun c hc => by
    interval_cases c <;> decide +kernel

theorem tonesAt_clear_330_500 : ∀ n < 800, RoundsClear (tonesAt 33 50 n) :=
  tonesAt_clear_stretches (n := 20) fun c hc => by
    interval_cases c <;> decide +kernel

theorem tonesAt_clear_400_600 : ∀ n < 40, RoundsClear (tonesAt 40 60 n) :=
  tonesAt_clear_stretches (n := 1) (by decide +kernel)

theorem tonesAt_clear_880_1100 : ∀ n < 400, RoundsClear (tonesAt 88 110 n) :=
  tonesAt_clear_stretches (n := 10) fun c hc => by
    interval_cases c <;> decide +kernel

theorem tonesAt_clear_500_1100 : ∀ n < 80, RoundsClear (tonesAt 50 110 n) :=
  tonesAt_clear_stretches (n := 2) fun c hc => by
    interval_cases c <;> decide +kernel

theorem sineAt_congr {j k : Nat} (h : j % 800 = k % 800) : sineAt j = sineAt k := by
  unfold sineAt
  rw [h]

/-- A period of a tone in samples. -/
theorem sineAt_period {a q : Nat} (h : a * q % 800 = 0) (n : Nat) : sineAt (a * n) = sineAt (a * (n % q)) := by
  refine sineAt_congr ?_
  have hsplit : a * n = a * (n % q) + a * q * (n / q) := by
    calc a * n = a * (n % q + q * (n / q)) := by rw [Nat.mod_add_div]
      _ = _ := by ring
  rw [hsplit, Nat.add_mod, Nat.mul_mod (a * q), h, Nat.zero_mul, Nat.zero_mod, Nat.add_zero, Nat.mod_mod]

theorem tonesAt_clear {a b q : Nat} (hq : 0 < q) (ha : a * q % 800 = 0) (hb : b * q % 800 = 0)
    (h : ∀ n < q, RoundsClear (tonesAt a b n)) (n : Nat) : RoundsClear (tonesAt a b n) := by
  have hperiod : tonesAt a b n = tonesAt a b (n % q) := by
    unfold tonesAt
    rw [sineAt_period ha n, sineAt_period hb n]
  rw [hperiod]
  exact h _ (Nat.mod_lt n hq)

/-- Every sample of every prompt rounds clear of the middle (R106, log 23). -/
theorem prompt_clear (p : Prompt) (n : Nat) : RoundsClear (tonesAt (p.tones.1 / 10) (p.tones.2 / 10) n) := by
  cases p
  case ready | accepted => exact tonesAt_clear (by decide) rfl rfl tonesAt_clear_440_880 n
  case refused | memoryFull => exact tonesAt_clear (by decide) rfl rfl tonesAt_clear_330_500 n
  case wait => exact tonesAt_clear (by decide) rfl rfl tonesAt_clear_400_600 n
  case ending => exact tonesAt_clear (by decide) rfl rfl tonesAt_clear_880_1100 n
  case paused => exact tonesAt_clear (by decide) rfl rfl tonesAt_clear_500_1100 n

/-- The phase of a tone at a sample, in radians. -/
theorem phase_radians {f : Nat} (h : 10 * (f / 10) = f) (n : Nat) :
    ((f / 10 * n : Nat) : ℝ) * (Real.pi / 400) = 2 * Real.pi * f * n / 8000 := by
  have hf : (f : ℝ) = 10 * ((f / 10 : Nat) : ℝ) := by exact_mod_cast h.symm
  rw [hf, Nat.cast_mul]
  ring

theorem prompt_tens (p : Prompt) : 10 * (p.tones.1 / 10) = p.tones.1 ∧ 10 * (p.tones.2 / 10) = p.tones.2 := by
  cases p <;> exact ⟨rfl, rfl⟩

theorem sample_toInt (p : Prompt) (n : Nat) :
    (p.sample n).toInt = roundSample (tonesAt (p.tones.1 / 10) (p.tones.2 / 10) n) := by
  obtain ⟨-, hlow, hhigh⟩ := prompt_clear p n
  change (BitVec.ofInt 16 (roundSample (tonesAt (p.tones.1 / 10) (p.tones.2 / 10) n))).toInt = _
  rw [BitVec.toInt_ofInt]
  exact Int.bmod_eq_of_le hlow hhigh

/-- A prompt's sample is the sum of its two sines, rounded (R106). -/
theorem sample_near (p : Prompt) (n : Nat) :
    |((p.sample n).toInt : ℝ) - (8231 * Real.sin (2 * Real.pi * p.tones.1 * n / 8000) +
      8231 * Real.sin (2 * Real.pi * p.tones.2 * n / 8000))| < 1 / 2 := by
  obtain ⟨hfirst, hsecond⟩ := prompt_tens p
  have hlow := sineAt_near (p.tones.1 / 10 * n)
  have hhigh := sineAt_near (p.tones.2 / 10 * n)
  rw [phase_radians hfirst] at hlow
  rw [phase_radians hsecond] at hhigh
  obtain ⟨hclear, -⟩ := prompt_clear p n
  have hround : |(roundSample (tonesAt (p.tones.1 / 10) (p.tones.2 / 10) n) : ℝ) * 65536 -
      ((sineAt (p.tones.1 / 10 * n) : ℝ) + sineAt (p.tones.2 / 10 * n))| ≤ 32765 := by
    have hcast : ((|roundSample (tonesAt (p.tones.1 / 10) (p.tones.2 / 10) n) * 65536 -
        tonesAt (p.tones.1 / 10) (p.tones.2 / 10) n| : Int) : ℝ) ≤ ((32765 : Int) : ℝ) := Int.cast_le.mpr hclear
    unfold tonesAt at hcast ⊢
    push_cast at hcast
    exact hcast
  rw [sample_toInt]
  rw [abs_le] at hlow hhigh hround
  rw [abs_lt]
  constructor <;> linarith [hlow.1, hlow.2, hhigh.1, hhigh.2, hround.1, hround.2]

end Sys2Proof.Machine
end

section
/-! What a frame sync does in the Tone Unit of every line (R93 to R102, R104 to R106). -/

namespace Sys2Proof.Machine.State

open Sys2Proof.Machine

variable {s t : State} {l : LineNo} {k : Key} {d : Tone} {bank : FilterBank} {x : Sample}

/-! ### The Tone Unit after a frame sync -/

/-- With no key down: the candidate, and its recognition (R97). -/
theorem feed_up (hup : d.keyDown = none) (hrows : ∀ r ∈ eventRows l s.lines[l] d.heldMark (d.feed bank x).2, r ∈ t.reports) :
    (d.feed bank x).1.downRun = d.downRun ∧ (d.feed bank x).1.gapRun = d.gapRun ∧
    (observe (d.heardBy bank x) = none → (d.feed bank x).1.candidate = none ∧ (d.feed bank x).1.candidateRun = 0) ∧
    (∀ k, observe (d.heardBy bank x) = some k → (d.feed bank x).1.candidate = some k ∧
      (d.feed bank x).1.candidateRun = (if d.candidate = some k then d.candidateRun + 1 else 1) ∧
      (320 ≤ (d.feed bank x).1.candidateRun → keyRow s.lines[l].state l k ∈ t.reports)) := by
  have hup' : (d.heard bank x).keyDown = none := hup
  have hwork := (d.heard bank x).keyWork_up hup' (observe (d.heardBy bank x))
  obtain ⟨hdown, hgap, hcandidate, hrun, hevents⟩ := d.feed_key bank x
  obtain ⟨kdown, kgap⟩ := (d.heard bank x).seekKey_keeps (observe (d.heardBy bank x))
  rw [hwork] at hdown hgap hcandidate hrun hevents
  refine ⟨hdown.trans kdown, hgap.trans kgap, fun hnone => ?_, fun k hk => ⟨?_, ?_, fun hlong => hrows _ ?_⟩⟩
  · rw [hcandidate, hrun, hnone]
    exact ⟨rfl, rfl⟩
  · rw [hcandidate, hk]
    rfl
  · rw [hrun, hk]
    rfl
  · rw [hrun, hk] at hlong
    rw [hevents, hk, Tone.seekKey_recognises hlong]
    exact List.mem_cons_self

/-- The rows that a release at a sample owes. -/
def ReleaseOwed (l : LineNo) (k : Key) (d : Tone) (c : Line) (t : State) : Prop :=
  (d.becomesHeld → releaseRow (c.afterHeld k) true l k ∈ t.reports) ∧
    (¬d.becomesHeld → releaseRow c d.heldMark l k ∈ t.reports)

/-- With a key down: its run, its hold, the gap and the release (R98 to R100). -/
theorem feed_down (hdown : d.keyDown = some k)
    (hrows : ∀ r ∈ eventRows l s.lines[l] d.heldMark (d.feed bank x).2, r ∈ t.reports) :
    (d.feed bank x).1.downRun = min 4800 (d.downRun + 1) ∧
    (d.becomesHeld → heldRow s.lines[l] l k ∈ t.reports) ∧
    (observe (d.heardBy bank x) = some k → (d.feed bank x).1.gapRun = 0 ∧
      (d.feed bank x).1.candidate = d.candidate ∧ (d.feed bank x).1.candidateRun = d.candidateRun) ∧
    (observe (d.heardBy bank x) = none → (d.feed bank x).1.gapRun = d.gapRun + 1 ∧
      (d.feed bank x).1.candidate = d.candidate ∧ (d.feed bank x).1.candidateRun = d.candidateRun ∧
      (239 ≤ d.gapRun → ReleaseOwed l k d s.lines[l] t)) ∧
    (∀ k', observe (d.heardBy bank x) = some k' → k' ≠ k → (d.feed bank x).1.gapRun = d.gapRun ∧
      (d.feed bank x).1.candidate = some k' ∧ (d.feed bank x).1.candidateRun = 1 ∧ ReleaseOwed l k d s.lines[l] t) := by
  have hdown' : (d.heard bank x).keyDown = some k := hdown
  have hwork := (d.heard bank x).keyWork_down hdown' (observe (d.heardBy bank x))
  obtain ⟨hrun, hgap, hcandidate, hcandidateRun, hevents⟩ := d.feed_key bank x
  obtain ⟨hheld, hnotHeld⟩ := eventRows_released d l s.lines[l] k
  rw [hwork] at hrun hgap hcandidate hcandidateRun hevents
  have hreleased : (d.feed bank x).2 = d.heldEvents k ++ [.released k] → ReleaseOwed l k d s.lines[l] t := by
    intro heq
    rw [heq] at hrows
    exact ⟨fun h => hrows _ (hheld h), fun h => hrows _ (hnotHeld h)⟩
  rw [hrun, hgap, hcandidate, hcandidateRun]
  cases hseen : observe (d.heardBy bank x) with
  | none =>
    rw [hseen, Tone.followKey_none] at hevents
    rw [Tone.followKey_none]
    refine ⟨rfl, fun h => hrows _ ?_, fun hk => (by cases hk), fun _ => ⟨rfl, rfl, rfl, fun hlong => hreleased ?_⟩,
      fun k' hk' => (by cases hk')⟩
    · rw [hevents]
      dsimp only
      split
      · exact eventRows_held (d := d) h l s.lines[l] k [.released k]
      · rw [show (d.heard bank x).heldEvents k = d.heldEvents k ++ [] from (List.append_nil _).symm]
        exact eventRows_held (d := d) h l s.lines[l] k []
    · exact hevents.trans (if_pos (Nat.succ_le_succ hlong))
  | some k' =>
    by_cases hsame : k' = k
    · subst hsame
      rw [hseen, Tone.followKey_same] at hevents
      rw [Tone.followKey_same]
      refine ⟨rfl, fun h => hrows _ ?_, fun _ => ⟨rfl, rfl, rfl⟩, fun hnone => (by cases hnone),
        fun k'' hk'' hne => absurd (Option.some.inj hk'').symm hne⟩
      rw [hevents]
      dsimp only
      rw [show (d.heard bank x).heldEvents k' = d.heldEvents k' ++ [] from (List.append_nil _).symm]
      exact eventRows_held (d := d) h l s.lines[l] k' []
    · rw [hseen, Tone.followKey_other hsame] at hevents
      rw [Tone.followKey_other hsame]
      refine ⟨rfl, fun h => hrows _ ?_, fun heq => absurd (Option.some.inj heq) hsame, fun hnone => (by cases hnone),
        fun k'' hk'' _ => ⟨rfl, hk'', rfl, hreleased hevents⟩⟩
      rw [hevents]
      exact eventRows_held (d := d) h l s.lines[l] k [.released k]

/-- A line's prompt and what it sends at a frame sync (R65, R105, R106, R108). -/
theorem synced_prompt {r : PromptRun} (h : Synced l x s t) (hr : s.tones[l].prompt = some r) :
    t.ports[l].out = (if r.on = true then r.prompt.sample (r.prompt.onSamples - r.left) else 0#16) ∧
    (1 < r.left → t.tones[l].prompt = some { r with left := r.left - 1 }) ∧
    (r.left ≤ 1 → r.on = false → t.tones[l].prompt = some ⟨r.prompt, true, r.rep + 1, r.prompt.onSamples⟩) ∧
    (r.left ≤ 1 → r.on = true → r.prompt.repeats ≠ some r.rep →
      t.tones[l].prompt = some ⟨r.prompt, false, r.rep, r.prompt.offSamples⟩) ∧
    (r.left ≤ 1 → r.on = true → r.prompt.repeats = some r.rep →
      t.tones[l].prompt = some { r with left := 0 } ∧ .promptEnded l ∈ t.reports) := by
  have hprompt : t.tones[l].prompt = some (promptAfter r) := by
    rw [h.tone, hr]
    rfl
  have hafter : ∀ {q}, r.next = some q → t.tones[l].prompt = some q := fun {q} hq => by
    rw [hprompt, promptAfter, hq, Option.getD_some]
  refine ⟨?_, fun hlong => hafter (next_of_long hlong), fun hleft hoff => hafter (next_of_off hleft hoff),
    fun hleft hon hmore => hafter (next_of_on hleft hon hmore), fun hleft hon hlast => ⟨?_, ?_⟩⟩
  · rw [h.port, outSample, hr]
    rfl
  · rw [hprompt, promptAfter, next_of_last hleft hon hlast, Option.getD_none]
  · exact h.ended r hr (next_of_last hleft hon hlast)

/-- A line without a prompt sends its slice's sample, or zero (R65). -/
theorem outSample_slice {samples : List Sample} (hprompt : s.tones[l].prompt = none) (hout : s.ports[l].outbound = some samples) :
    s.outSample l = samples.getD s.frames 0#16 := by
  simp only [outSample, hprompt, hout]

theorem outSample_zero (hprompt : s.tones[l].prompt = none) (hout : s.ports[l].outbound = none) : s.outSample l = 0#16 := by
  simp only [outSample, hprompt, hout]

/-- Settles O7: the samples of the Tone Units, the pair observed, the rows of the keys, and the prompts. -/
theorem toneSamples : Obligations.ToneSamples := by
  unfold Obligations.ToneSamples
  refine ⟨fun s rest inbound l hrun => ?sample, observe_iff, fun s l k hfree => ?recognised, fun s l k c mark hdown =>
    ⟨?released, fun hmark => ?held⟩, rfl, fun p hp => ?lasts, fun n => ?wait, fun p n _ => sample_near p n⟩
  case sample =>
    have hsynced := frameSync_synced hrun inbound rest l
    generalize s.tick (.frameSync inbound) rest = t at *
    have htone := hsynced.tone
    have hrows := hsynced.events
    obtain ⟨hkeyDown, hheldMark, hkeySeen, -⟩ := Tone.feed_keeps s.filters inbound[l] s.tones[l]
    obtain ⟨htouched, hspeech⟩ := s.tones[l].feed_flags s.filters inbound[l]
    have hdetectors := s.tones[l].feed_detectors s.filters inbound[l]
    have hdetectors' : t.tones[l].detectors = s.tones[l].heardBy s.filters inbound[l] := by
      rw [htone]
      exact hdetectors
    dsimp only
    rw [hdetectors']
    refine ⟨?_, fun j => ?_, ?_, ?_, ?_, ?_, ?_, fun hup => ?_, fun k hdown => ?_, fun hnone => ⟨?_, ?_⟩, fun r hr =>
      synced_prompt hsynced hr⟩
    · rw [htone]
      exact s.tones[l].feed_input s.filters inbound[l]
    · rw [Tone.heardBy_get]
      exact Detector.feed_spec (s.filters.sections j) j inbound[l] s.tones[l].detectors[j]
    · rw [htone]
      exact htouched
    · rw [htone]
      exact hspeech
    · rw [htone]
      exact hkeyDown
    · rw [htone]
      exact hheldMark
    · rw [htone]
      exact hkeySeen
    · rw [htone]
      exact feed_up hup hrows
    · rw [htone]
      exact feed_down hdown hrows
    · rw [htone]
      exact congrArg (Option.map promptAfter) hnone
    · have hsent : t.ports[l].out = s.outSample l := by rw [hsynced.port]
      rw [hsent]
      cases hout : s.ports[l].outbound with
      | none => exact outSample_zero hnone hout
      | some samples => exact outSample_slice hnone hout
  case recognised =>
    exact ⟨_, exec_keyRow _ l k s, keyRecognised_tone (s := s.taken _) hfree k⟩
  case released =>
    exact ⟨_, exec_releaseRow c mark l k s, keyReleased_tone (s := s.taken _) hdown⟩
  case held =>
    exact ⟨_, exec_heldRow c l k s, keyHeld_tone (s := s.taken _) hdown hmark⟩
  case lasts =>
    simp only [List.mem_cons, List.not_mem_nil, or_false] at hp
    rcases hp with rfl | rfl | rfl | rfl | rfl | rfl
    · exact lasts_ready
    · exact lasts_accepted
    · exact lasts_refused
    · exact lasts_ending
    · exact lasts_paused
    · exact lasts_memoryFull
  case wait =>
    obtain ⟨r, hr, -⟩ := wait_goes_on n
    exact fun hnone => absurd (hr.symm.trans hnone) (by simp)

end Sys2Proof.Machine.State
end
